-- ==== Sys2Proof/Word.lean ====
section
/-! DEFINITION. The words that cross the serial link and the plainest arithmetic of the manual
(spec/00_scope.md, Conventions). -/

namespace Sys2Proof

/-- One byte of the serial link (R180). -/
abbrev Byte := BitVec 8

/-- A 16-bit word: a checkpoint code, a CRC, an append count (R104, R181). -/
abbrev Word16 := BitVec 16

/-- A 32-bit word: an uptime, a condition set (timebase of 00_scope.md; R190). -/
abbrev Word32 := BitVec 32

/-- A saturating count: one more, but never above `max` (00_scope.md, Arithmetic). -/
def satInc (max n : Nat) : Nat :=
  if n < max then n + 1 else max

/-- The milliseconds from `since` to `now`, modulo 2^32 (07, "Differences between two uptimes"). -/
def elapsed (now since : Word32) : Nat :=
  (now - since).toNat

end Sys2Proof
end

