-- ==== Sys2Proof/Syntax.lean ====
section
/-! DEFINITION. The commands of the part: one constructor of `Instr` per row of
spec/opcode_table.json, and the small types their operands are made of. -/

namespace Sys2Proof

/-- Three like things: the heaters H0 to H2. -/
inductive Three where
  | n0 | n1 | n2
  deriving DecidableEq, Repr

/-- Four like things: the zones Z0 to Z3, the ladder steps 0 to 3. -/
inductive Four where
  | n0 | n1 | n2 | n3
  deriving DecidableEq, Repr

/-- Six like things: the trigger units T0 to T5, the chords C0 to C5. -/
inductive Six where
  | n0 | n1 | n2 | n3 | n4 | n5
  deriving DecidableEq, Repr

/-- A heater (00_scope.md, Names of instances). -/
abbrev Heater := Three

/-- A zone (00_scope.md, Names of instances). -/
abbrev Zone := Four

/-- A trigger unit (00_scope.md, Names of instances). -/
abbrev TrigUnit := Six

/-- A chord (00_scope.md, Names of instances). -/
abbrev Chord := Six

/-- One value for each of three. -/
structure PerThree (α : Type) where
  v0 : α
  v1 : α
  v2 : α
  deriving DecidableEq, Repr

/-- One value for each of four. -/
structure PerFour (α : Type) where
  v0 : α
  v1 : α
  v2 : α
  v3 : α
  deriving DecidableEq, Repr

/-- One value for each of six. -/
structure PerSix (α : Type) where
  v0 : α
  v1 : α
  v2 : α
  v3 : α
  v4 : α
  v5 : α
  deriving DecidableEq, Repr

/-- A byte as the receiver sees it: its value, and whether its stop bit was high (R182). -/
structure RxByte where
  val : Byte
  stopHigh : Bool
  deriving DecidableEq, Repr

/-- What is done at the completion of one ZMON round, beside the update of the records themselves:
ZMON hands on its latches and events (R1, R4, R9, R12), a crit excursion of a zone is reported to
HPS (R11), HPS tests admission (R54), KSU judges recalibration and suppression (R119, R126). The
spec lets these fall in either order (R65, R149, R174), so their order is an operand of
`Instr.sampleRound`: log entry 3. -/
inductive RoundTask where
  | report
  | crit (z : Zone)
  | admission
  | keypad
  deriving DecidableEq, Repr

/-- A command of the part: one constructor per row of spec/opcode_table.json, in the table's order.

A request row carries the TAG and the payload bytes of the request frame (R180, R189); `badKind`
its KIND too. A row for a measurement carries what the converters give at that moment. A row whose
parts the spec lets fall in either order carries the order (log entry 3). Every other row names an
event that needs no value. -/
inductive Instr where
  /-- POWER_ON_RESET (R199). -/
  | powerOnReset
  /-- RST_N_ASSERT (R200). -/
  | rstNAssert
  /-- RST_N_RELEASE (R200). -/
  | rstNRelease
  /-- FRAME_RECEIVED (R182, R184): the bytes that arrive on RXD with no long gap between them. -/
  | frameReceived (bytes : List RxByte)
  /-- FRAME_GAP_TIMEOUT (R182). -/
  | frameGapTimeout
  /-- LINK_RESET (R183). -/
  | linkReset
  /-- REPLY_SENT (R185). -/
  | replySent
  /-- BAD_KIND (R185). -/
  | badKind (kind tag : Byte) (payload : List Byte)
  /-- PING (R194). -/
  | ping (tag : Byte) (payload : List Byte)
  /-- GET_STATUS (R192). -/
  | getStatus (tag : Byte) (payload : List Byte)
  /-- GET_CONDITIONS (R170). -/
  | getConditions (tag : Byte) (payload : List Byte)
  /-- ACK_CONDITIONS (R169). -/
  | ackConditions (tag : Byte) (payload : List Byte)
  /-- FETCH_NOTICES (R176). -/
  | fetchNotices (tag : Byte) (payload : List Byte)
  /-- READ_KEYS (R143). -/
  | readKeys (tag : Byte) (payload : List Byte)
  /-- KICK (R80 to R85, R106). -/
  | kick (tag : Byte) (payload : List Byte)
  /-- CHECKPOINT (R105). -/
  | checkpoint (tag : Byte) (payload : List Byte)
  /-- READ_TRACE (R111). -/
  | readTrace (tag : Byte) (payload : List Byte)
  /-- THAW_TRACE (R108). -/
  | thawTrace (tag : Byte) (payload : List Byte)
  /-- READ_RESTART (R97). -/
  | readRestart (tag : Byte) (payload : List Byte)
  /-- REQUEST_STOP (R68, R69). -/
  | requestStop (tag : Byte) (payload : List Byte)
  /-- REQUEST_RESTART (R93). -/
  | requestRestart (tag : Byte) (payload : List Byte)
  /-- COMMIT_POLICY (R98). -/
  | commitPolicy (tag : Byte) (payload : List Byte)
  /-- WRITE_ZONE (R14, R15). -/
  | writeZone (tag : Byte) (payload : List Byte)
  /-- WRITE_HEATER (R35). -/
  | writeHeater (tag : Byte) (payload : List Byte)
  /-- WRITE_BUDGET (R36). -/
  | writeBudget (tag : Byte) (payload : List Byte)
  /-- WRITE_FAN (R42). -/
  | writeFan (tag : Byte) (payload : List Byte)
  /-- WRITE_WATCHDOG (R99). -/
  | writeWatchdog (tag : Byte) (payload : List Byte)
  /-- WRITE_LADDER (R100). -/
  | writeLadder (tag : Byte) (payload : List Byte)
  /-- WRITE_HOST_POWER (R75). -/
  | writeHostPower (tag : Byte) (payload : List Byte)
  /-- WRITE_KEYPAD (R133). -/
  | writeKeypad (tag : Byte) (payload : List Byte)
  /-- WRITE_KEY (R134). -/
  | writeKey (tag : Byte) (payload : List Byte)
  /-- WRITE_CHORD (R134). -/
  | writeChord (tag : Byte) (payload : List Byte)
  /-- WRITE_TRIGGER (R159). -/
  | writeTrigger (tag : Byte) (payload : List Byte)
  /-- WRITE_REPORT (R171). -/
  | writeReport (tag : Byte) (payload : List Byte)
  /-- WRITE_LINK (R180). -/
  | writeLink (tag : Byte) (payload : List Byte)
  /-- READ_SETTINGS (R191). -/
  | readSettings (tag : Byte) (payload : List Byte)
  /-- STORE_PROFILE (R197). -/
  | storeProfile (tag : Byte) (payload : List Byte)
  /-- STORE_COMPLETE (R197): whether the storage's write succeeded. -/
  | storeComplete (writeOk : Bool)
  /-- REVERT_PROFILE (R198). -/
  | revertProfile (tag : Byte) (payload : List Byte)
  /-- FACTORY_SETTINGS (R198). -/
  | factorySettings (tag : Byte) (payload : List Byte)
  /-- TRIGGER_CONTROL_ENABLE (R163). -/
  | triggerControlEnable (tag : Byte) (payload : List Byte)
  /-- TRIGGER_CONTROL_DISABLE (R163). -/
  | triggerControlDisable (tag : Byte) (payload : List Byte)
  /-- TRIGGER_CONTROL_REARM (R163). -/
  | triggerControlRearm (tag : Byte) (payload : List Byte)
  /-- FILTER_SERVICED (R46). -/
  | filterServiced (tag : Byte) (payload : List Byte)
  /-- SUPERVISOR_RESET (R200): whether a RST_N hold begins while the reset is being made, which extends it
  (log entry 6); where nothing is said of RST_N, none does. -/
  | supervisorReset (tag : Byte) (payload : List Byte) (rstLow : Bool := false)
  /-- SAMPLE_ROUND (R1): the four raw samples as converted to tenths of a degree, the supply sample
  in tenths of a volt, and the order of what the round brings about. -/
  | sampleRound (raw : PerFour Int) (supply : Int) (order : List RoundTask)
  /-- CLIMATE_BOUNDARY (R18): whether HPS takes the boundary before HSCH reads it (R19, R25). -/
  | climateBoundary (hpsFirst : Bool)
  /-- SLOT_END (R31): the readings of ISNS0 to ISNS2 in mA, and the order in which heaters that
  fault in the same slot are handled (R32). -/
  | slotEnd (current : PerThree Int) (order : List Heater)
  /-- FAN_MEASUREMENT (R39): the pulses of FAN_TACH in the interval, and whether the storage takes a
  reference written to the cell at this moment (R47). -/
  | fanMeasurement (pulses : Nat) (cellOk : Bool)
  /-- HOST_PWR_GOOD_RISE (R59). -/
  | hostPwrGoodRise
  /-- HOST_PWR_GOOD_FALL (R59, R60, R63, R67). -/
  | hostPwrGoodFall
  /-- POWER_GOOD_TIMEOUT (R59). -/
  | powerGoodTimeout
  /-- RESET_HOLD_EXPIRY (R59). -/
  | resetHoldExpiry
  /-- RESETTING_EXPIRY (R62). -/
  | resettingExpiry
  /-- DRAIN_TIMEOUT (R63). -/
  | drainTimeout
  /-- OFF_TIME_EXPIRY (R63). -/
  | offTimeExpiry
  /-- LOCKOUT_RETRY_EXPIRY (R64). -/
  | lockoutRetryExpiry
  /-- GRACE_EXPIRY (R67). -/
  | graceExpiry
  /-- STOP_DELAY_EXPIRY (R67, R69). -/
  | stopDelayExpiry
  /-- WAKE_TIME (R71). -/
  | wakeTime
  /-- LEAD_COMPUTATION (R73). -/
  | leadComputation
  /-- PREHEAT_BEGIN (R74). -/
  | preheatBegin
  /-- WARM_TIMEOUT (R57). -/
  | warmTimeout
  /-- BOOT_TIMEOUT (R80). -/
  | bootTimeout
  /-- WD_EXPIRED (R82, R83). -/
  | wdExpired
  /-- STABLE_TIME (R91). -/
  | stableTime
  /-- KEY_SCAN (R115): the raw counts of KEY0 to KEY19. -/
  | keyScan (raws : List Nat)
  /-- EVENT_TAKE (R150). -/
  | eventTake
  /-- ARM_WINDOW_EXPIRY (R158). -/
  | armWindowExpiry (u : TrigUnit)
  /-- SVC_TIMER_EXPIRY (R173). -/
  | svcTimerExpiry
  /-- RXD_HIGH_AGAIN (R183). -/
  | rxdHighAgain
  deriving DecidableEq, Repr

end Sys2Proof
end

