-- ==== Sys2Proof/Config.lean ====
section
/-! DEFINITION. What is fixed in the part: sizes, fixed times, wire codes; and the one free value. -/

namespace Sys2Proof.Config

/-- K0 to K19 (00_scope.md). -/
abbrev keyCount : Nat := 20

/-- Capacity of the TMX inbox (R149). -/
abbrev inboxSize : Nat := 16

/-- Capacity of the notice queue (R174). -/
abbrev noticeSize : Nat := 16

/-- Capacity of the key event queue (R140). -/
abbrev keyQueueSize : Nat := 32

/-- Capacity of the checkpoint ring (R104). -/
abbrev traceSize : Nat := 16

/-- Capacity of the restart record list (R94). -/
abbrev recordSize : Nat := 8

/-- Number of holding slots of LNK (R184). -/
abbrev slotCount : Nat := 2

/-- DRAIN lasts at most this many ms (R63). -/
abbrev drainMs : Nat := 5000

/-- SVC pulse, ms (R173). -/
abbrev svcMs : Nat := 1000

/-- Store timer, ms (R197). -/
abbrev storeMs : Nat := 300

/-- Seconds between two lead computations (R73). -/
abbrev leadPeriod : Nat := 60

/-- Longest wake_delay, s (R69). -/
abbrev wakeDelayMax : Nat := 604800

/-- First byte of every frame (R180). -/
abbrev sync : Byte := 0xA6

/-- The KINDs of the request catalogue (R189). -/
def catalogue : List Byte :=
  [0x01, 0x02, 0x03, 0x04, 0x05, 0x06, 0x10, 0x11, 0x12, 0x13, 0x14, 0x15, 0x16, 0x17,
   0x20, 0x21, 0x22, 0x23, 0x24, 0x30, 0x31, 0x3F]

/-- The fixed phase offset of a heater's on-slots (R29). -/
def offset : Heater → Nat
  | .n0 => 0
  | .n1 => 11
  | .n2 => 22

/-- FREE VALUE (log entry 9). Whether the storage's write succeeds when the store timer runs out with
no STORE_COMPLETE given before: the outcome is the storage's (R197). It is read at the present
uptime. It has no body: nothing can be proved of its values. -/
opaque storeOutcome : Word32 → Bool

end Sys2Proof.Config
end

