-- ==== Sys2Proof/WellFormed.lean ====
section
/-! DEFINITION. Which terms of `Instr` are commands of their row. A term that is not (a KICK row whose
KIND is another's cannot even be written; a WRITE_ZONE row whose payload names the group FAN can) is
no command of the part, and its meaning answers the fault `Fault.illFormed`. -/

namespace Sys2Proof

/-- The group a settings payload names, if it names one that exists (R190: 1 to 13). -/
def namedGroup (payload : List Byte) : Option Nat :=
  match payload with
  | g :: _ => if 1 ≤ g.toNat ∧ g.toNat ≤ 13 then some g.toNat else none
  | [] => none

/-- A WRITE_SETTINGS of group `g`, or one that names no group at all, which any of the WRITE rows
answers with BAD_ARG (R185, R190; log entry 4). -/
def writesGroup (g : Nat) (payload : List Byte) : Bool :=
  namedGroup payload == some g || namedGroup payload == none

/-- The operation a TRIGGER_CONTROL payload names, if it has the right length and names one (R189). -/
def namedOperation (payload : List Byte) : Option Nat :=
  match payload with
  | [_, op] => if op.toNat ≤ 2 then some op.toNat else none
  | _ => none

/-- A TRIGGER_CONTROL of operation `op`, or one that names no operation, which any of the three rows
answers with BAD_ARG (R163, R185; log entry 4). -/
def controls (op : Nat) (payload : List Byte) : Bool :=
  namedOperation payload == some op || namedOperation payload == none

/-- What a completed round brings about: each task once (R1, R11, R54, R119, R126). -/
def RoundTask.all : List RoundTask :=
  [.report, .crit .n0, .crit .n1, .crit .n2, .crit .n3, .admission, .keypad]

/-- The heaters in number order. -/
def heaters : List Heater :=
  [.n0, .n1, .n2]

/-- The raw counts of one scan: one of 0..4095 for each of the twenty pads (R114). -/
def countsOk (raws : List Nat) : Bool :=
  raws.length == Config.keyCount && raws.all (· ≤ 4095)

/-- Whether a term is a command of its row. -/
def Instr.wf : Instr → Bool
  | .badKind kind _ _ => !Config.catalogue.contains kind
  | .writeZone _ p => writesGroup 1 p
  | .writeHeater _ p => writesGroup 2 p
  | .writeBudget _ p => writesGroup 3 p
  | .writeFan _ p => writesGroup 4 p
  | .writeWatchdog _ p => writesGroup 5 p
  | .writeLadder _ p => writesGroup 6 p
  | .writeHostPower _ p => writesGroup 7 p
  | .writeKeypad _ p => writesGroup 8 p
  | .writeKey _ p => writesGroup 9 p
  | .writeChord _ p => writesGroup 10 p
  | .writeTrigger _ p => writesGroup 11 p
  | .writeReport _ p => writesGroup 12 p
  | .writeLink _ p => writesGroup 13 p
  | .triggerControlEnable _ p => controls 0 p
  | .triggerControlDisable _ p => controls 1 p
  | .triggerControlRearm _ p => controls 2 p
  | .sampleRound _ _ order => order.isPerm RoundTask.all
  | .slotEnd _ order => order.isPerm heaters
  | .keyScan raws => countsOk raws
  | .powerOnReset | .rstNAssert | .rstNRelease | .frameReceived _ | .frameGapTimeout | .linkReset
  | .replySent | .ping _ _ | .getStatus _ _ | .getConditions _ _ | .ackConditions _ _
  | .fetchNotices _ _ | .readKeys _ _ | .kick _ _ | .checkpoint _ _ | .readTrace _ _
  | .thawTrace _ _ | .readRestart _ _ | .requestStop _ _ | .requestRestart _ _ | .commitPolicy _ _
  | .readSettings _ _ | .storeProfile _ _ | .storeComplete _ | .revertProfile _ _
  | .factorySettings _ _ | .filterServiced _ _ | .supervisorReset _ _ _ | .climateBoundary _
  | .fanMeasurement _ _ | .hostPwrGoodRise | .hostPwrGoodFall | .powerGoodTimeout
  | .resetHoldExpiry | .resettingExpiry | .drainTimeout | .offTimeExpiry | .lockoutRetryExpiry
  | .graceExpiry | .stopDelayExpiry | .wakeTime | .leadComputation | .preheatBegin | .warmTimeout
  | .bootTimeout | .wdExpired | .stableTime | .eventTake | .armWindowExpiry _ | .svcTimerExpiry
  | .rxdHighAgain => true

end Sys2Proof
end

