-- ==== Sys2Proof/Machine/State.lean ====
section
/-! DEFINITION. All the state of the part, block by block, as the item tables of the chapters give it;
the reasons a step can stop; the state after reset. Outputs that follow from other state
(HOST_PWR_EN, HOST_RST_N, FAULT_N, ATTN_N, SVC, suppression) are computed in Machine/Flags.lean. -/

namespace Sys2Proof.Machine

/-! ### Names -/

/-- The ten host states, in number order 0 to 9 (R52). -/
inductive HostState where
  | off | qualifying | powering | resetting | booting | running | stopping | cycling | suspended
  | lockedOut
  deriving DecidableEq, Repr

/-- The stage within POWERING, RUNNING, STOPPING or CYCLING (R52), in the order of page 0 (R192).
`noStage` is RUNNING's NONE and the dash of the other states. -/
inductive Stage where
  | noStage | pending | waitGood | resetHold | stopDelay | grace | drain | offTime
  deriving DecidableEq, Repr

/-- Why the host is STOPPING (item table of 04). -/
inductive StopCause where
  | none | thermal | trigger
  deriving DecidableEq, Repr

/-- The state entered when a stop removes the supply (item table of 04). -/
inductive Destination where
  | off | qualifying | suspended
  deriving DecidableEq, Repr

/-- Alarm state of a zone (R9). -/
inductive Alarm where
  | normal | low | high
  deriving DecidableEq, Repr

/-- Kind of a heater fault (R32). -/
inductive FaultKind where
  | none | openLoad | short
  deriving DecidableEq, Repr

/-- Why the fan has its duty: the first case of R40 that applied (R49), in the order of page 1. -/
inductive DutyReason where
  | off | computed | boost | blind | learn
  deriving DecidableEq, Repr

/-- Learn state (R46). -/
inductive Learn where
  | idle | waiting | measuring
  deriving DecidableEq, Repr

/-- Watchdog phase (R79). -/
inductive WdPhase where
  | off | boot | windowed
  deriving DecidableEq, Repr

/-- The stable timer: none, done, or running with its whole seconds and the milliseconds of the
present second (R79, R91). -/
inductive StableTimer where
  | none | done
  | counting (sec ms : Nat)
  deriving DecidableEq, Repr

/-- Reason of a restart record, in the order of its wire code (R193). -/
inductive Reason where
  | wdExpired | wdEarly | bootTimeout | powerFail | trigger | requested | thermalStopWd
  deriving DecidableEq, Repr

/-- Action of a restart record (R193). -/
inductive RecordAction where
  | reset | cycle | lockout | none
  deriving DecidableEq, Repr

/-- Outcome of a restart record (R192, page 0). -/
inductive RecordOutcome where
  | pending | recovered | failed | lockout
  deriving DecidableEq, Repr

/-- Action of a ladder step and of a requested restart (R100, R99). -/
inductive StepAction where
  | reset | cycle
  deriving DecidableEq, Repr

/-- early_policy (R99). -/
inductive EarlyPolicy where
  | restart | count
  deriving DecidableEq, Repr

/-- Debounce state of a key, in the order of page 2 (R192). -/
inductive KeyState where
  | idle | pendingPress | pressed | pendingRelease | quarantined
  deriving DecidableEq, Repr

/-- A baseline re-take that is due (R119, R130). -/
inductive Retake where
  | none | idleKeys | allKeys
  deriving DecidableEq, Repr

/-- State of a trigger unit, in the order of page 2 (R153, R192). -/
inductive UnitState where
  | disabled | waitingArm | counting | ready | fired
  deriving DecidableEq, Repr

/-- Action of a trigger unit, in the order of its settings table (09, section 9.6). -/
inductive TrigAction where
  | notify | freeze | restart | powerOn | shutdown | signal | filterLearn
  deriving DecidableEq, Repr

/-- The sixteen event classes, in number order (R151). -/
inductive EventClass where
  | keyPress | keyRelease | keyHold | chord | zoneLow | zoneHigh | zoneNormal | hostState | watchdog
  | checkpoint | heater | airflow | supply | suppress | admission | trigger
  deriving DecidableEq, Repr

/-- The thirty conditions (R167). -/
inductive Cond where
  | sensorFault (z : Zone) | heaterFault (h : Heater) | warmTimeout | thermalStop | supplyLow
  | fanStall | filterClog | wdExpired | wdEarly | bootTimeout | powerFail | lockout | keyStuck
  | keysLost | suppressed | triggerT (u : TrigUnit) | eventsLost | profileDefaulted | storeFailed
  | supervisorReset
  deriving DecidableEq, Repr

/-- Operation of an OPERATION_DONE notice (10, section 10.3). -/
inductive Operation where
  | store | learn
  deriving DecidableEq, Repr

/-- Result of an OPERATION_DONE notice (10, section 10.3). -/
inductive OpResult where
  | ok | failed | stall | aborted
  deriving DecidableEq, Repr

/-- The four line rates (R180). -/
inductive LineRate where
  | b9600 | b19200 | b57600 | b115200
  deriving DecidableEq, Repr

/-- What caused the last reset of the part (R194). -/
inductive ResetCause where
  | powerOn | pin | request
  deriving DecidableEq, Repr

/-! ### Settings -/

/-- ZONE(n) (01, section 1.8). -/
structure ZoneSettings where
  idleTarget : Int
  warmTarget : Int
  holdTarget : Int
  gain : Nat
  admitLow : Int
  admitHigh : Int
  gating : Bool
  soak : Nat
  floor : Int
  ceiling : Int
  crit : Int
  leadRate : Nat
  deriving DecidableEq, Repr

/-- HEATER(n) (02, section 2.8). -/
structure HeaterSettings where
  enabled : Bool
  rating : Nat
  rank : Nat
  fallback : Nat
  iMin : Nat
  iMax : Nat
  deriving DecidableEq, Repr

/-- BUDGET (02, section 2.8). -/
structure BudgetSettings where
  cabinetBudget : Nat
  hostReserve : Nat
  fanReserve : Nat
  supplyLow : Nat
  deriving DecidableEq, Repr

/-- FAN (03, section 3.3). -/
structure FanSettings where
  fanOn : Int
  fanFull : Int
  minDuty : Nat
  stallRpm : Nat
  clogPct : Nat
  deriving DecidableEq, Repr

/-- WATCHDOG (05, section 5.6). -/
structure WatchdogSettings where
  timeout : Nat
  windowMin : Nat
  earlyPolicy : EarlyPolicy
  bootAllowance : Nat
  stableTime : Nat
  requestedAction : StepAction
  requestedOffTime : Nat
  deriving DecidableEq, Repr

/-- One step of LADDER (05, section 5.6). -/
structure LadderStep where
  action : StepAction
  offTime : Nat
  attempts : Nat
  deriving DecidableEq, Repr

/-- LADDER (05, section 5.6). -/
structure LadderSettings where
  stepCount : Nat
  steps : PerFour LadderStep
  deriving DecidableEq, Repr

/-- HOST_POWER (04, section 4.8). -/
structure HostPowerSettings where
  powerGoodTimeout : Nat
  resetPulse : Nat
  stopDelay : Nat
  stopGrace : Nat
  warmLimit : Nat
  blindSoak : Nat
  leadMax : Nat
  lockoutRetry : Nat
  autoStart : Bool
  lockAtStart : Bool
  deriving DecidableEq, Repr

/-- KEYPAD (07, section 7.8). -/
structure KeypadSettings where
  keysFitted : Nat
  scanPeriod : Nat
  touchThr : Nat
  releaseThr : Nat
  pressCount : Nat
  releaseCount : Nat
  holdTime : Nat
  repeatPeriod : Nat
  stuckTime : Nat
  condMargin : Nat
  frostFloor : Int
  maxTouch : Nat
  coverHold : Nat
  recalStep : Nat
  deriving DecidableEq, Repr

/-- CHORD(n) (07, section 7.8): the key set as written, empty for none. -/
structure ChordSettings where
  keys : List Nat
  hold : Nat
  deriving DecidableEq, Repr

/-- TRIGGER(n) (09, section 9.6); `cls` is 0..15, or 16 for any. -/
structure TriggerSettings where
  cls : Nat
  indexValue : Byte
  indexMask : Byte
  argLo : Int
  argHi : Int
  preset : Nat
  armBy : Option TrigUnit
  armWindow : Nat
  action : TrigAction
  rearm : Bool
  enabled : Bool
  deriving DecidableEq, Repr

/-- All thirteen settings groups (R190, R196). `keyRepeat` is KEY(0..19), in key order. -/
structure Settings where
  zone : PerFour ZoneSettings
  heater : PerThree HeaterSettings
  budget : BudgetSettings
  fan : FanSettings
  watchdog : WatchdogSettings
  ladder : LadderSettings
  hostPower : HostPowerSettings
  keypad : KeypadSettings
  keyRepeat : List Bool
  chord : PerSix ChordSettings
  trigger : PerSix TriggerSettings
  report : Word32
  link : LineRate
  deriving DecidableEq, Repr

/-- The factory defaults, fixed in the part (R196 and the settings tables it names). -/
def Settings.factory : Settings where
  zone :=
    ⟨⟨-250, 80, 30, 24, -150, 600, true, 120, -300, 600, 750, 120⟩,
     ⟨-300, 50, -100, 32, -200, 700, true, 300, -350, 750, 900, 240⟩,
     ⟨-300, 50, 0, 32, -100, 650, true, 300, -250, 650, 750, 180⟩,
     ⟨0, 0, 0, 1, -400, 550, false, 0, -400, 550, 650, 0⟩⟩
  heater :=
    ⟨⟨true, 40, 1, 8, 1200, 2400⟩, ⟨true, 25, 2, 8, 700, 1500⟩, ⟨true, 15, 2, 8, 400, 900⟩⟩
  budget := ⟨60, 25, 3, 200⟩
  fan := ⟨350, 500, 30, 300, 15⟩
  watchdog := ⟨30000, 0, .count, 300, 600, .reset, 10⟩
  ladder := ⟨3, ⟨⟨.reset, 10, 2⟩, ⟨.cycle, 10, 2⟩, ⟨.cycle, 300, 1⟩, ⟨.cycle, 600, 1⟩⟩⟩
  hostPower := ⟨1000, 200, 3, 60, 90, 1800, 7200, 240, true, false⟩
  keypad := ⟨12, 20, 120, 60, 3, 3, 800, 200, 60, 30, 0, 3, 2000, 50⟩
  keyRepeat := List.replicate Config.keyCount false
  chord := ⟨⟨[0, 2], 5000⟩, ⟨[0, 1, 2], 10000⟩, ⟨[], 5000⟩, ⟨[], 5000⟩, ⟨[], 5000⟩, ⟨[], 5000⟩⟩
  trigger :=
    let any : TriggerSettings := ⟨16, 0, 0, -32768, 65535, 0, none, 0, .notify, false, false⟩
    ⟨⟨3, 0, 255, -32768, 65535, 0, none, 0, .powerOn, true, true⟩,
     ⟨3, 1, 255, -32768, 65535, 0, none, 0, .restart, true, true⟩, any, any, any, any⟩
  report := 0x3C0FFFFF#32
  link := .b115200

/-! ### The blocks' records -/

/-- The timebase (00_scope.md): uptime in ms modulo 2^32, uptime in seconds as a 32-bit count, and the
milliseconds of the present second. -/
structure Timebase where
  ms : Word32
  sec : Word32
  phase : Nat
  deriving DecidableEq, Repr

/-- A zone record (item table of 01). -/
structure ZoneRec where
  valid : Bool
  invalidRun : Nat
  validRun : Nat
  ring : List Int
  filtered : Option Int
  inWindow : Nat
  blind : Nat
  alarm : Alarm
  critTimer : Nat
  deriving DecidableEq, Repr

/-- ZMON: the four zone records and the supply record (item tables of 01). -/
structure Zmon where
  zones : PerFour ZoneRec
  supplyLow : Bool
  supplyRun : Nat
  supply : Nat
  deriving DecidableEq, Repr

/-- A heater record (item table of 02). The on-slots follow from `g` (`onInSlot`). `fromError` says
whether `dem` came from the zone's error (R22), as page 1 shows (R34). -/
structure HeaterRec where
  enabled : Bool
  rating : Nat
  rank : Nat
  fallback : Nat
  iMin : Nat
  iMax : Nat
  target : Option Int
  fromError : Bool
  dem : Nat
  g : Nat
  output : Bool
  lowRun : Nat
  highRun : Nat
  lastCurrent : Nat
  deriving DecidableEq, Repr

/-- HSCH: the heater records and the period record (item tables of 02). `boundaryDue` is the model's own:
slot 31 has ended, or a reset, and the boundary of that moment has not been taken yet (log entry 26). -/
structure Hsch where
  heaters : PerThree HeaterRec
  slot : Nat
  boundaryDue : Bool
  hostReserve : Bool
  fanReserve : Bool
  shed : Bool
  avail : Nat
  energy : Nat
  unspent : Nat
  deriving DecidableEq, Repr

/-- AFM (item table of 03), with the reason for the duty (R49). -/
structure Afm where
  running : Bool
  duty : Nat
  reason : DutyReason
  speed : Nat
  stalled : Bool
  slowRun : Nat
  fastRun : Nat
  fullRun : Nat
  clogged : Bool
  reference : Option Nat
  learn : Learn
  readings : Nat
  sum : Nat
  deriving DecidableEq, Repr

/-- A stop request (item table of 04): SUSPEND or OFF, wake_delay in s, wake_on_trigger. -/
structure StopRequest where
  suspend : Bool
  wakeDelay : Nat
  wakeOnTrigger : Bool
  deriving DecidableEq, Repr

/-- HPS (item table of 04). Timers count down: the stage timer in ms, the lead and retry timers in
whole seconds from their start, with the milliseconds of the present second beside them (log
entry 7). -/
structure Hps where
  state : HostState
  prev : HostState
  stage : Stage
  stageTimer : Option Nat
  pendingOn : Bool
  qualClock : Nat
  qualMs : Nat
  warmTimeout : Bool
  stopCause : StopCause
  stopZone : Option Zone
  stopRequest : Option StopRequest
  destination : Destination
  wakeAt : Option Word32
  wakeOnTrigger : Bool
  preheat : Bool
  lead : Nat
  leadTimer : Nat
  leadMs : Nat
  offTime : Nat
  retryTimer : Option Nat
  retryMs : Nat
  deriving DecidableEq, Repr

/-- An entry of the checkpoint trace (item table of 06). -/
structure TraceEntry where
  code : Word16
  time : Word32
  count : Nat
  deriving DecidableEq, Repr

/-- A restart record (05, section 5.4). -/
structure RestartRecord where
  reason : Reason
  trigUnit : Option TrigUnit
  step : Nat
  attempt : Nat
  action : RecordAction
  offTime : Option Nat
  time : Word32
  board : Option Int
  front : Option Int
  outcome : RecordOutcome
  trace : List TraceEntry
  frozenAt : Option Word32
  deriving DecidableEq, Repr

/-- WEU (item table of 05). The boot and kick timers count up in ms; records are oldest first. -/
structure Weu where
  phase : WdPhase
  bootTimer : Option Nat
  bootLimit : Nat
  kickTimer : Option Nat
  timeoutInForce : Nat
  windowInForce : Nat
  earlyCount : Nat
  step : Nat
  attempts : Nat
  stable : StableTimer
  records : List RestartRecord
  reportDue : Bool
  policyLock : Bool
  deriving DecidableEq, Repr

/-- CPT (item table of 06). The ring is oldest first. -/
structure Cpt where
  ring : List TraceEntry
  frozen : Bool
  frozenAt : Option Word32
  appends : Word16
  seen : HostState
  deriving DecidableEq, Repr

/-- A key record of KSU (item table of 07). -/
structure KeyRec where
  raw : Nat
  baseline : Option Nat
  delta : Int
  state : KeyState
  pressRun : Nat
  releaseRun : Nat
  pressTime : Word32
  ordinal : Nat
  quietStart : Option Word32
  due : Bool
  deriving DecidableEq, Repr

/-- A chord record (item table of 07). -/
structure ChordRec where
  start : Option Word32
  spent : Bool
  deriving DecidableEq, Repr

/-- KSU: the twenty key records in key order, and the pad record (item tables of 07). -/
structure Ksu where
  keys : List KeyRec
  condensation : Bool
  frost : Bool
  cover : Bool
  coverFall : Option Word32
  recalRef : Option Int
  retake : Retake
  chords : PerSix ChordRec
  deriving DecidableEq, Repr

/-- What a key record of KEQ says happened (item table of 08): a HOLD has a repeat, a RELEASE has its
flags. -/
inductive KeyKind where
  | press
  | hold (times : Nat)
  | release (suppressed stuck : Bool)
  deriving DecidableEq, Repr

/-- A key record of KEQ, or the offer of one (item table of 08, R137). -/
structure KeyEvent where
  key : Nat
  kind : KeyKind
  time : Word16
  deriving DecidableEq, Repr

/-- KEQ (item table of 08). The queue is oldest first; `openKeys` names no key twice. -/
structure Keq where
  queue : List KeyEvent
  openKeys : List Nat
  lost : Nat
  seen : HostState
  deriving DecidableEq, Repr

/-- An event of the TMX inbox (R149). -/
structure Event where
  cls : EventClass
  index : Byte
  arg : Int
  deriving DecidableEq, Repr

/-- The state of a trigger unit (item table of 09); its settings are the TRIGGER group's. -/
structure UnitRec where
  state : UnitState
  count : Nat
  fires : Nat
  window : Option Nat
  deriving DecidableEq, Repr

/-- TMX (item table of 09). The inbox is oldest first. -/
structure Tmx where
  inbox : List Event
  units : PerSix UnitRec
  deriving DecidableEq, Repr

/-- The fields of a notice, by kind (10, section 10.3). -/
inductive NoticeBody where
  | condition (c : Cond)
  | trigger (u : TrigUnit) (e : Event)
  | shutdownRequest (cause : StopCause) (zone : Option Zone) (grace : Nat)
  | operationDone (op : Operation) (result : OpResult) (value : Option Nat)
  | restartReport (reason : Reason) (step : Nat) (action : RecordAction)
  deriving DecidableEq, Repr

/-- A notice: the uptime in s when it was queued, and its fields (10, section 10.3). -/
structure Notice where
  time : Word32
  body : NoticeBody
  deriving DecidableEq, Repr

/-- CNU (item table of 10). A set of conditions has bit n for condition id n, as on the link (R190).
The notice queue is oldest first. -/
structure Cnu where
  latched : Word32
  live : Word32
  kinds : PerThree FaultKind
  notices : List Notice
  overflow : Bool
  seen : HostState
  svcTimer : Option Nat
  deriving DecidableEq, Repr

/-- A checked request in a holding slot: KIND, TAG, payload (R184, R180). -/
structure Request where
  kind : Byte
  tag : Byte
  payload : List Byte
  deriving DecidableEq, Repr

/-- What waits for a reply's last byte: nothing, a change of line rate (R180), or the removal of the
supply of a stop with a stop_delay of 0 (R68, R69). -/
inductive AfterReply where
  | nothing
  | applyRate
  | endStop
  deriving DecidableEq, Repr

/-- A reply being sent: the BODY of its frame (R180), and what waits for its end. -/
structure Reply where
  body : List Byte
  after : AfterReply
  deriving DecidableEq, Repr

/-- The receive assembler (R182): HUNTING, or a frame in progress with its LEN byte still to come, or
with LEN known and the bytes of BODY and CHECK so far. -/
inductive Rx where
  | hunting
  | lenExpected
  | inBody (len : Nat) (got : List Byte)
  deriving DecidableEq, Repr

/-- LNK (item table of 11). Of its two holding slots, `held` lists those that are HELD, the earliest
arrival first, and `sending` is the one that is SENDING, if any; the others are EMPTY (log entry 5).
`inBreak`: RXD is still low after a link reset (R183). -/
structure Lnk where
  rate : LineRate
  rx : Rx
  held : List Request
  sending : Option Reply
  gapCount : Nat
  lengthCount : Nat
  checkCount : Nat
  lineCount : Nat
  overrunCount : Nat
  breakCount : Nat
  lastReset : ResetCause
  inBreak : Bool
  deriving DecidableEq, Repr

/-- The stored image: one copy of the working settings of every group, and the check held with it
(R196). It is VALID when that check is the one of its content (`Image.valid`). -/
structure Image where
  content : Settings
  check : Word16
  deriving DecidableEq, Repr

/-- A store in progress: the snapshot and the store timer (item table of 12). -/
structure Storing where
  snapshot : Settings
  timer : Nat
  deriving DecidableEq, Repr

/-- PST (item table of 12). `image` is none where the storage holds no written image: never written, or
a store begun that has not succeeded (R196, R197). `cell` is none when blank, `storing` none when the
store state is IDLE. -/
structure Pst where
  image : Option Image
  cell : Option Nat
  storing : Option Storing
  deriving DecidableEq, Repr

/-! ### The whole part -/

/-- All the state of the part. `settings` are the working settings of all groups; `hold` says that
RST_N holds a supervisor reset (R200); `powerGood` is the level of HOST_PWR_GOOD; `lastSent` is the
model's own record of what TXD carried last (log entry 6); `pending` is the queue of commands that
wait, first in, first out. -/
structure State where
  time : Timebase
  settings : Settings
  zmon : Zmon
  hsch : Hsch
  afm : Afm
  hps : Hps
  weu : Weu
  cpt : Cpt
  ksu : Ksu
  keq : Keq
  tmx : Tmx
  cnu : Cnu
  lnk : Lnk
  pst : Pst
  hold : Bool
  powerGood : Bool
  lastSent : List Byte
  pending : List Instr
  deriving DecidableEq, Repr

/-- Reasons for the part to stop. The spec gives it none: every command has an effect in every
state. -/
inductive Fault where
  /-- Raised by a meaning whose operands are no operands of its row (`Instr.wf` is false): such a term
  stands for nothing that can happen to the part. Safe. -/
  | illFormed
  deriving DecidableEq, Repr

/-- Reasons for the model to give a command no meaning. -/
inductive Refusal where
  /-- The command has no meaning in the model yet; raised by `exec` alone. Safe. -/
  | notModelled (mnemonic : String)
  deriving DecidableEq, Repr

/-! ### Setters, one a block -/

namespace State

/-- Replace the timebase. -/
def setTime (s : State) (x : Timebase) : State := { s with time := x }
/-- Replace the working settings. -/
def setSettings (s : State) (x : Settings) : State := { s with settings := x }
/-- Replace ZMON's records. -/
def setZmon (s : State) (x : Zmon) : State := { s with zmon := x }
/-- Replace HSCH's records. -/
def setHsch (s : State) (x : Hsch) : State := { s with hsch := x }
/-- Replace AFM's record. -/
def setAfm (s : State) (x : Afm) : State := { s with afm := x }
/-- Replace HPS's record. -/
def setHps (s : State) (x : Hps) : State := { s with hps := x }
/-- Replace WEU's record. -/
def setWeu (s : State) (x : Weu) : State := { s with weu := x }
/-- Replace CPT's record. -/
def setCpt (s : State) (x : Cpt) : State := { s with cpt := x }
/-- Replace KSU's records. -/
def setKsu (s : State) (x : Ksu) : State := { s with ksu := x }
/-- Replace KEQ's record. -/
def setKeq (s : State) (x : Keq) : State := { s with keq := x }
/-- Replace TMX's records. -/
def setTmx (s : State) (x : Tmx) : State := { s with tmx := x }
/-- Replace CNU's record. -/
def setCnu (s : State) (x : Cnu) : State := { s with cnu := x }
/-- Replace LNK's record. -/
def setLnk (s : State) (x : Lnk) : State := { s with lnk := x }
/-- Replace PST's record. -/
def setPst (s : State) (x : Pst) : State := { s with pst := x }
/-- Replace the supervisor reset hold. -/
def setHold (s : State) (x : Bool) : State := { s with hold := x }
/-- Replace the level of HOST_PWR_GOOD. -/
def setPowerGood (s : State) (x : Bool) : State := { s with powerGood := x }
/-- Replace what TXD carried last. -/
def setLastSent (s : State) (x : List Byte) : State := { s with lastSent := x }
/-- Replace the queue of waiting commands. -/
def setPending (s : State) (x : List Instr) : State := { s with pending := x }

end State

/-! ### The blocks after power-on reset -/

/-- R16. -/
def ZoneRec.initial : ZoneRec := ⟨true, 0, 0, [], none, 0, 0, .normal, 0⟩

/-- R16. -/
def Zmon.initial : Zmon :=
  ⟨⟨.initial, .initial, .initial, .initial⟩, false, 0, 0⟩

/-- R37: the settings copied from the loaded group, everything else off. -/
def HeaterRec.initial (c : HeaterSettings) : HeaterRec :=
  ⟨c.enabled, c.rating, c.rank, c.fallback, c.iMin, c.iMax, none, false, 0, 0, false, 0, 0, 0⟩

/-- R37; the first boundary is due at the end of the reset (R18). -/
def Hsch.initial (c : Settings) : Hsch :=
  ⟨⟨.initial c.heater.v0, .initial c.heater.v1, .initial c.heater.v2⟩, 0, true, false, false, false, 0, 0,
   0⟩

/-- R50, with the content of the reference cell. DESIGN CHOICE: the reason for the duty of 0 % before the
first boundary, which R49 and R50 leave open, is off (log entry 29). -/
def Afm.initial (cell : Option Nat) : Afm :=
  ⟨false, 0, .off, 0, false, 0, 0, 0, false, cell, .idle, 0, 0⟩

/-- R77, before auto_start acts. -/
def Hps.initial : Hps :=
  ⟨.off, .off, .noStage, none, false, 0, 0, false, .none, none, none, .off, none, false, false, 0, 0, 0,
   0, none, 0⟩

/-- R102, before lock_at_start acts. -/
def Weu.initial (c : WatchdogSettings) : Weu :=
  ⟨.off, none, c.bootAllowance * 1000, none, c.timeout, c.windowMin, 0, 0, 0, .none, [], false, false⟩

/-- R112. -/
def Cpt.initial : Cpt := ⟨[], false, none, 0, .off⟩

/-- R135. -/
def KeyRec.initial : KeyRec := ⟨0, none, 0, .idle, 0, 0, 0, 0, none, false⟩

/-- R135. -/
def ChordRec.initial : ChordRec := ⟨none, false⟩

/-- R135. -/
def Ksu.initial : Ksu :=
  ⟨List.replicate Config.keyCount .initial, false, false, false, none, none, .none,
   ⟨.initial, .initial, .initial, .initial, .initial, .initial⟩⟩

/-- R147, with the host state seen. -/
def Keq.initial (seen : HostState) : Keq := ⟨[], [], 0, seen⟩

/-- The initial state of a unit (R153): DISABLED when not enabled, else waiting, ready or counting. -/
def UnitRec.initial (c : TriggerSettings) (fires : Nat) : UnitRec :=
  ⟨if c.enabled then
     if c.armBy.isSome then .waitingArm else if c.preset = 0 then .ready else .counting
   else .disabled, c.preset, fires, none⟩

/-- R165. -/
def Tmx.initial (c : Settings) : Tmx :=
  ⟨[], ⟨.initial c.trigger.v0 0, .initial c.trigger.v1 0, .initial c.trigger.v2 0,
        .initial c.trigger.v3 0, .initial c.trigger.v4 0, .initial c.trigger.v5 0⟩⟩

/-- R178. -/
def Cnu.initial : Cnu := ⟨0, 0, ⟨.none, .none, .none⟩, [], false, .off, none⟩

/-- R195. -/
def Lnk.initial (c : Settings) (cause : ResetCause) : Lnk :=
  ⟨c.link, .hunting, [], none, 0, 0, 0, 0, 0, 0, cause, false⟩

/-- Step 1 to 3 of R199 with the settings `c` loaded: every block at its value after power-on reset,
the host OFF. The image and the cell are kept, the store state is IDLE, the uptime starts at 0 (log
entry 10), and the level of HOST_PWR_GOOD is what the pin shows. -/
def State.atPowerOn (c : Settings) (image : Option Image) (cell : Option Nat) (powerGood : Bool) :
    State where
  time := ⟨0, 0, 0⟩
  settings := c
  zmon := .initial
  hsch := .initial c
  afm := .initial cell
  hps := .initial
  weu := .initial c.watchdog
  cpt := .initial
  ksu := .initial
  keq := .initial .off
  tmx := .initial c
  cnu := .initial
  lnk := .initial c .powerOn
  pst := ⟨image, cell, none⟩
  hold := false
  powerGood := powerGood
  lastSent := []
  pending := []

/-- The part right after its first power-on reset (R199). Its storage has never been written, so the
image is INVALID and the cell blank (R196): the factory defaults are loaded, PROFILE_DEFAULTED (id 27)
is latched, and auto_start, yes by default, has taken the host from OFF to QUALIFYING, posting
HOST_STATE(1, 0), which is reported to CPT, KEQ and CNU (R77, R53). HOST_PWR_GOOD is low (log
entry 10). -/
def State.reset : State :=
  let s := State.atPowerOn .factory none none false
  { s with
    hps := { s.hps with state := .qualifying }
    cpt := { s.cpt with seen := .qualifying }
    keq := { s.keq with seen := .qualifying }
    tmx := { s.tmx with inbox := [⟨.hostState, 1, 0⟩] }
    cnu := { s.cnu with latched := 0x08000000#32, seen := .qualifying } }

end Sys2Proof.Machine
end

