-- ==== Sys2Proof/Machine/Index.lean ====
section
/-! DEFINITION. Reading, writing and mapping over the numbered instances of the part (zones, heaters,
trigger units, chords), and the numbers of everything that the link or an event gives by number. -/

namespace Sys2Proof

/-- H0 to H2. -/
def Three.all : List Three := [.n0, .n1, .n2]
/-- Z0 to Z3. -/
def Four.all : List Four := [.n0, .n1, .n2, .n3]
/-- T0 to T5, C0 to C5. -/
def Six.all : List Six := [.n0, .n1, .n2, .n3, .n4, .n5]

/-- The number of the instance. -/
def Three.num : Three → Nat
  | .n0 => 0 | .n1 => 1 | .n2 => 2
/-- The number of the instance. -/
def Four.num : Four → Nat
  | .n0 => 0 | .n1 => 1 | .n2 => 2 | .n3 => 3
/-- The number of the instance. -/
def Six.num : Six → Nat
  | .n0 => 0 | .n1 => 1 | .n2 => 2 | .n3 => 3 | .n4 => 4 | .n5 => 5

/-- The instance of a number. -/
def Three.ofNum : Nat → Option Three
  | 0 => some .n0 | 1 => some .n1 | 2 => some .n2 | _ => none
/-- The instance of a number. -/
def Four.ofNum : Nat → Option Four
  | 0 => some .n0 | 1 => some .n1 | 2 => some .n2 | 3 => some .n3 | _ => none
/-- The instance of a number. -/
def Six.ofNum : Nat → Option Six
  | 0 => some .n0 | 1 => some .n1 | 2 => some .n2 | 3 => some .n3 | 4 => some .n4 | 5 => some .n5
  | _ => none

/-- The value of one of three. -/
def PerThree.get {α : Type} (x : PerThree α) : Three → α
  | .n0 => x.v0 | .n1 => x.v1 | .n2 => x.v2
/-- The value of one of four. -/
def PerFour.get {α : Type} (x : PerFour α) : Four → α
  | .n0 => x.v0 | .n1 => x.v1 | .n2 => x.v2 | .n3 => x.v3
/-- The value of one of six. -/
def PerSix.get {α : Type} (x : PerSix α) : Six → α
  | .n0 => x.v0 | .n1 => x.v1 | .n2 => x.v2 | .n3 => x.v3 | .n4 => x.v4 | .n5 => x.v5

/-- Replace the value of one of three. -/
def PerThree.set {α : Type} (x : PerThree α) (i : Three) (a : α) : PerThree α :=
  match i with
  | .n0 => { x with v0 := a } | .n1 => { x with v1 := a } | .n2 => { x with v2 := a }
/-- Replace the value of one of four. -/
def PerFour.set {α : Type} (x : PerFour α) (i : Four) (a : α) : PerFour α :=
  match i with
  | .n0 => { x with v0 := a } | .n1 => { x with v1 := a }
  | .n2 => { x with v2 := a } | .n3 => { x with v3 := a }
/-- Replace the value of one of six. -/
def PerSix.set {α : Type} (x : PerSix α) (i : Six) (a : α) : PerSix α :=
  match i with
  | .n0 => { x with v0 := a } | .n1 => { x with v1 := a } | .n2 => { x with v2 := a }
  | .n3 => { x with v3 := a } | .n4 => { x with v4 := a } | .n5 => { x with v5 := a }

/-- One value for each of three. -/
def PerThree.of {α : Type} (f : Three → α) : PerThree α := ⟨f .n0, f .n1, f .n2⟩
/-- One value for each of four. -/
def PerFour.of {α : Type} (f : Four → α) : PerFour α := ⟨f .n0, f .n1, f .n2, f .n3⟩
/-- One value for each of six. -/
def PerSix.of {α : Type} (f : Six → α) : PerSix α := ⟨f .n0, f .n1, f .n2, f .n3, f .n4, f .n5⟩

/-- The three values in number order. -/
def PerThree.list {α : Type} (x : PerThree α) : List α := [x.v0, x.v1, x.v2]
/-- The four values in number order. -/
def PerFour.list {α : Type} (x : PerFour α) : List α := [x.v0, x.v1, x.v2, x.v3]
/-- The six values in number order. -/
def PerSix.list {α : Type} (x : PerSix α) : List α := [x.v0, x.v1, x.v2, x.v3, x.v4, x.v5]

namespace Machine

/-- The number of a host state (R52). -/
def HostState.num : HostState → Nat
  | .off => 0 | .qualifying => 1 | .powering => 2 | .resetting => 3 | .booting => 4 | .running => 5
  | .stopping => 6 | .cycling => 7 | .suspended => 8 | .lockedOut => 9

/-- The number of a stage on page 0 (R192). -/
def Stage.num : Stage → Nat
  | .noStage => 0 | .pending => 1 | .waitGood => 2 | .resetHold => 3 | .stopDelay => 4 | .grace => 5
  | .drain => 6 | .offTime => 7

/-- The number of a stop cause (R192, R193). -/
def StopCause.num : StopCause → Nat
  | .none => 0 | .thermal => 1 | .trigger => 2

/-- The host state a destination names (R67). -/
def Destination.host : Destination → HostState
  | .off => .off | .qualifying => .qualifying | .suspended => .suspended

/-- The number of an alarm state (R192). -/
def Alarm.num : Alarm → Nat
  | .normal => 0 | .low => 1 | .high => 2

/-- The number of a heater fault kind (R189, R192). -/
def FaultKind.num : FaultKind → Nat
  | .none => 0 | .openLoad => 1 | .short => 2

/-- The number of a duty reason (R192). -/
def DutyReason.num : DutyReason → Nat
  | .off => 0 | .computed => 1 | .boost => 2 | .blind => 3 | .learn => 4

/-- The number of a learn state (R192). -/
def Learn.num : Learn → Nat
  | .idle => 0 | .waiting => 1 | .measuring => 2

/-- The number of a watchdog phase (R192). -/
def WdPhase.num : WdPhase → Nat
  | .off => 0 | .boot => 1 | .windowed => 2

/-- The number of a restart reason (R193). -/
def Reason.num : Reason → Nat
  | .wdExpired => 0 | .wdEarly => 1 | .bootTimeout => 2 | .powerFail => 3 | .trigger => 4
  | .requested => 5 | .thermalStopWd => 6

/-- The number of a restart record's action (R193). -/
def RecordAction.num : RecordAction → Nat
  | .reset => 0 | .cycle => 1 | .lockout => 2 | .none => 3

/-- The number of a restart record's outcome (R192). -/
def RecordOutcome.num : RecordOutcome → Nat
  | .pending => 0 | .recovered => 1 | .failed => 2 | .lockout => 3

/-- The number of a key state (R192). -/
def KeyState.num : KeyState → Nat
  | .idle => 0 | .pendingPress => 1 | .pressed => 2 | .pendingRelease => 3 | .quarantined => 4

/-- The number of a trigger unit's state (R192). -/
def UnitState.num : UnitState → Nat
  | .disabled => 0 | .waitingArm => 1 | .counting => 2 | .ready => 3 | .fired => 4

/-- The number of an event class (R151). -/
def EventClass.num : EventClass → Nat
  | .keyPress => 0 | .keyRelease => 1 | .keyHold => 2 | .chord => 3 | .zoneLow => 4 | .zoneHigh => 5
  | .zoneNormal => 6 | .hostState => 7 | .watchdog => 8 | .checkpoint => 9 | .heater => 10
  | .airflow => 11 | .supply => 12 | .suppress => 13 | .admission => 14 | .trigger => 15

/-- The id of a condition (R167). -/
def Cond.id : Cond → Nat
  | .sensorFault z => z.num
  | .heaterFault h => 4 + h.num
  | .warmTimeout => 7 | .thermalStop => 8 | .supplyLow => 9 | .fanStall => 10 | .filterClog => 11
  | .wdExpired => 12 | .wdEarly => 13 | .bootTimeout => 14 | .powerFail => 15 | .lockout => 16
  | .keyStuck => 17 | .keysLost => 18 | .suppressed => 19
  | .triggerT u => 20 + u.num
  | .eventsLost => 26 | .profileDefaulted => 27 | .storeFailed => 28 | .supervisorReset => 29

/-- All thirty conditions, in id order (R167). -/
def Cond.all : List Cond :=
  [.sensorFault .n0, .sensorFault .n1, .sensorFault .n2, .sensorFault .n3,
   .heaterFault .n0, .heaterFault .n1, .heaterFault .n2, .warmTimeout, .thermalStop, .supplyLow,
   .fanStall, .filterClog, .wdExpired, .wdEarly, .bootTimeout, .powerFail, .lockout, .keyStuck,
   .keysLost, .suppressed, .triggerT .n0, .triggerT .n1, .triggerT .n2, .triggerT .n3,
   .triggerT .n4, .triggerT .n5, .eventsLost, .profileDefaulted, .storeFailed, .supervisorReset]

/-- Whether a condition is live, by the Kind column of R167. -/
def Cond.isLive : Cond → Bool
  | .sensorFault _ | .warmTimeout | .supplyLow | .fanStall | .filterClog | .lockout | .keyStuck
  | .suppressed => true
  | .heaterFault _ | .thermalStop | .wdExpired | .wdEarly | .bootTimeout | .powerFail | .keysLost
  | .triggerT _ | .eventsLost | .profileDefaulted | .storeFailed | .supervisorReset => false

/-- Whether a condition is marked Lamp in R167. -/
def Cond.isLamp : Cond → Bool
  | .sensorFault _ | .heaterFault _ | .warmTimeout | .supplyLow | .fanStall | .filterClog
  | .lockout => true
  | .thermalStop | .wdExpired | .wdEarly | .bootTimeout | .powerFail | .keyStuck | .keysLost
  | .suppressed | .triggerT _ | .eventsLost | .profileDefaulted | .storeFailed
  | .supervisorReset => false

/-- The number of an operation (R193). -/
def Operation.num : Operation → Nat
  | .store => 0 | .learn => 1

/-- The number of an operation's result (R193). -/
def OpResult.num : OpResult → Nat
  | .ok => 0 | .failed => 1 | .stall => 2 | .aborted => 3

/-- The baud rate a line rate names (R180). -/
def LineRate.baud : LineRate → Nat
  | .b9600 => 9600 | .b19200 => 19200 | .b57600 => 57600 | .b115200 => 115200

/-- The number of a line rate on page 2 (R192). -/
def LineRate.num : LineRate → Nat
  | .b9600 => 0 | .b19200 => 1 | .b57600 => 2 | .b115200 => 3

/-- The number of a reset cause (R194). -/
def ResetCause.num : ResetCause → Nat
  | .powerOn => 0 | .pin => 1 | .request => 2

end Machine
end Sys2Proof
end

