-- ==== Sys2Proof/Machine/Bytes.lean ====
section
/-! DEFINITION. Values on the link, high byte first (R190), and the CHECK of a frame (R181). -/

namespace Sys2Proof.Machine

/-- The bytes of a 16-bit word, high byte first (R190). -/
def bytes16 (w : Word16) : List Byte :=
  [w.extractLsb' 8 8, w.extractLsb' 0 8]

/-- The bytes of a 32-bit word, high byte first (R190). -/
def bytes32 (w : Word32) : List Byte :=
  [w.extractLsb' 24 8, w.extractLsb' 16 8, w.extractLsb' 8 8, w.extractLsb' 0 8]

/-- An unsigned 1-byte field. -/
def u8 (n : Nat) : List Byte := [BitVec.ofNat 8 n]
/-- An unsigned 2-byte field. -/
def u16 (n : Nat) : List Byte := bytes16 (BitVec.ofNat 16 n)
/-- An unsigned 3-byte field. -/
def u24 (n : Nat) : List Byte := (bytes32 (BitVec.ofNat 32 n)).drop 1
/-- An unsigned 4-byte field. -/
def u32 (n : Nat) : List Byte := bytes32 (BitVec.ofNat 32 n)
/-- A signed 2-byte field, two's complement. -/
def i16 (x : Int) : List Byte := bytes16 (BitVec.ofInt 16 x)
/-- A signed 4-byte field, two's complement. -/
def i32 (x : Int) : List Byte := bytes32 (BitVec.ofInt 32 x)

/-- An unsigned 1-byte field, 0xFF when absent (R190). -/
def u8? : Option Nat → List Byte
  | some n => u8 n
  | none => [0xFF]
/-- An unsigned 2-byte field, 0xFFFF when absent (R190). -/
def u16? : Option Nat → List Byte
  | some n => u16 n
  | none => [0xFF, 0xFF]
/-- An unsigned 4-byte field, 0xFFFFFFFF when absent (R190). -/
def u32? : Option Nat → List Byte
  | some n => u32 n
  | none => [0xFF, 0xFF, 0xFF, 0xFF]
/-- A temperature, -32768 when absent (R190). -/
def temp? (t : Option Int) : List Byte := i16 (t.getD (-32768))

/-- A byte of flags, bit 0 first. -/
def flagByte (bits : List Bool) : List Byte :=
  u8 (bits.foldr (fun b n => b.toNat + 2 * n) 0)

/-- The 16-bit word of two bytes, high byte first. -/
def word16 (hi lo : Byte) : Word16 := hi ++ lo

/-- The 32-bit word of four bytes, high byte first. -/
def word32 (b3 b2 b1 b0 : Byte) : Word32 := b3 ++ b2 ++ b1 ++ b0

/-- The signed 4-byte fields of a settings payload (R190). -/
def fieldsOf : List Byte → List Int
  | b3 :: b2 :: b1 :: b0 :: rest => (word32 b3 b2 b1 b0).toInt :: fieldsOf rest
  | _ => []

/-- One bit of the CRC: shift left, and combine with 0x1021 when a one leaves the register (R181). -/
def crcBit (r : Word16) : Word16 :=
  if r.msb then (r <<< 1) ^^^ 0x1021#16 else r <<< 1

/-- One byte of the CRC, most significant bit first (R181). -/
def crcByte (r : Word16) (b : Byte) : Word16 :=
  let r := r ^^^ (b.setWidth 16 <<< 8)
  crcBit (crcBit (crcBit (crcBit (crcBit (crcBit (crcBit (crcBit r)))))))

/-- The CRC-16 of a list of bytes, starting at 0xFFFF (R181). -/
def crc16 (bs : List Byte) : Word16 :=
  bs.foldl crcByte 0xFFFF#16

/-- The CHECK of a frame: the CRC over LEN and BODY (R180, R181). -/
def check (body : List Byte) : Word16 :=
  crc16 (u8 body.length ++ body)

/-- The frame of a BODY: SYNC, LEN, BODY, CHECK (R180). -/
def frame (body : List Byte) : List Byte :=
  Config.sync :: (u8 body.length ++ body ++ bytes16 (check body))

end Sys2Proof.Machine
end

