-- ==== Sys2Proof/Machine/Flags.lean ====
section
/-! DEFINITION. What follows from the state: the levels of the output pins, the sets of conditions,
and the tests that more than one block makes. -/

namespace Sys2Proof.Machine

/-! ### Host pins (R52) -/

/-- HOST_PWR_EN asserted, from host state and stage (R52). -/
def powerEnabled : HostState → Stage → Bool
  | .powering, .waitGood | .powering, .resetHold => true
  | .resetting, _ | .booting, _ | .running, _ | .stopping, _ => true
  | _, _ => false

/-- HOST_RST_N asserted (driven low), from the host state (R52). -/
def resetAsserted : HostState → Bool
  | .booting | .running | .stopping => false
  | _ => true

/-- HOST_PWR_EN is asserted. -/
def State.hostPwrEn (s : State) : Bool := powerEnabled s.hps.state s.hps.stage

/-- HOST_RST_N is asserted. -/
def State.hostRstN (s : State) : Bool := resetAsserted s.hps.state

/-- The host is listening in this host state (00_scope.md, Terms). -/
def HostState.listening : HostState → Bool
  | .booting | .running | .stopping => true
  | _ => false

/-- KEQ keeps records in this host state (R138). -/
def HostState.takesKeys : HostState → Bool
  | .running | .stopping => true
  | _ => false

/-- For CNU the host is listening: by the host state seen, and never from the beginning of a
supervisor reset to its end (R174, R200). -/
def State.cnuListening (s : State) : Bool := !s.hold && s.cnu.seen.listening

/-! ### Sets of conditions (R190) -/

/-- The bit of a condition in a set. -/
def Cond.bit (c : Cond) : Word32 := BitVec.twoPow 32 c.id

/-- The set holds the condition. -/
def condIn (set : Word32) (c : Cond) : Bool := set.getLsbD c.id

/-- The condition is latched. -/
def State.latched (s : State) (c : Cond) : Bool := condIn s.cnu.latched c

/-- The condition's live cause is present. -/
def State.live (s : State) (c : Cond) : Bool := condIn s.cnu.live c

/-- FAULT_N is asserted: a condition marked Lamp is latched (R172). -/
def State.faultN (s : State) : Bool := Cond.all.any fun c => c.isLamp && s.latched c

/-- ATTN_N is asserted: the host is listening and one of the two queues holds a record (R177). -/
def State.attnN (s : State) : Bool :=
  s.cnuListening && (!s.cnu.notices.isEmpty || !s.keq.queue.isEmpty)

/-- SVC is driven high: while the SVC timer is set (R173). -/
def State.svc (s : State) : Bool := s.cnu.svcTimer.isSome

/-! ### Zones -/

/-- The zone's filtered temperature as every other block reads it: present only when VALID (R6). -/
def ZoneRec.temp (z : ZoneRec) : Option Int := if z.valid then z.filtered else none

/-- The published temperature of a zone. -/
def State.zoneTemp (s : State) (z : Zone) : Option Int := (s.zmon.zones.get z).temp

/-! ### Heaters -/

/-- The heater is on in this slot of the period: one run of `g` slots from its offset, wrapping from
31 to 0 (R29). -/
def onInSlot (h : Heater) (g slot : Nat) : Bool :=
  (slot + 32 - Config.offset h) % 32 < g

/-- The host reserve flag at a boundary (R25). -/
def State.hostReserveNow (s : State) : Bool :=
  s.hostPwrEn || s.powerGood || s.hps.pendingOn

/-! ### Keypad -/

/-- Suppression is active: one of the three causes is present (item table of 07). -/
def Ksu.suppressed (k : Ksu) : Bool := k.condensation || k.frost || k.cover

/-- A key is held while PRESSED or PENDING_RELEASE (07). -/
def KeyState.held : KeyState → Bool
  | .pressed | .pendingRelease => true
  | _ => false

/-- Entries of the key event queue not in use (item table of 08). -/
def Keq.free (q : Keq) : Nat := Config.keyQueueSize - q.queue.length

/-! ### Wake -/

/-- The seconds left to a wake time; 0 when the uptime has reached it (R71, R74). The uptime is a
32-bit count, so a distance above the longest wake_delay is one already passed (log entry 8). -/
def secondsTo (at_ now : Word32) : Nat :=
  let d := (at_ - now).toNat
  if d ≤ Config.wakeDelayMax then d else 0

end Sys2Proof.Machine
end

