-- ==== Sys2Proof/Machine/Ops.lean ====
section
/-! DEFINITION. The operations that several blocks use: CNU's notice queue and latches (R168, R174),
posting into the TMX inbox (R149), offering a key record to KEQ (R137 to R142), and handing on what a
block has produced. -/

namespace Sys2Proof.Machine

/-! ### Notices (R174) -/

/-- The notice is a SHUTDOWN_REQUEST. -/
def Notice.isShutdown (n : Notice) : Bool :=
  match n.body with
  | .shutdownRequest .. => true
  | _ => false

/-- The notice is the CONDITION notice of `c`. -/
def Notice.isCondition (c : Cond) (n : Notice) : Bool :=
  n.body == .condition c

/-- A CONDITION notice for a condition that has one queued already (R174 step 2). -/
def coalesces (q : List Notice) (n : Notice) : Bool :=
  match n.body with
  | .condition c => q.any (·.isCondition c)
  | _ => false

/-- Steps 2 to 5 of R174 on the queue: the new queue, and whether the overflow flag is set. -/
def queueNotice (q : List Notice) (n : Notice) : List Notice × Bool :=
  if coalesces q n then (q, false)
  else if n.isShutdown && q.any Notice.isShutdown then
    (q.map fun m => if m.isShutdown then n else m, false)
  else if q.length < Config.noticeSize then (q ++ [n], false)
  else if n.isShutdown then (q.dropLast ++ [n], true)
  else (q, true)

/-- A notice handed to CNU (R174), stamped with the uptime in seconds. -/
def notify (b : NoticeBody) (s : State) : State :=
  if s.cnuListening then
    let r := queueNotice s.cnu.notices ⟨s.time.sec, b⟩
    s.setCnu { s.cnu with notices := r.1, overflow := s.cnu.overflow || r.2 }
  else s

/-! ### Latches (R168) -/

/-- The report enable of a condition is set (R171). -/
def State.enabled (s : State) (c : Cond) : Bool := condIn s.settings.report c

/-- The latching of this condition queues a CONDITION notice: all but TRIGGER_T0 to T5 (R168). -/
def Cond.givesNotice : Cond → Bool
  | .triggerT _ => false
  | _ => true

/-- Set the latch, and the live cause of a live condition (R168, R167). -/
def setLatch (c : Cond) (s : State) : State :=
  s.setCnu { s.cnu with
    latched := s.cnu.latched ||| c.bit
    live := if c.isLive then s.cnu.live ||| c.bit else s.cnu.live }

/-- A condition is raised by its owner (R168). -/
def raise (c : Cond) (s : State) : State :=
  if !s.latched c && s.enabled c && c.givesNotice then notify (.condition c) (setLatch c s)
  else setLatch c s

/-- The live cause of a condition is made present or absent by its owner (R168). -/
def setCause (c : Cond) (present : Bool) (s : State) : State :=
  s.setCnu { s.cnu with live := if present then s.cnu.live ||| c.bit else s.cnu.live &&& ~~~c.bit }

/-- The owner of a live condition reports that its cause has ended (R168). -/
def endCause (c : Cond) (s : State) : State := setCause c false s

/-- HEATER_FAULT_Hn is raised with its kind (R168). -/
def raiseHeater (h : Heater) (k : FaultKind) (s : State) : State :=
  let s := raise (.heaterFault h) s
  s.setCnu { s.cnu with kinds := s.cnu.kinds.set h k }

/-! ### Events (R149) -/

/-- An event is posted: it joins the inbox, or is dropped with EVENTS_LOST latched (R149). -/
def post (e : Event) (s : State) : State :=
  if s.tmx.inbox.length < Config.inboxSize then
    s.setTmx { s.tmx with inbox := s.tmx.inbox ++ [e] }
  else raise .eventsLost s

/-- An event of a class, an index number and an argument. -/
def event (c : EventClass) (index : Nat) (arg : Int) : Event :=
  ⟨c, BitVec.ofNat 8 index, arg⟩

/-! ### Key records (R137 to R142) -/

/-- The newest record in the queue for key `k` is a HOLD (R142). -/
def newestIsHold (k : Nat) (q : List KeyEvent) : Bool :=
  match (q.filter (·.key == k)).getLast? with
  | some ⟨_, .hold _, _⟩ => true
  | _ => false

/-- Raise the repeat of the oldest HOLD of key `k` in a queue whose newest record comes first; on a
reversed queue that is the newest HOLD (R142). -/
def bumpHold (k : Nat) : List KeyEvent → List KeyEvent
  | [] => []
  | r :: rest =>
    match r.kind with
    | .hold n => if r.key = k then { r with kind := .hold (satInc 255 n) } :: rest else r :: bumpHold k rest
    | _ => r :: bumpHold k rest

/-- The record is kept: appended, and the open set changed by its kind (R139, R140). -/
def keepKey (r : KeyEvent) (q : Keq) : Keq :=
  { q with
    queue := q.queue ++ [r]
    openKeys :=
      match r.kind with
      | .press => if q.openKeys.contains r.key then q.openKeys else q.openKeys ++ [r.key]
      | .hold _ => q.openKeys
      | .release _ _ => q.openKeys.erase r.key }

/-- What KEQ makes of an offer in RUNNING or STOPPING: its new record, and whether a PRESS was lost
(R140 to R142). -/
def offerOpen (r : KeyEvent) (q : Keq) : Keq × Bool :=
  match r.kind with
  | .press =>
    if q.openKeys.length + 2 ≤ q.free then (keepKey r q, false)
    else ({ q with lost := satInc 255 q.lost }, true)
  | .hold _ =>
    if newestIsHold r.key q.queue then
      ({ q with queue := (bumpHold r.key q.queue.reverse).reverse }, false)
    else if q.openKeys.contains r.key && q.openKeys.length + 1 ≤ q.free then (keepKey r q, false)
    else (q, false)
  | .release _ _ => if q.openKeys.contains r.key then (keepKey r q, false) else (q, false)

/-- A key record is offered to KEQ (R138 to R142). -/
def offer (r : KeyEvent) (s : State) : State :=
  if s.keq.seen.takesKeys then
    let (q, lost) := offerOpen r s.keq
    let s := s.setKeq q
    if lost then raise .keysLost s else s
  else s

/-! ### Handing on -/

/-- One thing that a block hands on: an event, a key record, a latch, the end of a live cause, a
notice. -/
inductive Emit where
  | post (e : Event)
  | offer (r : KeyEvent)
  | raise (c : Cond)
  | endCause (c : Cond)
  | notify (b : NoticeBody)
  deriving DecidableEq, Repr

/-- Hand one thing to its owner. -/
def emit (e : Emit) (s : State) : State :=
  match e with
  | .post e => Machine.post e s
  | .offer r => Machine.offer r s
  | .raise c => Machine.raise c s
  | .endCause c => Machine.endCause c s
  | .notify b => Machine.notify b s

/-- Hand on, in the order produced (R132). -/
def emitAll (es : List Emit) (s : State) : State :=
  es.foldl (fun s e => emit e s) s

/-- Map a function of position and value over a list, the first value at position `start`. -/
def mapIndexed {α β : Type} (f : Nat → α → β) (start : Nat) : List α → List β
  | [] => []
  | a :: rest => f start a :: mapIndexed f (start + 1) rest

end Sys2Proof.Machine
end

