-- ==== Sys2Proof/Machine/Host.lean ====
section
/-! DEFINITION. The host supervision shared by many commands: what an entry into a host state does
(R53), admission (R54 to R56), the orders of WEU (R61 to R64), the escalation of a failure (R86 to
R95), stops (R65 to R68), suspend and wake (R71 to R73), and the checkpoint trace (R104, R109). -/

namespace Sys2Proof.Machine

/-! ### Checkpoint trace -/

/-- The ring after a code is taken (R104), and whether it was REPEATED. -/
def takeInRing (code : Word16) (now : Word32) (ring : List TraceEntry) : List TraceEntry × Bool :=
  match ring.getLast? with
  | some e =>
    if e.code = code then (ring.dropLast ++ [{ e with time := now, count := satInc 255 e.count }], true)
    else
      let r := ring ++ [⟨code, now, 1⟩]
      (if r.length ≤ Config.traceSize then r else r.drop 1, false)
  | none => ([⟨code, now, 1⟩], false)

/-- CPT takes a code in RECORDING and posts CHECKPOINT(0, code) (R104). Answers whether the code was
REPEATED. -/
def takeCode (code : Word16) (s : State) : State × Bool :=
  let r := takeInRing code s.time.ms s.cpt.ring
  let s := s.setCpt { s.cpt with
    ring := r.1
    appends := if r.2 then s.cpt.appends else s.cpt.appends + 1 }
  (post (event .checkpoint 0 code.toNat) s, r.2)

/-- CPT after it has handed its trace over: empty and RECORDING (R109). -/
def emptyTrace (s : State) : State :=
  s.setCpt { s.cpt with ring := [], appends := 0, frozen := false, frozenAt := none }

/-- FREEZE (R107). -/
def freezeTrace (s : State) : State :=
  if s.cpt.frozen then s
  else s.setCpt { s.cpt with frozen := true, frozenAt := some s.time.ms }

/-! ### Restart records (R94) -/

/-- A PENDING newest record takes outcome `o` (R88, R91, R93, R95). -/
def closeNewest (o : RecordOutcome) (rs : List RestartRecord) : List RestartRecord :=
  match rs.getLast? with
  | some r => if r.outcome = .pending then rs.dropLast ++ [{ r with outcome := o }] else rs
  | none => rs

/-- A PENDING newest record becomes FAILED (R88 step 1, R93 step 1, R95 step 1). -/
def failPending (s : State) : State :=
  s.setWeu { s.weu with records := closeNewest .failed s.weu.records }

/-- A record joins the list; a ninth pushes the oldest out (R94 step 4). -/
def appendRecord (r : RestartRecord) (rs : List RestartRecord) : List RestartRecord :=
  let l := rs ++ [r]
  if l.length ≤ Config.recordSize then l else l.drop 1

/-- A record is written with the present ladder position (R94). -/
def writeRecord (reason : Reason) (unit : Option TrigUnit) (action : RecordAction)
    (offTime : Option Nat) (outcome : RecordOutcome) (s : State) : State :=
  let r : RestartRecord :=
    { reason := reason, trigUnit := unit, step := s.weu.step, attempt := s.weu.attempts
      action := action, offTime := offTime, time := s.time.sec
      board := s.zoneTemp .n1, front := s.zoneTemp .n0, outcome := outcome
      trace := s.cpt.ring, frozenAt := if s.cpt.frozen then s.cpt.frozenAt else none }
  let s := emptyTrace s
  s.setWeu { s.weu with records := appendRecord r s.weu.records, reportDue := true }

/-! ### Entry into a host state (R53) -/

/-- WEU's phase and timers on an entry (R79, R85); `old` is the state left. -/
def weuOnEntry (new old : HostState) (c : WatchdogSettings) (w : Weu) : Weu :=
  match new with
  | .booting =>
    { w with
      phase := if c.timeout = 0 then .off else .boot
      bootTimer := if c.timeout = 0 then none else some 0
      bootLimit := c.bootAllowance * 1000
      kickTimer := none, stable := .none }
  | .running =>
    { w with
      phase := if c.timeout = 0 then .off else .windowed
      bootTimer := none
      kickTimer := if c.timeout = 0 then none else some 0
      timeoutInForce := c.timeout, windowInForce := c.windowMin
      stable := .counting 0 0 }
  | .stopping =>
    if old = .running then { w with bootTimer := none, stable := .none }
    else
      { w with
        phase := if c.timeout = 0 then .off else .windowed
        bootTimer := none
        kickTimer := if c.timeout = 0 then none else some 0
        timeoutInForce := c.timeout, windowInForce := c.windowMin
        stable := .none }
  | .off | .qualifying | .powering | .resetting | .cycling | .suspended | .lockedOut =>
    { w with phase := .off, bootTimer := none, kickTimer := none, stable := .none }

/-- RESTART_REPORT on an entry into RUNNING with report due (R96). -/
def restartReport (s : State) : State :=
  if s.weu.reportDue then
    let s' := s.setWeu { s.weu with reportDue := false }
    match s.weu.records.getLast? with
    | some r => notify (.restartReport r.reason r.step r.action) s'
    | none => s'
  else s

/-- HPS reports an entry to WEU, CPT, KEQ and CNU (R53, R79, R110, R144, R145, R175). -/
def reportEntry (new old : HostState) (s : State) : State :=
  let s := s.setWeu (weuOnEntry new old s.settings.watchdog s.weu)
  let s := if new = .running then restartReport s else s
  let s := s.setCpt { s.cpt with seen := new }
  let s := s.setKeq (if new.takesKeys then { s.keq with seen := new } else Keq.initial new)
  s.setCnu (
    if new = .running ∨ new = .stopping then { s.cnu with seen := new }
    else { s.cnu with seen := new, notices := [], overflow := false })

/-- Every HELD request is discarded (R186). -/
def discardHeld (s : State) : State :=
  s.setLnk { s.lnk with held := [] }

/-- The live causes of WARM_TIMEOUT and LOCKOUT end when their state is left (R57, R64). -/
def leaveCauses (old new : HostState) (s : State) : State :=
  let s := if old = .qualifying ∧ new ≠ .qualifying then endCause .warmTimeout s else s
  if old = .lockedOut ∧ new ≠ .lockedOut then endCause .lockout s else s

/-- An entry into a host state with its stage and stage timer (R53). HELD requests are discarded when
HOST_RST_N becomes asserted or HOST_PWR_EN deasserted (R186); then HOST_STATE(new, previous) is posted
and the entry reported. DESIGN CHOICE: in that order also at the entry into BOOTING, so that the EVENTS_LOST
notice of a HOST_STATE event lost to a full inbox is judged before the entry, and dropped, where R175 lets it be
judged before or after (log entry 34). -/
def enterState (new : HostState) (stage : Stage) (timer : Option Nat) (s : State) : State :=
  let old := s.hps.state
  let en := s.hostPwrEn
  let rst := s.hostRstN
  let s := s.setHps { s.hps with
    state := new, prev := old, stage := stage, stageTimer := timer
    pendingOn := stage == .pending }
  let s := if (!rst && s.hostRstN) || (en && !s.hostPwrEn) then discardHeld s else s
  let s := leaveCauses old new s
  let s := post (event .hostState new.num old.num) s
  reportEntry new old s

/-! ### Admission (R54 to R56) -/

/-- A gating zone passes (R55.1). -/
def zonePasses (c : ZoneSettings) (blindSoak : Nat) (z : ZoneRec) : Bool :=
  if z.valid then z.filtered.isSome && c.soak ≤ z.inWindow && 1 ≤ z.inWindow
  else blindSoak ≤ z.blind

/-- Admission is met (R55). -/
def admission (s : State) : Bool :=
  (Four.all.all fun z =>
    !(s.settings.zone.get z).gating ||
      zonePasses (s.settings.zone.get z) s.settings.hostPower.blindSoak (s.zmon.zones.get z)) &&
  !s.live .supplyLow &&
  (Four.all.any fun z => (s.settings.zone.get z).gating && (s.zoneTemp z).isSome)

/-- Admission is met: a power-on is pending and HPS enters POWERING (R56). -/
def admitHost (s : State) : State :=
  enterState .powering .pending none (post (event .admission 0 s.hps.qualClock) s)

/-- HPS tests admission while QUALIFYING (R54). -/
def testAdmission (s : State) : State :=
  if s.hps.state = .qualifying ∧ admission s = true then admitHost s else s

/-- The warm-up's bookkeeping on entry to QUALIFYING: kept from POWERING, else started afresh (R54). -/
def startWarmUp (s : State) : State :=
  if s.hps.state = .powering then s
  else s.setHps { s.hps with qualClock := 0, qualMs := 0, warmTimeout := false }

/-- HPS enters QUALIFYING and tests admission on entry (R54, R57). -/
def enterQualifying (s : State) : State :=
  let s := enterState .qualifying .noStage none (startWarmUp s)
  testAdmission (if s.hps.warmTimeout then raise .warmTimeout s else s)

/-! ### Preheat lead (R73) -/

/-- The lead of one gating zone. -/
def zoneLead (c : ZoneSettings) (blindSoak : Nat) (z : ZoneRec) : Nat :=
  match z.temp with
  | some t =>
    let shortfall := (c.admitLow - t).toNat
    if shortfall = 0 then 0 else shortfall * c.leadRate / 10 + c.soak
  | none => blindSoak

/-- The preheat lead: the largest of the gating zones' leads, at most lead_max (R73). -/
def computeLead (s : State) : Nat :=
  let lead (z : Zone) : Nat :=
    if (s.settings.zone.get z).gating then
      zoneLead (s.settings.zone.get z) s.settings.hostPower.blindSoak (s.zmon.zones.get z)
    else 0
  min s.settings.hostPower.leadMax (max (max (lead .n0) (lead .n1)) (max (lead .n2) (lead .n3)))

/-! ### Ends of stops (R67, R69, R71) -/

/-- The stop cause, stop zone and stop request are cleared (R67). -/
def clearStop (s : State) : State :=
  s.setHps { s.hps with stopCause := .none, stopZone := none, stopRequest := none }

/-- The wake is set up on entry to SUSPENDED (R71). -/
def setUpWake (s : State) : State :=
  let r := s.hps.stopRequest.getD ⟨true, 0, false⟩
  let s := s.setHps { s.hps with
    wakeOnTrigger := r.wakeOnTrigger
    wakeAt := if r.wakeDelay = 0 then none else some (s.time.sec + BitVec.ofNat 32 r.wakeDelay)
    preheat := false }
  if s.hps.wakeAt.isSome then
    s.setHps { s.hps with lead := computeLead s, leadTimer := Config.leadPeriod, leadMs := 0 }
  else s

/-- A stop ends: the supply is removed and HPS enters the destination (R67, R69). -/
def endStop (s : State) : State :=
  match s.hps.destination with
  | .off => enterState .off .noStage none (clearStop s)
  | .qualifying => enterQualifying (clearStop s)
  | .suspended => setUpWake (enterState .suspended .noStage none s)

/-- HPS leaves SUSPENDED for QUALIFYING (R71, R73). -/
def wake (s : State) : State :=
  enterQualifying (s.setHps { s.hps with
    wakeAt := none, wakeOnTrigger := false, preheat := false
    stopCause := .none, stopRequest := none, leadTimer := 0, leadMs := 0 })

/-! ### Orders (R61 to R64) -/

/-- An order of WEU (R61). -/
inductive Order where
  | reset
  | cycle (offTime : Nat)
  | lockout
  deriving DecidableEq, Repr

/-- DRAIN ends: the stage becomes OFF_TIME (R63). -/
def toOffTime (s : State) : State :=
  s.setHps { s.hps with stage := .offTime, stageTimer := some (s.hps.offTime * 1000) }

/-- HPS performs an order (R61, R63, R64). A stop request held for a stop delay is discarded. -/
def perform (o : Order) (s : State) : State :=
  let s := s.setHps { s.hps with stopRequest := none }
  match o with
  | .reset => enterState .resetting .noStage (some s.settings.hostPower.resetPulse) s
  | .cycle t =>
    let s := s.setHps { s.hps with offTime := t }
    let s := enterState .cycling .drain (some Config.drainMs) s
    if s.powerGood then s else toOffTime s
  | .lockout =>
    let s := s.setHps { s.hps with
      retryTimer :=
        if s.settings.hostPower.lockoutRetry = 0 then none
        else some (s.settings.hostPower.lockoutRetry * 60)
      retryMs := 0 }
    raise .lockout (enterState .lockedOut .noStage none s)

/-! ### Escalation (R86 to R89) -/

/-- The settings of ladder step `n`. -/
def LadderSettings.step (l : LadderSettings) (n : Nat) : LadderStep :=
  match Four.ofNum n with
  | some i => l.steps.get i
  | none => l.steps.v3

/-- The ladder position after one more failure, or none when the ladder has run out (R88 step 2). -/
def advance (l : LadderSettings) (step attempts : Nat) : Option (Nat × Nat) :=
  if attempts < (l.step step).attempts then some (step, attempts + 1)
  else if step + 1 < l.stepCount then some (step + 1, 1)
  else none

/-- The order of a failure placed at a step (R88 step 3); a POWER_FAIL always cycles (R89). -/
def orderAt (st : LadderStep) (powerFail : Bool) : Order :=
  if powerFail then .cycle st.offTime
  else
    match st.action with
    | .reset => .reset
    | .cycle => .cycle st.offTime

/-- The action a restart record shows for an order (R88 step 4). -/
def Order.action : Order → RecordAction
  | .reset => .reset
  | .cycle _ => .cycle
  | .lockout => .lockout

/-- The off time a restart record shows for an order: for CYCLE only (05, section 5.4). -/
def Order.offTime? : Order → Option Nat
  | .cycle t => some t
  | .reset | .lockout => none

/-- An escalated failure is handled (R88, R89). -/
def escalate (reason : Reason) (unit : Option TrigUnit) (s : State) : State :=
  let s := failPending s
  match advance s.settings.ladder s.weu.step s.weu.attempts with
  | some (step, attempts) =>
    let s := s.setWeu { s.weu with step := step, attempts := attempts }
    let o := orderAt (s.settings.ladder.step step) (reason == .powerFail)
    perform o (writeRecord reason unit o.action o.offTime? .pending s)
  | none => perform .lockout (writeRecord reason unit .lockout none .lockout s)

/-- HPS gives POWER_FAIL to WEU in POWERING, BOOTING or RUNNING (R59, R60, R86, R89). -/
def powerFail (s : State) : State :=
  escalate .powerFail none (raise .powerFail s)

/-- A failure taken while STOPPING is recorded, not escalated (R95). -/
def recordInStop (reason : Reason) (s : State) : State :=
  writeRecord reason none .none none .pending (failPending s)

/-- The ladder position is set to (0, 0) (R91, R92). -/
def resetLadder (s : State) : State :=
  s.setWeu { s.weu with step := 0, attempts := 0 }

/-- HPS enters BOOTING; a HOST_PWR_GOOD that is low there is a POWER_FAIL (R59, R60, R62). -/
def enterBooting (s : State) : State :=
  let s := enterState .booting .noStage none s
  if s.powerGood then s else powerFail s

/-! ### Thermal and trigger stops (R65, R66) -/

/-- A stop begins from BOOTING or RUNNING with stage NONE (R66). -/
def beginStop (cause : StopCause) (zone : Option Zone) (d : Destination) (s : State) : State :=
  let grace := s.settings.hostPower.stopGrace
  let s := s.setHps { s.hps with
    stopCause := cause, stopZone := zone, destination := d, stopRequest := none }
  notify (.shutdownRequest cause zone grace) (enterState .stopping .grace (some (grace * 1000)) s)

/-- A crit excursion of zone `z` is reported to HPS (R65). -/
def critExcursion (z : Zone) (s : State) : State :=
  match s.hps.state with
  | .booting => beginStop .thermal (some z) .qualifying (raise .thermalStop s)
  | .running =>
    if s.hps.stage = .stopDelay then raise .thermalStop s
    else beginStop .thermal (some z) .qualifying (raise .thermalStop s)
  | .stopping =>
    if s.hps.stopCause = .trigger then
      let s := s.setHps { s.hps with
        stopCause := .thermal, stopZone := some z, destination := .qualifying }
      let s := raise .thermalStop s
      if s.hps.stage = .grace then
        let grace := s.settings.hostPower.stopGrace
        let s := s.setHps { s.hps with stageTimer := some (grace * 1000) }
        notify (.shutdownRequest .thermal (some z) grace) s
      else s
    else s
  | .powering | .resetting => enterQualifying (raise .thermalStop s)
  | .off | .qualifying | .cycling | .suspended | .lockedOut => s

/-! ### Actions of trigger units (R66, R72, R87) -/

/-- HPS leaves LOCKED_OUT (R64). -/
def releaseLockout (s : State) : State :=
  let s := resetLadder s
  enterQualifying (s.setHps { s.hps with retryTimer := none, retryMs := 0 })

/-- POWER_ON (R72). -/
def triggerPowerOn (s : State) : State :=
  match s.hps.state with
  | .off => enterQualifying (resetLadder s)
  | .lockedOut => releaseLockout s
  | .suspended => if s.hps.wakeOnTrigger then wake (resetLadder s) else s
  | .qualifying | .powering | .resetting | .booting | .running | .stopping | .cycling => s

/-- SHUTDOWN (R66). -/
def triggerShutdown (s : State) : State :=
  match s.hps.state with
  | .booting => beginStop .trigger none .off s
  | .running =>
    if s.hps.stage = .noStage then beginStop .trigger none .off s else s
  | .off | .qualifying | .powering | .resetting | .stopping | .cycling | .suspended | .lockedOut => s

/-- RESTART by trigger unit `u` (R86, R87). -/
def triggerRestart (u : TrigUnit) (s : State) : State :=
  match s.hps.state with
  | .booting | .running => escalate .trigger (some u) s
  | .off | .qualifying | .powering | .resetting | .stopping | .cycling | .suspended | .lockedOut => s

end Sys2Proof.Machine
end

