-- ==== Sys2Proof/Machine/Climate.lean ====
section
/-! DEFINITION. HSCH (02) and AFM (03): what a climate boundary computes, what a slot's end and a fan
measurement do, and the learn operation. -/

namespace Sys2Proof.Machine

/-- The zone a heater heats (00_scope.md). -/
def heatedZone : Heater → Zone
  | .n0 => .n0 | .n1 => .n1 | .n2 => .n2

/-! ### Targets and demand (R20 to R24) -/

/-- The heater's record with the working settings copied into it; both runs restart where a current
limit changed (R20, R31). -/
def copySettings (c : HeaterSettings) (h : HeaterRec) : HeaterRec :=
  let same := h.iMin = c.iMin ∧ h.iMax = c.iMax
  { h with
    enabled := c.enabled, rating := c.rating, rank := c.rank, fallback := c.fallback
    iMin := c.iMin, iMax := c.iMax
    lowRun := if same then h.lowRun else 0
    highRun := if same then h.highRun else 0 }

/-- The target of a zone for the host state read at the boundary (R21). -/
def targetFor (c : ZoneSettings) (st : HostState) (preheat : Bool) : Int :=
  match st with
  | .qualifying | .cycling => c.warmTarget
  | .suspended => if preheat then c.warmTarget else c.idleTarget
  | .powering | .resetting | .booting | .running | .stopping => c.holdTarget
  | .off | .lockedOut => c.idleTarget

/-- The demand from an error in tenths (R22). -/
def demandFor (gain : Nat) (err : Int) : Nat :=
  min 32 (err.toNat * gain / 64)

/-- A heater's target and demand at a boundary (R21 to R24). -/
def heaterDemand (c : ZoneSettings) (st : HostState) (preheat fault : Bool) (temp : Option Int)
    (h : HeaterRec) : HeaterRec :=
  let target := targetFor c st preheat
  let h := { h with target := some target, g := 0 }
  if !h.enabled || fault then { h with fromError := false, dem := 0 }
  else
    match temp with
    | some t => { h with fromError := true, dem := demandFor c.gain (target - t) }
    | none => { h with fromError := false, dem := h.fallback }

/-! ### Budget and allocation (R27, R28) -/

/-- The available budget (R27). -/
def available (b : BudgetSettings) (hostFlag fanFlag shed : Bool) : Nat :=
  if shed then 0
  else b.cabinetBudget - (if hostFlag then b.hostReserve else 0) - (if fanFlag then b.fanReserve else 0)

/-- The energy a rank asks for: the sum of dem × P over its heaters (R28). -/
def rankDemand (r : Nat) (hs : PerThree HeaterRec) : Nat :=
  (hs.list.map fun h => if h.rank = r then h.dem * h.rating else 0).sum

/-- The energy a rank spends: the sum of g × P over its heaters (R28). -/
def rankSpent (r : Nat) (hs : PerThree HeaterRec) : Nat :=
  (hs.list.map fun h => if h.rank = r then h.g * h.rating else 0).sum

/-- A heater's grant when its rank is served with `rem` for a demand of `d` (R28). -/
def grantOf (rem d : Nat) (h : HeaterRec) : HeaterRec :=
  { h with g := if d ≤ rem then h.dem else h.dem * rem / d }

/-- One rank is served: the heaters' grants and the remainder after it (R28). -/
def serveRank (r : Nat) (x : PerThree HeaterRec × Nat) : PerThree HeaterRec × Nat :=
  let d := rankDemand r x.1
  let hs := PerThree.of fun i =>
    let h := x.1.get i
    if h.rank = r then grantOf x.2 d h else h
  (hs, x.2 - rankSpent r hs)

/-- The grants of a period from its energy budget, and what is left unspent (R28). -/
def allocate (e : Nat) (hs : PerThree HeaterRec) : PerThree HeaterRec × Nat :=
  serveRank 3 (serveRank 2 (serveRank 1 (hs, e)))

/-- The outputs driven in a slot, from the placement (R29, R30). -/
def drive (slot : Nat) (hs : PerThree HeaterRec) : PerThree HeaterRec :=
  PerThree.of fun i =>
    let h := hs.get i
    { h with output := onInSlot i h.g slot }

/-- HSCH at a boundary (R18 to R29): the records of the period that begins. The fan duty of the
period has been set already (R26). -/
def hschBoundary (s : State) : State :=
  let hs := PerThree.of fun i =>
    heaterDemand (s.settings.zone.get (heatedZone i)) s.hps.state s.hps.preheat (s.latched (.heaterFault i))
      (s.zoneTemp (heatedZone i)) (copySettings (s.settings.heater.get i) (s.hsch.heaters.get i))
  let hostFlag := s.hostReserveNow
  let fanFlag := 0 < s.afm.duty
  let shed := s.live .supplyLow
  let a := available s.settings.budget hostFlag fanFlag shed
  let r := allocate (32 * a) hs
  s.setHsch
    { heaters := drive 0 r.1, slot := 0, boundaryDue := false, hostReserve := hostFlag
      fanReserve := fanFlag, shed := shed, avail := a, energy := 32 * a, unspent := r.2 }

/-! ### The boundary at HPS (R58, R59) -/

/-- HPS at a boundary: a pending power-on is asserted, or withdrawn for supply-low (R58). A
HOST_PWR_GOOD that is high already ends the wait at once (R59). -/
def hpsBoundary (s : State) : State :=
  if s.hps.pendingOn then
    if s.live .supplyLow then enterQualifying s
    else if s.powerGood then
      s.setHps { s.hps with
        pendingOn := false, stage := .resetHold
        stageTimer := some s.settings.hostPower.resetPulse }
    else
      s.setHps { s.hps with
        pendingOn := false, stage := .waitGood
        stageTimer := some s.settings.hostPower.powerGoodTimeout }
  else s

/-! ### Slots (R31, R32) -/

/-- A current reading, limited to 0..5000 mA (R31). -/
def currentReading (x : Int) : Nat := (min x 5000).toNat

/-- The runs after a reading (R31). -/
def testCurrent (x : Nat) (h : HeaterRec) : HeaterRec :=
  { h with
    lastCurrent := x
    lowRun := if x < h.iMin then h.lowRun + 1 else 0
    highRun := if h.iMax < x then h.highRun + 1 else 0 }

/-- A heater faults within the slot (R32): off, grant 0, runs 0, latched with its kind, event
posted. -/
def heaterFaults (i : Heater) (k : FaultKind) (s : State) : State :=
  let h := s.hsch.heaters.get i
  let h := { h with output := false, g := 0, lowRun := 0, highRun := 0 }
  let s := s.setHsch { s.hsch with heaters := s.hsch.heaters.set i h }
  post (event .heater i.num (if k = .short then 1 else 0)) (raiseHeater i k s)

/-- The reading of heater `i` in the slot that ends, if its output is on (R31, R32). -/
def readHeater (x : Int) (i : Heater) (s : State) : State :=
  let h := s.hsch.heaters.get i
  if h.output then
    let h := testCurrent (currentReading x) h
    let s := s.setHsch { s.hsch with heaters := s.hsch.heaters.set i h }
    if 2 ≤ h.lowRun then heaterFaults i .openLoad s
    else if 2 ≤ h.highRun then heaterFaults i .short s
    else s
  else s

/-- The slot that follows begins, driven from the placement (R30). The end of slot 31 is the boundary of
the next period: no slot of the old placement follows it, and the boundary of that moment is due (R18, log
entry 26). -/
def nextSlot (s : State) : State :=
  let slot := s.hsch.slot + 1
  if slot < 32 then s.setHsch { s.hsch with slot := slot, heaters := drive slot s.hsch.heaters }
  else s.setHsch { s.hsch with boundaryDue := true }

/-! ### Fan duty (R40, R41) -/

/-- running after a boundary (R41). -/
def nextRunning (c : FanSettings) (running : Bool) (t3 : Option Int) : Bool :=
  match t3 with
  | some t => if c.fanOn ≤ t then true else running && decide (c.fanOn - 20 ≤ t)
  | none => running

/-- The computed duty of a running fan (R40). -/
def computedDuty (c : FanSettings) (t3 : Int) : Nat :=
  let x := c.minDuty + Int.fdiv ((t3 - c.fanOn) * (100 - c.minDuty)) (c.fanFull - c.fanOn)
  (max (c.minDuty : Int) (min x 100)).toNat

/-- A zone is above its ceiling (R40, boost). -/
def State.boost (s : State) : Bool :=
  Four.all.any fun z =>
    match s.zoneTemp z with
    | some t => (s.settings.zone.get z).ceiling < t
    | none => false

/-- The duty of the period that begins, and its reason (R40). -/
def fanDuty (learning : Bool) (running : Bool) (s : State) : Nat × DutyReason :=
  if learning then (100, .learn)
  else
    match s.zoneTemp .n3 with
    | none => (100, .blind)
    | some t3 =>
      if s.boost then (100, .boost)
      else if running then (computedDuty s.settings.fan t3, .computed)
      else (0, .off)

/-- AFM at a boundary (R40, R41, R46): a WAITING learn enters MEASURING. -/
def afmBoundary (s : State) : State :=
  let running := nextRunning s.settings.fan s.afm.running (s.zoneTemp .n3)
  let learning := decide (s.afm.learn ≠ .idle)
  let d := fanDuty learning running s
  s.setAfm { s.afm with
    running := running, duty := d.1, reason := d.2
    learn := if learning then .measuring else .idle }

/-! ### Fan measurements (R43 to R48) -/

/-- The speed of an interval (R43). -/
def speedOf (pulses : Nat) : Nat := min 30000 (pulses * 30)

/-- The stall judgement (R44). -/
def stepStall (c : FanSettings) (a : Afm) : Afm :=
  if a.duty = 0 then { a with slowRun := 0, fastRun := 0 }
  else if a.stalled then
    if a.speed < c.stallRpm then { a with fastRun := 0 }
    else if a.fastRun + 1 ≥ 5 then { a with stalled := false, slowRun := 0, fastRun := 0 }
    else { a with fastRun := a.fastRun + 1 }
  else
    if a.speed < c.stallRpm then
      if a.slowRun + 1 ≥ 5 then { a with stalled := true, slowRun := 0, fastRun := 0 }
      else { a with slowRun := a.slowRun + 1 }
    else { a with slowRun := 0 }

/-- The clog threshold of a reference (R45). -/
def clogThreshold (c : FanSettings) (reference : Nat) : Nat :=
  reference * (100 + c.clogPct) / 100

/-- The full run and the clog judgement (R45). -/
def stepClog (c : FanSettings) (a : Afm) : Afm :=
  let a := { a with fullRun := if a.duty = 100 then satInc 65535 a.fullRun else 0 }
  match a.reference with
  | some r =>
    if !a.clogged && a.learn = .idle && 30 ≤ a.fullRun && clogThreshold c r < a.speed then
      { a with clogged := true }
    else a
  | none => a

/-- The notice of a learn's end (R47, R48). -/
def learnDone (r : OpResult) (v : Option Nat) : Emit :=
  .notify (.operationDone .learn r v)

/-- AFM's record with the learn ended (R47, R48). -/
def Afm.learnEnded (a : Afm) : Afm := { a with learn := .idle }

/-- A learn reading (R47, R48): what it makes of the record, the reference it completes with, and
what it hands on as latches and notices, then as events. -/
def stepLearn (cellOk : Bool) (a : Afm) : Afm × Option Nat × List Emit × List Emit :=
  if a.learn ≠ .measuring then (a, none, [], [])
  else if a.stalled then (a.learnEnded, none, [learnDone .stall none], [])
  else if a.readings + 1 < 30 then
    ({ a with readings := a.readings + 1, sum := a.sum + a.speed }, none, [], [])
  else
    let ref := (a.sum + a.speed) / 30
    let a' := { a with
      readings := a.readings + 1, sum := a.sum + a.speed, reference := some ref, clogged := false
      fullRun := 0, learn := .idle }
    (a', some ref,
      (if cellOk then [] else [.raise .storeFailed]) ++
      (if a.clogged then [.endCause .filterClog] else []) ++
      [if cellOk then learnDone .ok (some ref) else learnDone .failed none],
      if a.clogged then [.post (event .airflow 3 ref)] else [])

/-- The latches and the event of a change of stall state (R44). -/
def stallEmits (old new : Afm) : List Emit × List Emit :=
  if !old.stalled && new.stalled then
    ([.raise .fanStall], [.post (event .airflow 0 new.speed)])
  else if old.stalled && !new.stalled then
    ([.endCause .fanStall], [.post (event .airflow 2 new.speed)])
  else ([], [])

/-- The latch and the event of a clog (R45). -/
def clogEmits (old new : Afm) : List Emit × List Emit :=
  if !old.clogged && new.clogged then
    ([.raise .filterClog], [.post (event .airflow 1 new.speed)])
  else ([], [])

/-- AFM processes a measurement in the order of R39, then posts its events. -/
def measureFan (pulses : Nat) (cellOk : Bool) (s : State) : State :=
  let c := s.settings.fan
  let a0 := { s.afm with speed := speedOf pulses }
  let a1 := stepStall c a0
  let a2 := stepClog c a1
  let l := stepLearn cellOk a2
  let e1 := stallEmits a0 a1
  let e2 := clogEmits a1 a2
  let s := s.setAfm l.1
  let s := match l.2.1 with
    | some r => if cellOk then s.setPst { s.pst with cell := some r } else s
    | none => s
  emitAll (e1.1 ++ e2.1 ++ l.2.2.1 ++ e1.2 ++ e2.2 ++ l.2.2.2) s

/-- A WRITE to FAN aborts a learn (R42, R48). -/
def abortLearn (s : State) : State :=
  if s.afm.learn = .idle then s
  else emit (learnDone .aborted none) (s.setAfm s.afm.learnEnded)

end Sys2Proof.Machine
end

