-- ==== Sys2Proof/Machine/Keypad.lean ====
section
/-! DEFINITION. KSU (07): what a scan and a ZMON round make of the keypad. Each step works on KSU's own
record and on the list of what it hands on; the commands hand that list on in order (R132). -/

namespace Sys2Proof.Machine

/-- The keypad being processed: its record, and what it has handed on so far. -/
structure Pad where
  ksu : Ksu
  out : List Emit
  deriving DecidableEq, Repr

/-- Hand one more thing on. -/
def Pad.emit (p : Pad) (e : Emit) : Pad := { p with out := p.out ++ [e] }

/-- The record of key `k`. -/
def Ksu.key (u : Ksu) (k : Nat) : KeyRec := u.keys.getD k .initial

/-- Replace the record of key `k`. -/
def Pad.setKey (p : Pad) (k : Nat) (r : KeyRec) : Pad :=
  { p with ksu := { p.ksu with keys := p.ksu.keys.set k r } }

/-- A step made for each key in key order, K0 upward. -/
def eachKey (f : Nat → Pad → Pad) (p : Pad) : Pad :=
  (List.range Config.keyCount).foldl (fun p k => f k p) p

/-- A held time in ms, limited to 65535 (R122, R124, R128). -/
def heldMs (now : Word32) (r : KeyRec) : Nat := min 65535 (elapsed now r.pressTime)

/-- The key record offered for key `k` (R132). -/
def keyOffer (now : Word32) (k : Nat) (kind : KeyKind) : Emit :=
  .offer ⟨k, kind, now.setWidth 16⟩

/-- A release is given: KEY_RELEASE(k, held) and a RELEASE record with its flags (R122, R124, R128). -/
def giveRelease (now : Word32) (k : Nat) (r : KeyRec) (suppressed stuck : Bool) (p : Pad) : Pad :=
  (p.emit (.post (event .keyRelease k (heldMs now r)))).emit
    (keyOffer now k (.release suppressed stuck))

/-- The key at IDLE with both runs at 0. -/
def KeyRec.toIdle (r : KeyRec) : KeyRec :=
  { r with state := .idle, pressRun := 0, releaseRun := 0, due := false }

/-- Some fitted key is in a state of this kind. -/
def Ksu.countKeys (u : Ksu) (fitted : Nat) (f : KeyState → Bool) : Nat :=
  ((u.keys.take fitted).filter fun r => f r.state).length

/-- Some key is QUARANTINED (R125). -/
def Ksu.anyQuarantined (u : Ksu) : Bool := u.keys.any fun r => r.state == .quarantined

/-- The end of KEY_STUCK's live cause, when the last quarantined key has left (R125, R133). -/
def stuckEnds (before : Bool) (p : Pad) : Pad :=
  if before && !p.ksu.anyQuarantined then p.emit (.endCause .keyStuck) else p

/-! ### Measuring and baselines (R114 to R120) -/

/-- Step 1: raw and delta of a fitted key; a key without baseline takes it here (R114). -/
def measureKey (raw : Nat) (r : KeyRec) : KeyRec :=
  match r.baseline with
  | some b => { r with raw := raw, delta := (b : Int) - raw }
  | none => { r with raw := raw, baseline := some raw, delta := 0 }

/-- The baseline is set to the raw count, and the delta to 0. -/
def KeyRec.retake (r : KeyRec) : KeyRec := { r with baseline := some r.raw, delta := 0 }

/-- A key in this state is named by the re-take that is due (R119, R120). -/
def retakeNames (t : Retake) (st : KeyState) : Bool :=
  match t, st with
  | .idleKeys, .idle | .allKeys, .idle | .allKeys, .pendingPress => true
  | _, _ => false

/-- Step 3: anti-touch (R117). -/
def antiTouch (thr : Nat) (r : KeyRec) : KeyRec :=
  match r.baseline with
  | some b => if r.state ≠ .pressed ∧ b + thr < r.raw then r.retake else r
  | none => r

/-- Step 9: a baseline moves toward its raw count (R116). -/
def driftBaseline (b raw : Nat) : Nat :=
  let d := (raw : Int) - b
  let q := Int.tdiv d 16
  if d = 0 then b
  else if q = 0 then (if 0 < d then b + 1 else b - 1)
  else ((b : Int) + q).toNat

/-- Step 9 for one key. -/
def driftKey (r : KeyRec) : KeyRec :=
  match r.baseline with
  | some b => { r with baseline := some (driftBaseline b r.raw) }
  | none => r

/-- Steps 1 to 3 for the fitted keys (R115). A re-take that is due is made whether suppression is active or
not (DEDUCED, log entry 32). -/
def measureKeys (c : KeypadSettings) (raws : List Nat) (u : Ksu) : Ksu :=
  { u with
    retake := .none
    keys := mapIndexed (fun k r =>
      if k < c.keysFitted then
        let r := measureKey (raws.getD k 0) r
        let r := if retakeNames u.retake r.state then r.retake else r
        antiTouch c.touchThr r
      else r) 0 u.keys }

/-! ### Debounce (R118, R122, R125) -/

/-- A key that is not QUARANTINED is stepped on its delta (R118), but for its release. -/
def stepKey (c : KeypadSettings) (r : KeyRec) : KeyRec :=
  match r.state with
  | .idle =>
    if (c.touchThr : Int) ≤ r.delta then
      { r with state := .pendingPress, pressRun := 1, due := decide (c.pressCount ≤ 1) }
    else r
  | .pendingPress =>
    if (c.touchThr : Int) ≤ r.delta then
      let n := min c.pressCount (r.pressRun + 1)
      { r with pressRun := n, due := decide (n = c.pressCount) }
    else { r with state := .idle, pressRun := 0, due := false }
  | .pressed =>
    if r.delta < c.releaseThr then { r with state := .pendingRelease, releaseRun := 1 } else r
  | .pendingRelease =>
    if r.delta < c.releaseThr then { r with releaseRun := r.releaseRun + 1 }
    else { r with state := .pressed, releaseRun := 0 }
  | .quarantined => r

/-- A QUARANTINED key is stepped on its delta (R125). -/
def stepQuarantined (c : KeypadSettings) (now : Word32) (r : KeyRec) : KeyRec :=
  if (c.releaseThr : Int) ≤ r.delta then { r with quietStart := none }
  else
    match r.quietStart with
    | none => { r with quietStart := some now }
    | some t =>
      if 1000 ≤ elapsed now t then { r.retake with state := .idle, quietStart := none } else r

/-- Step 4 for key `k` (R118, R122, R125). -/
def debounceKey (c : KeypadSettings) (now : Word32) (k : Nat) (p : Pad) : Pad :=
  let r := p.ksu.key k
  if k < c.keysFitted then
    if r.state = .quarantined then p.setKey k (stepQuarantined c now r)
    else
      let r' := stepKey c r
      if r'.state = .pendingRelease ∧ c.releaseCount ≤ r'.releaseRun then
        giveRelease now k r' false false (p.setKey k r'.toIdle)
      else p.setKey k r'
  else p

/-! ### Suppression (R126 to R130) -/

/-- A held key is released by force, a pending press cleared, when suppression starts (R128 steps 1
and 2). -/
def suppressKey (now : Word32) (k : Nat) (p : Pad) : Pad :=
  let r := p.ksu.key k
  if r.state.held then
    giveRelease now k r true false (p.setKey k { r.toIdle with ordinal := 0 })
  else p

/-- A pending press is cleared when suppression starts (R128 step 2). -/
def clearPending (r : KeyRec) : KeyRec :=
  if r.state = .pendingPress then { r with state := .idle, pressRun := 0, due := false } else r

/-- Every chord's start time becomes none (R128 step 3). -/
def stopChords (u : Ksu) : Ksu :=
  { u with chords := PerSix.of fun i => { u.chords.get i with start := none } }

/-- Suppression starts with cause `cause` (R128). -/
def startSuppression (now : Word32) (cause : Nat) (p : Pad) : Pad :=
  let p := eachKey (suppressKey now) p
  let p := { p with ksu := stopChords { p.ksu with keys := p.ksu.keys.map clearPending } }
  (p.emit (.raise .suppressed)).emit (.post (event .suppress cause 1))

/-- Suppression ends with cause `cause`; `t0` is Z0's temperature (R130). -/
def endSuppression (t0 : Option Int) (cause : Nat) (p : Pad) : Pad :=
  let p := (p.emit (.post (event .suppress cause 0))).emit (.endCause .suppressed)
  { p with ksu := { p.ksu with
      retake := .allKeys
      recalRef := if t0.isSome then t0 else p.ksu.recalRef } }

/-- The cover count (R127). -/
def coverCount (c : KeypadSettings) (u : Ksu) : Nat :=
  u.countKeys c.keysFitted fun st => st == .pendingPress || st == .pressed

/-- Step 5: the cover test (R127). -/
def coverTest (c : KeypadSettings) (now : Word32) (t0 : Option Int) (p : Pad) : Pad :=
  let u := p.ksu
  let many := c.maxTouch < coverCount c u
  if !u.cover then
    if many then
      let p' : Pad := { p with ksu := { u with cover := true } }
      if u.suppressed then p' else startSuppression now 2 p'
    else p
  else if many then { p with ksu := { u with coverFall := none } }
  else
    match u.coverFall with
    | none => { p with ksu := { u with coverFall := some now } }
    | some t =>
      if c.coverHold ≤ elapsed now t then
        let u' := { u with cover := false, coverFall := none }
        let p' : Pad := { p with ksu := u' }
        if u'.suppressed then p' else endSuppression t0 2 p'
      else p

/-- Condensation (R126). -/
def condensationNow (c : KeypadSettings) (t0 t3 : Option Int) : Bool :=
  match t0, t3 with
  | some a, some b => decide (0 < c.condMargin) && decide (a < b - c.condMargin)
  | _, _ => false

/-- Frost (R126). -/
def frostNow (c : KeypadSettings) (t0 : Option Int) : Bool :=
  match t0 with
  | some a => decide (a < c.frostFloor)
  | none => false

/-- The recalibration test of a round (R119). -/
def recalTest (c : KeypadSettings) (t0 : Option Int) (u : Ksu) : Ksu :=
  match t0 with
  | none => u
  | some t =>
    match u.recalRef with
    | none => { u with recalRef := some t }
    | some ref =>
      if (c.recalStep : Int) < |t - ref| then
        { u with
          recalRef := some t
          retake := if u.retake = .allKeys then .allKeys else .idleKeys }
      else u

/-- KSU at a completed ZMON round (R119, R126, R128, R130): the causes are judged, and where
suppression is inactive after that and was before, the recalibration test is made. -/
def keypadRound (c : KeypadSettings) (now : Word32) (t0 t3 : Option Int) (u : Ksu) : Pad :=
  let cond := condensationNow c t0 t3
  let frost := frostNow c t0
  let u' := { u with condensation := cond, frost := frost }
  if !u.suppressed && u'.suppressed then
    startSuppression now (if cond then 0 else 1) ⟨u', []⟩
  else if u.suppressed && !u'.suppressed then
    endSuppression t0 (if u.condensation then 0 else 1) ⟨u', []⟩
  else if !u'.suppressed then ⟨recalTest c t0 u', []⟩
  else ⟨u', []⟩

/-! ### Press, stuck, hold, chords (R121, R123, R124, R131) -/

/-- Step 6 for key `k`: a due key becomes PRESSED, or stays PENDING_PRESS under suppression (R121). -/
def pressKey (now : Word32) (k : Nat) (p : Pad) : Pad :=
  let r := p.ksu.key k
  if r.due then
    if p.ksu.suppressed then p.setKey k { r with due := false }
    else
      ((p.setKey k { r with
          state := .pressed, pressRun := 0, due := false, pressTime := now, ordinal := 0 }).emit
        (.post (event .keyPress k 0))).emit (keyOffer now k .press)
  else p

/-- The number of holds due (R123). -/
def holdsDue (c : KeypadSettings) (held : Nat) : Nat :=
  if held < c.holdTime then 0 else 1 + (held - c.holdTime) / c.repeatPeriod

/-- The hold test of a held key (R123). -/
def holdKey (c : KeypadSettings) (rep : Bool) (now : Word32) (k : Nat) (p : Pad) : Pad :=
  let r := p.ksu.key k
  let n := holdsDue c (elapsed now r.pressTime)
  if rep && r.ordinal < n then
    let o := min 65535 n
    ((p.setKey k { r with ordinal := o }).emit (.post (event .keyHold k o))).emit
      (keyOffer now k (.hold 1))
  else p

/-- Step 7 for key `k`: the stuck test, then the hold test (R123, R124). -/
def stuckOrHold (c : KeypadSettings) (repeats : List Bool) (now : Word32) (k : Nat) (p : Pad) : Pad :=
  let r := p.ksu.key k
  if k < c.keysFitted ∧ r.state.held = true then
    if 0 < c.stuckTime ∧ c.stuckTime * 1000 < elapsed now r.pressTime then
      (giveRelease now k r false true (p.setKey k { r with
        state := .quarantined, pressRun := 0, releaseRun := 0, ordinal := 0
        quietStart := none })).emit (.raise .keyStuck)
    else holdKey c (repeats.getD k false) now k p
  else p

/-- The chord is exactly held: every key of its set fitted and held, no other fitted key held
(R131). -/
def exactlyHeld (c : KeypadSettings) (set : List Nat) (u : Ksu) : Bool :=
  (set.all fun k => decide (k < c.keysFitted) && (u.key k).state.held) &&
  ((List.range c.keysFitted).all fun k => set.contains k || !(u.key k).state.held)

/-- Step 8 for chord `i` (R131). -/
def chordTest (c : KeypadSettings) (cs : ChordSettings) (now : Word32) (i : Chord) (p : Pad) : Pad :=
  let put (r : ChordRec) : Pad := { p with ksu := { p.ksu with chords := p.ksu.chords.set i r } }
  let r := p.ksu.chords.get i
  if cs.keys.isEmpty then p
  else if exactlyHeld c cs.keys p.ksu then
    if r.spent then p
    else
      match r.start with
      | none => put { r with start := some now }
      | some t =>
        if cs.hold ≤ elapsed now t then
          (put ⟨none, true⟩).emit (.post (event .chord i.num cs.hold))
        else p
  else if r.spent then
    if cs.keys.any fun k => !(p.ksu.key k).state.held then put { r with spent := false } else p
  else put { r with start := none }

/-- Step 9: in a quiet pad, baselines drift (R116). -/
def driftKeys (c : KeypadSettings) (u : Ksu) : Ksu :=
  if !u.suppressed && (u.keys.take c.keysFitted).all (fun r => r.state == .idle) then
    { u with keys := mapIndexed (fun k r => if k < c.keysFitted then driftKey r else r) 0 u.keys }
  else u

/-- A whole scan, in the order of R115; `t0` is Z0's published temperature. -/
def scanPad (c : Settings) (now : Word32) (t0 : Option Int) (raws : List Nat) (u : Ksu) : Pad :=
  let kp := c.keypad
  let p : Pad := ⟨measureKeys kp raws u, []⟩
  let p := stuckEnds u.anyQuarantined (eachKey (debounceKey kp now) p)
  let p := coverTest kp now t0 p
  let p := eachKey (pressKey now) p
  let p := eachKey (stuckOrHold kp c.keyRepeat now) p
  let p := Six.all.foldl (fun p i => chordTest kp (c.chord.get i) now i p) p
  { p with ksu := driftKeys kp p.ksu }

/-! ### A KEYPAD write that lowers keys_fitted (R133) -/

/-- A key at or beyond the new keys_fitted is handled by its state (R133). DESIGN CHOICE: its raw count, its
delta and its hold ordinal, which R133 does not name, become 0, and its quiet start none (log entry 31). -/
def unfitKey (fitted : Nat) (now : Word32) (k : Nat) (p : Pad) : Pad :=
  let r := p.ksu.key k
  if k < fitted then p
  else
    let p' := p.setKey k { r.toIdle with
      baseline := none, raw := 0, delta := 0, quietStart := none, ordinal := 0 }
    if r.state.held then giveRelease now k r false false p' else p'

/-- The keys beyond the new keys_fitted are handled at once (R133). DESIGN CHOICE: in key order, K0 upward,
an order that R133 does not give (log entry 31). -/
def unfitKeys (fitted : Nat) (now : Word32) (u : Ksu) : Pad :=
  stuckEnds u.anyQuarantined (eachKey (unfitKey fitted now) ⟨u, []⟩)

end Sys2Proof.Machine
end

