-- ==== Sys2Proof/Machine/Trigger.lean ====
section
/-! DEFINITION. The Trigger Matrix (09): matching, the firing units of an event, arming, and the
handing over of actions. -/

namespace Sys2Proof.Machine

/-- The argument lies in the unit's window; the window wraps when arg_lo is above arg_hi (R152). -/
def inWindow (lo hi arg : Int) : Bool :=
  if lo ≤ hi then lo ≤ arg && arg ≤ hi else lo ≤ arg || arg ≤ hi

/-- The event matches the unit's settings (R152). -/
def unitMatches (c : TriggerSettings) (e : Event) : Bool :=
  (c.cls == 16 || c.cls == e.cls.num) &&
  (e.index &&& c.indexMask) == (c.indexValue &&& c.indexMask) &&
  inWindow c.argLo c.argHi e.arg

/-- The event is the TRIGGER event of unit `u` (R154). -/
def isOwnEvent (u : TrigUnit) (e : Event) : Bool :=
  e.cls == .trigger && e.index == BitVec.ofNat 8 u.num

/-- Armed or counting: the states in which a unit is offered events (R154). -/
def UnitState.active : UnitState → Bool
  | .counting | .ready => true
  | .disabled | .waitingArm | .fired => false

/-- Unit `u` fires on the event (R154, R155). The arming chain is followed for at most `fuel` links;
arming relations form no cycle, so seven are enough (R159). -/
def firesWithin (fuel : Nat) (c : PerSix TriggerSettings) (us : PerSix UnitRec) (e : Event)
    (u : TrigUnit) : Bool :=
  match fuel with
  | 0 => false
  | fuel + 1 =>
    (us.get u).state == .ready && !isOwnEvent u e && unitMatches (c.get u) e &&
    match (c.get u).armBy with
    | none => true
    | some a => !firesWithin fuel c us e a

/-- Unit `u` fires on the event. -/
def unitFires (c : PerSix TriggerSettings) (us : PerSix UnitRec) (e : Event) (u : TrigUnit) : Bool :=
  firesWithin 7 c us e u

/-- The arming unit of `u` fires on the event. -/
def armerFires (c : PerSix TriggerSettings) (us : PerSix UnitRec) (e : Event) (u : TrigUnit) : Bool :=
  match (c.get u).armBy with
  | none => false
  | some a => unitFires c us e a

/-- The unit is offered the event (R154). -/
def unitOffered (c : PerSix TriggerSettings) (us : PerSix UnitRec) (e : Event) (u : TrigUnit) : Bool :=
  (us.get u).state.active && !isOwnEvent u e && !armerFires c us e u

/-- A unit put back to count its preset: READY at once when the preset is 0 (R156, R157). -/
def UnitRec.startCounting (c : TriggerSettings) (r : UnitRec) : UnitRec :=
  { r with state := if c.preset = 0 then .ready else .counting, count := c.preset }

/-- A firing unit's state after the firing (R156 step 4). -/
def afterFiring (c : TriggerSettings) (r : UnitRec) : UnitRec :=
  if c.rearm then
    if c.armBy.isSome then { r with state := .waitingArm, count := c.preset, window := none }
    else r.startCounting c
  else { r with state := .fired, count := c.preset, window := none }

/-- A dependent is armed or re-armed when its arming unit fires (R157). -/
def armed (c : TriggerSettings) (r : UnitRec) : UnitRec :=
  match r.state with
  | .waitingArm | .counting | .ready =>
    { r.startCounting c with window := if c.armWindow = 0 then none else some c.armWindow }
  | .disabled | .fired => r

/-- A match in COUNTING (R155). -/
def countMatch (r : UnitRec) : UnitRec :=
  { r with count := r.count - 1, state := if r.count ≤ 1 then .ready else .counting }

/-- What one event makes of unit `u`'s state (R155 to R157), before its fire count and action. -/
def settleUnit (c : PerSix TriggerSettings) (us : PerSix UnitRec) (e : Event) (u : TrigUnit) : UnitRec :=
  if unitFires c us e u then afterFiring (c.get u) (us.get u)
  else if armerFires c us e u then armed (c.get u) (us.get u)
  else if unitOffered c us e u && (us.get u).state == .counting && unitMatches (c.get u) e then
    countMatch (us.get u)
  else us.get u

/-- The action of firing unit `u` is handed to its owner, with the event it fired on (R161). -/
def handOver (a : TrigAction) (u : TrigUnit) (e : Event) (s : State) : State :=
  match a with
  | .notify =>
    let s := raise (.triggerT u) s
    if s.enabled (.triggerT u) then notify (.trigger u e) s else s
  | .freeze => freezeTrace s
  | .restart => triggerRestart u s
  | .powerOn => triggerPowerOn s
  | .shutdown => triggerShutdown s
  | .signal => s.setCnu { s.cnu with svcTimer := some Config.svcMs }
  | .filterLearn =>
    if s.afm.learn = .idle then
      s.setAfm { s.afm with learn := .waiting, readings := 0, sum := 0 }
    else s

/-- Steps 1 to 3 of R156 for firing unit `u`. -/
def completeFiring (a : TrigAction) (e : Event) (u : TrigUnit) (s : State) : State :=
  let r := s.tmx.units.get u
  let r := { r with fires := satInc 65535 r.fires }
  let s := s.setTmx { s.tmx with units := s.tmx.units.set u r }
  handOver a u e (post (event .trigger u.num r.fires) s)

/-- TMX takes one event (R150, R154 to R157): the unit states are settled first, then each firing unit
is completed in unit order. -/
def takeEvent (e : Event) (s : State) : State :=
  let c := s.settings.trigger
  let us := s.tmx.units
  let s := s.setTmx { s.tmx with units := PerSix.of (settleUnit c us e) }
  (Six.all.filter (unitFires c us e)).foldl (fun s u => completeFiring (c.get u).action e u s) s

/-- The chain of arm_by links from `u` comes to `target` within `fuel` links (R159). -/
def reaches (fuel : Nat) (c : PerSix TriggerSettings) (target u : TrigUnit) : Bool :=
  match fuel with
  | 0 => false
  | fuel + 1 =>
    match (c.get u).armBy with
    | none => false
    | some a => a == target || reaches fuel c target a

/-- The arm_by links lead from unit `u` back to it (R159). -/
def armingCycle (c : PerSix TriggerSettings) (u : TrigUnit) : Bool :=
  reaches 7 c u u

end Sys2Proof.Machine
end

