-- ==== Sys2Proof/Machine/Operands.lean ====
section
/-! DEFINITION. The settings groups on the link: the fields of a group in the order of its settings
table (R190), their checks and clamping (R15, R35, R36, R42, R75, R99, R100, R133, R134, R159, R171,
R180, R191), and the working values as fields. A decoder answers none for BAD_ARG: a value outside an
enumerated set, or a refused set of keys (R188, R191). -/

namespace Sys2Proof.Machine

/-! ### Fields -/

/-- A signed field limited to a range (R188). -/
def clampI (lo hi x : Int) : Int := max lo (min x hi)

/-- An unsigned field limited to a range (R188). -/
def clampN (lo hi : Nat) (x : Int) : Nat := (clampI lo hi x).toNat

/-- A temperature field (00_scope.md, Units). -/
def clampT (x : Int) : Int := clampI (-550) 1250 x

/-- yes is 1 and no is 0; any other value is refused (R190, R188). -/
def yesNo (x : Int) : Option Bool :=
  if x = 1 then some true else if x = 0 then some false else none

/-- yes is 1 and no is 0 (R190). -/
def ofBool (b : Bool) : Int := if b then 1 else 0

/-- An action of a ladder step, by its position in the list RESET, CYCLE (R190). -/
def stepAction? (x : Int) : Option StepAction :=
  if x = 0 then some .reset else if x = 1 then some .cycle else none

/-- The position of a ladder action (R190). -/
def StepAction.num : StepAction → Int
  | .reset => 0 | .cycle => 1

/-- early_policy, by its position in the list RESTART, COUNT (R190). -/
def earlyPolicy? (x : Int) : Option EarlyPolicy :=
  if x = 0 then some .restart else if x = 1 then some .count else none

/-- The position of an early policy (R190). -/
def EarlyPolicy.num : EarlyPolicy → Int
  | .restart => 0 | .count => 1

/-- An action of a trigger unit, by its position in its list (R190). -/
def trigAction? (x : Int) : Option TrigAction :=
  if x = 0 then some .notify else if x = 1 then some .freeze else if x = 2 then some .restart
  else if x = 3 then some .powerOn else if x = 4 then some .shutdown else if x = 5 then some .signal
  else if x = 6 then some .filterLearn else none

/-- The position of a trigger action (R190). -/
def TrigAction.num : TrigAction → Int
  | .notify => 0 | .freeze => 1 | .restart => 2 | .powerOn => 3 | .shutdown => 4 | .signal => 5
  | .filterLearn => 6

/-- arm_by: 0..5 names a unit, -1 means none, anything else is refused (R190, R191). -/
def armBy? (x : Int) : Option (Option TrigUnit) :=
  if x = -1 then some none
  else if 0 ≤ x then (Six.ofNum x.toNat).map some else none

/-- arm_by as a field (R190). -/
def ofArmBy : Option TrigUnit → Int
  | some u => u.num
  | none => -1

/-- A line rate written as the rate itself (R180). -/
def lineRate? (x : Int) : Option LineRate :=
  if x = 9600 then some .b9600 else if x = 19200 then some .b19200
  else if x = 57600 then some .b57600 else if x = 115200 then some .b115200 else none

/-! ### ZONE -/

/-- The clamping of R15, on a zone whose fields stand as written. -/
def clampZone (z : ZoneSettings) : ZoneSettings :=
  let z := { z with admitHigh := max z.admitHigh z.admitLow, floor := min z.floor 1230 }
  let z := { z with ceiling := max z.ceiling (z.floor + 20) }
  { z with crit := max z.crit z.ceiling }

/-- ZONE from its twelve fields (R14, R15). -/
def zoneOf : List Int → Option ZoneSettings
  | [it, wt, ht, k, al, ah, g, so, fl, ce, cr, lr] =>
    (yesNo g).map fun gating => clampZone
      { idleTarget := clampT it, warmTarget := clampT wt, holdTarget := clampT ht
        gain := clampN 1 255 k, admitLow := clampT al, admitHigh := clampT ah, gating := gating
        soak := clampN 0 600 so, floor := clampT fl, ceiling := clampT ce, crit := clampT cr
        leadRate := clampN 0 3600 lr }
  | _ => none

/-- ZONE as fields. -/
def ZoneSettings.fields (z : ZoneSettings) : List Int :=
  [z.idleTarget, z.warmTarget, z.holdTarget, z.gain, z.admitLow, z.admitHigh, ofBool z.gating, z.soak,
   z.floor, z.ceiling, z.crit, z.leadRate]

/-! ### HEATER, BUDGET, FAN -/

/-- HEATER from its six fields (R35). -/
def heaterOf : List Int → Option HeaterSettings
  | [en, p, r, fb, lo, hi] =>
    (yesNo en).map fun enabled =>
      { enabled := enabled, rating := clampN 1 150 p, rank := clampN 1 3 r, fallback := clampN 0 32 fb
        iMin := clampN 0 5000 lo, iMax := max (clampN 0 5000 hi) (clampN 0 5000 lo) }
  | _ => none

/-- HEATER as fields. -/
def HeaterSettings.fields (h : HeaterSettings) : List Int :=
  [ofBool h.enabled, h.rating, h.rank, h.fallback, h.iMin, h.iMax]

/-- BUDGET from its four fields (R36, R15). -/
def budgetOf : List Int → Option BudgetSettings
  | [b, hr, fr, sl] =>
    some ⟨clampN 10 400 b, clampN 0 200 hr, clampN 0 20 fr, clampN 100 300 sl⟩
  | _ => none

/-- BUDGET as fields. -/
def BudgetSettings.fields (b : BudgetSettings) : List Int :=
  [b.cabinetBudget, b.hostReserve, b.fanReserve, b.supplyLow]

/-- FAN from its five fields (R42). -/
def fanOf : List Int → Option FanSettings
  | [on, full, md, sr, cp] =>
    let fanOn := min (clampT on) 1240
    let full := clampT full
    some ⟨fanOn, if full ≤ fanOn then fanOn + 10 else full, clampN 20 100 md, clampN 100 3000 sr,
      clampN 5 50 cp⟩
  | _ => none

/-- FAN as fields. -/
def FanSettings.fields (f : FanSettings) : List Int :=
  [f.fanOn, f.fanFull, f.minDuty, f.stallRpm, f.clogPct]

/-! ### WATCHDOG, LADDER, HOST_POWER -/

/-- timeout: 0, or 100..600000 (R99 step 1). -/
def clampTimeout (x : Int) : Nat :=
  if x ≤ 0 then 0 else clampN 100 600000 x

/-- WATCHDOG from its seven fields (R99). -/
def watchdogOf : List Int → Option WatchdogSettings
  | [t, w, ep, ba, st, ra, ro] => do
    let early ← earlyPolicy? ep
    let action ← stepAction? ra
    let timeout := clampTimeout t
    some ⟨timeout, clampN 0 (timeout / 2) w, early, clampN 10 1800 ba, clampN 10 3600 st, action,
      clampN 1 600 ro⟩
  | _ => none

/-- WATCHDOG as fields. -/
def WatchdogSettings.fields (w : WatchdogSettings) : List Int :=
  [w.timeout, w.windowMin, w.earlyPolicy.num, w.bootAllowance, w.stableTime, w.requestedAction.num,
   w.requestedOffTime]

/-- LADDER from its thirteen fields (R100). -/
def ladderOf : List Int → Option LadderSettings
  | [n, a0, a1, a2, a3, o0, o1, o2, o3, t0, t1, t2, t3] => do
    let a0 ← stepAction? a0
    let a1 ← stepAction? a1
    let a2 ← stepAction? a2
    let a3 ← stepAction? a3
    let off (x : Int) : Nat := clampN 1 600 x
    let lim (x : Int) : Nat := clampN 1 7 x
    some ⟨clampN 1 4 n,
      ⟨⟨a0, off o0, lim t0⟩, ⟨a1, off o1, lim t1⟩, ⟨a2, off o2, lim t2⟩, ⟨a3, off o3, lim t3⟩⟩⟩
  | _ => none

/-- LADDER as fields (R190). -/
def LadderSettings.fields (l : LadderSettings) : List Int :=
  (l.stepCount : Int) :: (l.steps.list.map (·.action.num) ++ l.steps.list.map (fun s => (s.offTime : Int)) ++
    l.steps.list.map (fun s => (s.attempts : Int)))

/-- HOST_POWER from its ten fields (R75). -/
def hostPowerOf : List Int → Option HostPowerSettings
  | [pg, rp, sd, sg, wl, bs, lm, lr, as, ls] => do
    let auto ← yesNo as
    let lock ← yesNo ls
    some ⟨clampN 100 5000 pg, clampN 10 2000 rp, clampN 0 30 sd, clampN 5 600 sg, clampN 1 240 wl,
      clampN 0 3600 bs, clampN 0 14400 lm, clampN 0 1440 lr, auto, lock⟩
  | _ => none

/-- HOST_POWER as fields. -/
def HostPowerSettings.fields (h : HostPowerSettings) : List Int :=
  [h.powerGoodTimeout, h.resetPulse, h.stopDelay, h.stopGrace, h.warmLimit, h.blindSoak, h.leadMax,
   h.lockoutRetry, ofBool h.autoStart, ofBool h.lockAtStart]

/-! ### KEYPAD, KEY, CHORD -/

/-- stuck_time: 0, or 5..600 (R133 step 1). -/
def clampStuck (x : Int) : Nat :=
  if x ≤ 0 then 0 else clampN 5 600 x

/-- KEYPAD from its fourteen fields (R133). -/
def keypadOf : List Int → Option KeypadSettings
  | [kf, sp, tt, rt, pc, rc, ht, rp, st, cm, ff, mt, ch, rs] =>
    let touch := clampN 10 2000 tt
    some
      { keysFitted := clampN 1 20 kf, scanPeriod := clampN 10 50 sp, touchThr := touch
        releaseThr := min (clampN 1 1999 rt) (touch - 1), pressCount := clampN 1 8 pc
        releaseCount := clampN 1 8 rc, holdTime := clampN 300 5000 ht
        repeatPeriod := clampN 50 2000 rp, stuckTime := clampStuck st, condMargin := clampN 0 200 cm
        frostFloor := clampI (-550) 100 ff, maxTouch := clampN 1 4 mt
        coverHold := clampN 500 10000 ch, recalStep := clampN 10 500 rs }
  | _ => none

/-- KEYPAD as fields. -/
def KeypadSettings.fields (k : KeypadSettings) : List Int :=
  [k.keysFitted, k.scanPeriod, k.touchThr, k.releaseThr, k.pressCount, k.releaseCount, k.holdTime,
   k.repeatPeriod, k.stuckTime, k.condMargin, k.frostFloor, k.maxTouch, k.coverHold, k.recalStep]

/-- KEY from its one field (R134). -/
def keyOf : List Int → Option Bool
  | [r] => yesNo r
  | _ => none

/-- The used places of a packed key set: none where a place is neither a key nor 0xFF, or a used place
follows an unused one (R190, R191). -/
def keyPlaces : List Byte → Option (List Nat)
  | [] => some []
  | b :: rest =>
    if b = 0xFF then (if rest.all (· == 0xFF) then some [] else none)
    else if b.toNat < Config.keyCount then (keyPlaces rest).map (b.toNat :: ·)
    else none

/-- A key set: empty, or two to four distinct keys (R134). -/
def keySet? (places : List Byte) : Option (List Nat) :=
  match keyPlaces places with
  | some ks => if ks.length ≠ 1 ∧ ks.Nodup then some ks else none
  | none => none

/-- The packed field of a key set (R190). -/
def packKeys (ks : List Nat) : Int :=
  match (ks.map (BitVec.ofNat 8 ·)) ++ List.replicate 4 (0xFF : Byte) with
  | b3 :: b2 :: b1 :: b0 :: _ => (word32 b3 b2 b1 b0).toInt
  | _ => -1

/-- CHORD from its two fields (R134). -/
def chordOf : List Int → Option ChordSettings
  | [ks, h] =>
    (keySet? (bytes32 (BitVec.ofInt 32 ks))).map fun set => ⟨set, clampN 500 20000 h⟩
  | _ => none

/-- CHORD as fields. -/
def ChordSettings.fields (c : ChordSettings) : List Int := [packKeys c.keys, c.hold]

/-! ### TRIGGER -/

/-- TRIGGER from its eleven fields, but for the tests that need the other units (R159, R191). -/
def triggerOf : List Int → Option TriggerSettings
  | [cl, iv, im, lo, hi, ps, ab, aw, ac, re, en] => do
    let action ← trigAction? ac
    let rearm ← yesNo re
    let enabled ← yesNo en
    let armBy ← armBy? ab
    if 0 ≤ cl ∧ cl ≤ 16 then
      some
        { cls := cl.toNat, indexValue := BitVec.ofNat 8 (clampN 0 255 iv)
          indexMask := BitVec.ofNat 8 (clampN 0 255 im), argLo := clampI (-32768) 65535 lo
          argHi := clampI (-32768) 65535 hi, preset := clampN 0 255 ps, armBy := armBy
          armWindow := clampN 0 60000 aw, action := action, rearm := rearm, enabled := enabled }
    else none
  | _ => none

/-- TRIGGER as fields. -/
def TriggerSettings.fields (t : TriggerSettings) : List Int :=
  [t.cls, t.indexValue.toNat, t.indexMask.toNat, t.argLo, t.argHi, t.preset, ofArmBy t.armBy, t.armWindow,
   t.action.num, ofBool t.rearm, ofBool t.enabled]

/-! ### REPORT, LINK -/

/-- REPORT from its one field: enables for ids 30 and 31 are taken as clear (R171). -/
def reportOf : List Int → Option Word32
  | [x] => some (BitVec.ofInt 32 x &&& 0x3FFFFFFF#32)
  | _ => none

/-- LINK from its one field (R180). -/
def linkOf : List Int → Option LineRate
  | [x] => lineRate? x
  | _ => none

/-! ### A group by its number (R190) -/

/-- The working values of the instance, or none where the group or the index does not exist
(R190, R191). -/
def Settings.group (c : Settings) (g i : Nat) : Option (List Int) :=
  let single (x : List Int) : Option (List Int) := if i = 0 then some x else none
  match g with
  | 1 => (Four.ofNum i).map fun z => (c.zone.get z).fields
  | 2 => (Three.ofNum i).map fun h => (c.heater.get h).fields
  | 3 => single c.budget.fields
  | 4 => single c.fan.fields
  | 5 => single c.watchdog.fields
  | 6 => single c.ladder.fields
  | 7 => single c.hostPower.fields
  | 8 => single c.keypad.fields
  | 9 => if i < Config.keyCount then some [ofBool (c.keyRepeat.getD i false)] else none
  | 10 => (Six.ofNum i).map fun x => (c.chord.get x).fields
  | 11 => (Six.ofNum i).map fun u => (c.trigger.get u).fields
  | 12 => single [c.report.toInt]
  | 13 => single [c.link.baud]
  | _ => none

end Sys2Proof.Machine
end

