-- ==== Sys2Proof/Machine/Lnk.lean ====
section
/-! DEFINITION. LNK (11): the receive assembler, the holding slots, the dispatch of a held request, and
its answer. -/

namespace Sys2Proof.Machine

/-! ### The receive assembler (R182, R184) -/

/-- Holding slots in use (R184). -/
def Lnk.used (l : Lnk) : Nat := l.held.length + (if l.sending.isSome then 1 else 0)

/-- A frame that passes its check: held in an EMPTY slot, or dropped as an overrun (R184). -/
def acceptFrame (body : List Byte) (l : Lnk) : Lnk :=
  match body with
  | kind :: tag :: payload =>
    if l.used < Config.slotCount then { l with held := l.held ++ [⟨kind, tag, payload⟩] }
    else { l with overrunCount := satInc 65535 l.overrunCount }
  | _ => l

/-- A complete frame is judged by its CHECK (R181, R182): `len` bytes of BODY, then the two of
CHECK. -/
def judgeFrame (len : Nat) (bytes : List Byte) (l : Lnk) : Lnk :=
  let l := { l with rx := .hunting }
  if bytes16 (check (bytes.take len)) = bytes.drop len then acceptFrame (bytes.take len) l
  else { l with checkCount := satInc 65535 l.checkCount }

/-- One byte at the receive assembler, by the table of R182. A byte with its stop bit low inside a
frame abandons the frame. DESIGN CHOICE: a LEN byte with its stop bit low that is out of 2..64 too counts a line
error alone, and is not examined as a SYNC (log entry 35). -/
def takeByte (l : Lnk) (b : RxByte) : Lnk :=
  match l.rx with
  | .hunting => if b.stopHigh ∧ b.val = Config.sync then { l with rx := .lenExpected } else l
  | .lenExpected =>
    if !b.stopHigh then { l with rx := .hunting, lineCount := satInc 65535 l.lineCount }
    else if 2 ≤ b.val.toNat ∧ b.val.toNat ≤ 64 then { l with rx := .inBody b.val.toNat [] }
    else
      { l with
        rx := if b.val = Config.sync then .lenExpected else .hunting
        lengthCount := satInc 65535 l.lengthCount }
  | .inBody len got =>
    if !b.stopHigh then { l with rx := .hunting, lineCount := satInc 65535 l.lineCount }
    else if got.length + 1 < len + 2 then { l with rx := .inBody len (got ++ [b.val]) }
    else judgeFrame len (got ++ [b.val]) l

/-- The bytes of a burst, one after the other (R182). -/
def takeBytes (bs : List RxByte) (l : Lnk) : Lnk :=
  bs.foldl takeByte l

/-! ### Answers (R185, R187) -/

/-- The statuses of R187. -/
inductive Status where
  | ok | clamped | accepted | busy | refused | locked | badArg | badKind | frozen | early
  deriving DecidableEq, Repr

/-- The code of a status (R187). -/
def Status.code : Status → Byte
  | .ok => 0x00 | .clamped => 0x01 | .accepted => 0x02 | .busy => 0x10 | .refused => 0x11
  | .locked => 0x12 | .badArg => 0x13 | .badKind => 0x14 | .frozen => 0x15 | .early => 0x16

/-- The KIND of a reply (R185). -/
def replyKind (kind : Byte) : Byte :=
  if kind.toNat < 0x80 then kind + 0x80 else 0xFF

/-- The BODY of a reply: KIND, the request's TAG, STATUS, payload (R185). -/
def replyBody (r : Request) (st : Status) (payload : List Byte) : List Byte :=
  replyKind r.kind :: r.tag :: st.code :: payload

/-- The reply is handed to LNK: its slot becomes SENDING (R185), with what waits for its last byte. -/
def answerThen (after : AfterReply) (r : Request) (st : Status) (payload : List Byte) (s : State) :
    State :=
  s.setLnk { s.lnk with sending := some ⟨replyBody r st payload, after⟩ }

/-- The reply is handed to LNK, and nothing waits for its end. -/
def answer (r : Request) (st : Status) (payload : List Byte) (s : State) : State :=
  answerThen .nothing r st payload s

/-! ### Dispatch (R185) -/

/-- Request `r` is the next to be dispatched: no slot is SENDING, and it is the one that arrived
first (R185). -/
def State.nextRequest (s : State) (r : Request) : Bool :=
  s.lnk.sending.isNone && s.lnk.held.head? == some r

/-- The request leaves the HELD ones. -/
def takeHeld (s : State) : State :=
  s.setLnk { s.lnk with held := s.lnk.held.drop 1 }

/-- Request `r` is dispatched and handled by its owner, if it is the next one; a command that names
another request changes nothing (R185; log entry 4). -/
def dispatch (r : Request) (owner : State → State) (s : State) : State :=
  if s.nextRequest r then owner (takeHeld s) else s

/-- LNK's own test of a payload length: BAD_ARG when it is not one the catalogue allows (R185,
R189). -/
def ofLength (n : Nat) (r : Request) (owner : State → State) (s : State) : State :=
  if r.payload.length = n then owner s else answer r .badArg [] s

end Sys2Proof.Machine
end

