-- ==== Sys2Proof/Machine/Report.lean ====
section
/-! DEFINITION. The layouts of what the part reports: the status pages (R192), and the records of
R193. -/

namespace Sys2Proof.Machine

/-! ### Page 0 (R76, R101, R192) -/

/-- The time left to boot timeout or to expiry, in ms (R101). -/
def Weu.timeLeft (w : Weu) : Option Nat :=
  match w.phase with
  | .off => none
  | .boot => w.bootTimer.map (w.bootLimit - ·)
  | .windowed => w.kickTimer.map (w.timeoutInForce - ·)

/-- The stable timer on page 0 (R192). -/
def StableTimer.onPage : StableTimer → List Byte
  | .none => u16 0xFFFF
  | .done => u16 0xFFFE
  | .counting sec _ => u16 sec

/-- Page 0. -/
def page0 (s : State) : List Byte :=
  let h := s.hps
  let w := s.weu
  [0, 0] ++ u8 h.state.num ++ u8 h.prev.num ++ u8 h.stage.num ++ u32? h.stageTimer ++ u16 h.qualClock ++
  flagByte [h.warmTimeout, h.stopRequest.isSome, h.wakeOnTrigger, h.preheat, h.pendingOn, s.hostPwrEn,
    s.hostRstN, s.powerGood] ++
  u8 h.stopCause.num ++ u8? (h.stopZone.map Four.num) ++ u8 h.destination.host.num ++
  u32? (h.wakeAt.map (secondsTo · s.time.sec)) ++ u16 h.lead ++ u32? h.retryTimer ++
  u8 w.phase.num ++ u32? w.timeLeft ++ u32 w.windowInForce ++ u8 w.earlyCount ++
  u8 w.step ++ u8 w.attempts ++ u8 s.settings.ladder.stepCount ++ w.stable.onPage ++
  u8 w.records.length ++ u8? (w.records.getLast?.map (·.outcome.num)) ++
  flagByte [w.reportDue, w.policyLock]

/-! ### Page 1 (R34, R49, R192) -/

/-- A two-bit code within a byte of flags, low bit first. -/
def twoBits (n : Nat) : List Bool := [n % 2 == 1, n / 2 == 1]

/-- A heater on page 1: its target is absent when its demand did not come from it (R34). -/
def heaterOnPage (h : HeaterRec) (k : FaultKind) : List Byte :=
  temp? (if h.fromError then h.target else none) ++ u8 h.dem ++ u8 h.g ++ u16 h.lastCurrent ++
  flagByte (h.output :: twoBits k.num)

/-- A zone on page 1. -/
def zoneOnPage (z : ZoneRec) : List Byte :=
  temp? z.temp ++ flagByte ((!z.valid) :: twoBits z.alarm.num) ++ u16 z.inWindow

/-- Page 1. -/
def page1 (s : State) : List Byte :=
  let p := s.hsch
  let a := s.afm
  [1, 0] ++
  flagByte [p.hostReserve, p.fanReserve, p.shed, a.running, a.stalled, a.clogged, s.zmon.supplyLow] ++
  u16 p.avail ++ u16 p.energy ++ u16 p.unspent ++
  (Three.all.flatMap fun i => heaterOnPage (p.heaters.get i) (s.cnu.kinds.get i)) ++
  u8 a.duty ++ u8 a.reason.num ++ u16 a.speed ++ u16? a.reference ++ u8 a.learn.num ++ u8 a.readings ++
  (Four.all.flatMap fun z => zoneOnPage (s.zmon.zones.get z)) ++
  u16 s.zmon.supply

/-! ### Page 2 (R132, R146, R164, R192) -/

/-- A set of keys in 3 bytes, bit n for Kn (R190). -/
def keySetBytes (ks : List Nat) : List Byte :=
  u24 ((ks.map fun k => 2 ^ k).sum)

/-- The time left on a running cover hold, if one runs (R127). -/
def coverLeft (s : State) : Option Nat :=
  s.ksu.coverFall.map fun t => s.settings.keypad.coverHold - elapsed s.time.ms t

/-- The time a chord has been held so far, 0 when it is not timing (R192). -/
def chordHeld (now : Word32) (c : ChordRec) : Nat :=
  match c.start with
  | some t => min 65535 (elapsed now t)
  | none => 0

/-- Page 2, part 0. -/
def page2Keys (s : State) : List Byte :=
  let k := s.ksu
  let q := s.keq
  let l := s.lnk
  [2, 0] ++ flagByte [k.condensation, k.frost, k.cover, k.suppressed] ++ u16? (coverLeft s) ++
  temp? k.recalRef ++ u8 ((k.keys.filter fun r => r.state == .quarantined).length) ++
  flagByte (k.chords.list.map (·.spent)) ++
  (k.chords.list.flatMap fun c => u16 (chordHeld s.time.ms c)) ++
  u8 q.queue.length ++ u8 q.free ++ u8 q.openKeys.length ++ keySetBytes q.openKeys ++ u8 q.lost ++
  u8 l.rate.num ++ u16 l.gapCount ++ u16 l.lengthCount ++ u16 l.checkCount ++ u16 l.lineCount ++
  u16 l.overrunCount ++ u16 l.breakCount

/-- A trigger unit on page 2 (R192): bit 7 enabled, bits 2-0 its state. -/
def unitOnPage (c : TriggerSettings) (r : UnitRec) : List Byte :=
  u8 (r.state.num + (if c.enabled then 128 else 0)) ++ u8 r.count ++ u16 r.fires ++ u16? r.window

/-- Page 2, part 1. -/
def page2Units (s : State) : List Byte :=
  [2, 1] ++ u8 s.tmx.inbox.length ++
  (Six.all.flatMap fun u => unitOnPage (s.settings.trigger.get u) (s.tmx.units.get u))

/-- Key `k` on page 2: a key at or beyond keys_fitted shows IDLE, raw 0, baseline absent, delta 0
(R192). -/
def keyOnPage (s : State) (k : Nat) : List Byte :=
  let r := if k < s.settings.keypad.keysFitted then s.ksu.key k else .initial
  u8 r.state.num ++ u16 r.raw ++ u16? r.baseline ++ i16 r.delta

/-- Page 2, parts 2 to 6: the keys 4 × (part − 2) to 4 × (part − 2) + 3. -/
def page2Pads (part : Nat) (s : State) : List Byte :=
  let k := 4 * (part - 2)
  u8 2 ++ u8 part ++ keyOnPage s k ++ keyOnPage s (k + 1) ++ keyOnPage s (k + 2) ++ keyOnPage s (k + 3)

/-- A page and part, or none for BAD_ARG (R192). -/
def statusPage (page part : Nat) (s : State) : Option (List Byte) :=
  if page = 0 then (if part = 0 then some (page0 s) else none)
  else if page = 1 then (if part = 0 then some (page1 s) else none)
  else if page = 2 then
    if part = 0 then some (page2Keys s)
    else if part = 1 then some (page2Units s)
    else if part ≤ 6 then some (page2Pads part s)
    else none
  else none

/-! ### Records (R193) -/

/-- A key record in 5 bytes. -/
def KeyEvent.bytes (r : KeyEvent) : List Byte :=
  let kind : Nat × Nat :=
    match r.kind with
    | .press => (0, 0)
    | .hold n => (1, n)
    | .release sup stuck => (2 + (if sup then 64 else 0) + (if stuck then 128 else 0), 0)
  u8 r.key ++ u8 kind.1 ++ bytes16 r.time ++ u8 kind.2

/-- The kind and the fields of a notice. -/
def NoticeBody.fields : NoticeBody → Nat × List Byte
  | .condition c => (0, u8 c.id)
  | .trigger u e => (1, u8 u.num ++ u8 e.cls.num ++ [e.index] ++ i32 e.arg)
  | .shutdownRequest cause zone grace => (2, u8 cause.num ++ u8? (zone.map Four.num) ++ u16 grace)
  | .operationDone op result value => (3, u8 op.num ++ u8 result.num ++ u16? value)
  | .restartReport reason step action => (4, u8 reason.num ++ u8 step ++ u8 action.num)

/-- A notice in 13 bytes; the bytes after its kind's fields are 0. -/
def Notice.bytes (n : Notice) : List Byte :=
  let f := n.body.fields
  u8 f.1 ++ bytes32 n.time ++ (f.2 ++ List.replicate 8 0).take 8

/-- The header of a restart record: 25 bytes with the index, the part and the length of the list. -/
def RestartRecord.header (index listed : Nat) (r : RestartRecord) : List Byte :=
  u8 index ++ u8 0 ++ u8 listed ++ u8 r.reason.num ++ u8? (r.trigUnit.map Six.num) ++ u8 r.step ++
  u8 r.attempt ++ u8 r.action.num ++ u16? r.offTime ++ bytes32 r.time ++ temp? r.board ++ temp? r.front ++
  u8 r.outcome.num ++ u8 r.trace.length ++ u8 (if r.frozenAt.isSome then 1 else 0) ++
  bytes32 (r.frozenAt.getD 0)

/-- A trace entry of a restart record, in 7 bytes. -/
def TraceEntry.bytes (e : TraceEntry) : List Byte :=
  bytes16 e.code ++ bytes32 e.time ++ u8 e.count

/-- Page `page` of a trace: its oldest eight entries, or the entries 9 to 16 (R97, R111). -/
def tracePage (page : Nat) (ring : List TraceEntry) : List TraceEntry :=
  if page = 0 then ring.take 8 else ring.drop 8

/-- Part 1 or 2 of a restart record (R97). -/
def RestartRecord.tracePart (index part : Nat) (r : RestartRecord) : List Byte :=
  u8 index ++ u8 part ++ (tracePage (part - 1) r.trace).flatMap TraceEntry.bytes

/-- An entry of a READ_TRACE page, in 6 bytes: its age is counted back from the page's base. -/
def agedEntry (base : Word32) (e : TraceEntry) : List Byte :=
  bytes16 e.code ++ u8 e.count ++ u24 (min 16777215 (elapsed base e.time))

/-- A READ_TRACE page (R111, R193). -/
def readTracePage (page : Nat) (c : Cpt) : List Byte :=
  let es := tracePage page c.ring
  let base : Word32 := (es.getLast?.map (·.time)).getD 0
  u8 (c.ring.length + (if c.frozen then 128 else 0)) ++ bytes16 c.appends ++
  bytes32 (if c.frozen then c.frozenAt.getD 0 else 0) ++ bytes32 base ++ es.flatMap (agedEntry base)

/-- The heater kinds byte (R189). -/
def kindsByte (k : PerThree FaultKind) : List Byte :=
  u8 (k.v0.num + 4 * k.v1.num + 16 * k.v2.num)

/-- The state of a trace, in the reply to THAW_TRACE (R189). -/
def Cpt.stateNum (c : Cpt) : Nat := if c.frozen then 1 else 0

end Sys2Proof.Machine
end

