-- ==== Sys2Proof/Machine/Groups.lean ====
section
/-! DEFINITION. Settings writes: what the owner of each group does with a write it takes (R14, R20, R42,
R75, R99, R100, R133, R134, R159, R160, R171, R180), the answer to WRITE_SETTINGS (R188, R191), and the
reload of every group (R198). -/

namespace Sys2Proof.Machine

/-! ### What the owner does -/

/-- ZONE(z) is taken; a changed admission window restarts the in-window timer (R7, R14). -/
def takeZone (z : Zone) (c : ZoneSettings) (s : State) : State :=
  let old := s.settings.zone.get z
  let s := s.setSettings { s.settings with zone := s.settings.zone.set z c }
  if old.admitLow = c.admitLow ∧ old.admitHigh = c.admitHigh then s
  else
    let r := s.zmon.zones.get z
    s.setZmon { s.zmon with zones := s.zmon.zones.set z { r with inWindow := 0 } }

/-- HEATER(h) is taken; HSCH copies it at the next boundary (R20, R35). -/
def takeHeater (h : Heater) (c : HeaterSettings) (s : State) : State :=
  s.setSettings { s.settings with heater := s.settings.heater.set h c }

/-- BUDGET is taken (R36). -/
def takeBudget (c : BudgetSettings) (s : State) : State :=
  s.setSettings { s.settings with budget := c }

/-- FAN is taken; a learn in progress is aborted (R42, R48). -/
def takeFan (c : FanSettings) (s : State) : State :=
  abortLearn (s.setSettings { s.settings with fan := c })

/-- WATCHDOG is taken; it acts at the next starts of its timers (R99). -/
def takeWatchdog (c : WatchdogSettings) (s : State) : State :=
  s.setSettings { s.settings with watchdog := c }

/-- The ladder position moved onto a new ladder (R100). -/
def adjustPosition (l : LadderSettings) (step attempts : Nat) : Nat × Nat :=
  if l.stepCount ≤ step then (l.stepCount - 1, (l.step (l.stepCount - 1)).attempts)
  else if (l.step step).attempts < attempts then (step, (l.step step).attempts)
  else (step, attempts)

/-- LADDER is taken, and the position adjusted (R100). -/
def takeLadder (c : LadderSettings) (s : State) : State :=
  let p := adjustPosition c s.weu.step s.weu.attempts
  (s.setSettings { s.settings with ladder := c }).setWeu { s.weu with step := p.1, attempts := p.2 }

/-- HOST_POWER is taken (R75). -/
def takeHostPower (c : HostPowerSettings) (s : State) : State :=
  s.setSettings { s.settings with hostPower := c }

/-- KEYPAD is taken; the keys at or beyond keys_fitted are handled at once (R133). DEDUCED: a KEY_RELEASE
that finds the inbox full latches EVENTS_LOST (R149) in a reload too, although R198 says that a reload
changes no latch (log entry 33). -/
def takeKeypad (c : KeypadSettings) (s : State) : State :=
  let s := s.setSettings { s.settings with keypad := c }
  let p := unfitKeys c.keysFitted s.time.ms s.ksu
  emitAll p.out (s.setKsu p.ksu)

/-- KEY(k) is taken (R134). -/
def takeKey (k : Nat) (rep : Bool) (s : State) : State :=
  s.setSettings { s.settings with keyRepeat := s.settings.keyRepeat.set k rep }

/-- CHORD(i) is taken, and the chord restarted (R134). -/
def takeChord (i : Chord) (c : ChordSettings) (s : State) : State :=
  (s.setSettings { s.settings with chord := s.settings.chord.set i c }).setKsu
    { s.ksu with chords := s.ksu.chords.set i .initial }

/-- TRIGGER(u) is taken: the unit takes its initial state with fire count 0 (R159). -/
def takeTrigger (u : TrigUnit) (c : TriggerSettings) (s : State) : State :=
  (s.setSettings { s.settings with trigger := s.settings.trigger.set u c }).setTmx
    { s.tmx with units := s.tmx.units.set u (.initial c 0) }

/-- The whole TRIGGER group is taken as one write of all six units (R160). -/
def takeTriggers (c : PerSix TriggerSettings) (s : State) : State :=
  (s.setSettings { s.settings with trigger := c }).setTmx
    { s.tmx with units := PerSix.of fun u => .initial (c.get u) 0 }

/-- REPORT is taken (R171). -/
def takeReport (c : Word32) (s : State) : State :=
  s.setSettings { s.settings with report := c }

/-- LINK is taken; the rate on the line changes once the reply has been sent (R180). -/
def takeLink (c : LineRate) (s : State) : State :=
  s.setSettings { s.settings with link := c }

/-! ### A write from its index and fields -/

/-- ZONE from index and fields; none is BAD_ARG. -/
def writeZoneFields (i : Nat) (fs : List Int) (s : State) : Option State :=
  match Four.ofNum i, zoneOf fs with
  | some z, some c => some (takeZone z c s)
  | _, _ => none

/-- HEATER from index and fields; none is BAD_ARG. -/
def writeHeaterFields (i : Nat) (fs : List Int) (s : State) : Option State :=
  match Three.ofNum i, heaterOf fs with
  | some h, some c => some (takeHeater h c s)
  | _, _ => none

/-- BUDGET from its fields. -/
def writeBudgetFields (_ : Nat) (fs : List Int) (s : State) : Option State :=
  (budgetOf fs).map (takeBudget · s)

/-- FAN from its fields. -/
def writeFanFields (_ : Nat) (fs : List Int) (s : State) : Option State :=
  (fanOf fs).map (takeFan · s)

/-- WATCHDOG from its fields; none is BAD_ARG. -/
def writeWatchdogFields (_ : Nat) (fs : List Int) (s : State) : Option State :=
  (watchdogOf fs).map (takeWatchdog · s)

/-- LADDER from its fields; none is BAD_ARG. -/
def writeLadderFields (_ : Nat) (fs : List Int) (s : State) : Option State :=
  (ladderOf fs).map (takeLadder · s)

/-- HOST_POWER from its fields; none is BAD_ARG. -/
def writeHostPowerFields (_ : Nat) (fs : List Int) (s : State) : Option State :=
  (hostPowerOf fs).map (takeHostPower · s)

/-- KEYPAD from its fields. -/
def writeKeypadFields (_ : Nat) (fs : List Int) (s : State) : Option State :=
  (keypadOf fs).map (takeKeypad · s)

/-- KEY from index and field; none is BAD_ARG. -/
def writeKeyFields (i : Nat) (fs : List Int) (s : State) : Option State :=
  (keyOf fs).map (takeKey i · s)

/-- CHORD from index and fields; none is BAD_ARG (R134). -/
def writeChordFields (i : Nat) (fs : List Int) (s : State) : Option State :=
  match Six.ofNum i, chordOf fs with
  | some x, some c => some (takeChord x c s)
  | _, _ => none

/-- TRIGGER from index and fields; none is BAD_ARG, which an arming cycle gets too (R159). -/
def writeTriggerFields (i : Nat) (fs : List Int) (s : State) : Option State :=
  match Six.ofNum i, triggerOf fs with
  | some u, some c =>
    if armingCycle (s.settings.trigger.set u c) u then none else some (takeTrigger u c s)
  | _, _ => none

/-- REPORT from its field. -/
def writeReportFields (_ : Nat) (fs : List Int) (s : State) : Option State :=
  (reportOf fs).map (takeReport · s)

/-- LINK from its field; none is BAD_ARG. -/
def writeLinkFields (_ : Nat) (fs : List Int) (s : State) : Option State :=
  (linkOf fs).map (takeLink · s)

/-! ### WRITE_SETTINGS and READ_SETTINGS (R188, R191) -/

/-- The policy groups WATCHDOG, LADDER and HOST_POWER (R98). -/
def policyGroup (g : Nat) : Bool := g == 5 || g == 6 || g == 7

/-- The fields of a group in 4 bytes each (R190). -/
def fieldBytes (fs : List Int) : List Byte := fs.flatMap i32

/-- A WRITE_SETTINGS whose group is `g`, in the order of R188: length, group and index, lock, values.
`write` is the group's owner; `after` waits for the reply's end. -/
def writeGroup (g : Nat) (write : Nat → List Int → State → Option State) (after : AfterReply)
    (r : Request) (s : State) : State :=
  match r.payload with
  | gb :: ib :: rest =>
    match s.settings.group g ib.toNat with
    | some old =>
      if gb.toNat ≠ g ∨ rest.length ≠ 4 * old.length then answer r .badArg [] s
      else if policyGroup g && s.weu.policyLock then answer r .locked [] s
      else
        match write ib.toNat (fieldsOf rest) s with
        | none => answer r .badArg [] s
        | some s' =>
          let eff := (s'.settings.group g ib.toNat).getD []
          answerThen after r (if eff = fieldsOf rest then .ok else .clamped)
            (gb :: ib :: fieldBytes eff) s'
    | none => answer r .badArg [] s
  | _ => answer r .badArg [] s

/-- READ_SETTINGS (R191). -/
def readGroup (r : Request) (s : State) : State :=
  match r.payload with
  | [gb, ib] =>
    match s.settings.group gb.toNat ib.toNat with
    | some fs => answer r .ok (gb :: ib :: fieldBytes fs) s
    | none => answer r .badArg [] s
  | _ => answer r .badArg [] s

/-! ### Reload of every group (R198) -/

/-- Every KEY is reloaded. -/
def reloadKeys (c : List Bool) (s : State) : State :=
  (List.range Config.keyCount).foldl (fun s k => takeKey k (c.getD k false) s) s

/-- Every group is reloaded from `src` in group order, the policy groups passed over while the lock is
set; the values are in range, so none is clamped (R198). -/
def reload (src : Settings) (s : State) : State :=
  let locked := s.weu.policyLock
  let s := Four.all.foldl (fun s z => takeZone z (src.zone.get z) s) s
  let s := Three.all.foldl (fun s h => takeHeater h (src.heater.get h) s) s
  let s := takeFan src.fan (takeBudget src.budget s)
  let s := if locked then s
    else takeHostPower src.hostPower (takeLadder src.ladder (takeWatchdog src.watchdog s))
  let s := reloadKeys src.keyRepeat (takeKeypad src.keypad s)
  let s := Six.all.foldl (fun s i => takeChord i (src.chord.get i) s) s
  takeLink src.link (takeReport src.report (takeTriggers src.trigger s))

end Sys2Proof.Machine
end

