-- ==== Sys2Proof/Machine/Reset.lean ====
section
/-! DEFINITION. The three resets: power-on reset (R199), and the beginning and the end of a supervisor
reset (R200, R201). -/

namespace Sys2Proof.Machine

/-! ### The image (R196) -/

/-- The thirteen groups, each with the number of its instances, in group order (R190, R196). -/
def groupInstances : List (Nat × Nat) :=
  [(1, 4), (2, 3), (3, 1), (4, 1), (5, 1), (6, 1), (7, 1), (8, 1), (9, 20), (10, 6), (11, 6), (12, 1), (13, 1)]

/-- The content of an image as bytes. DESIGN CHOICE: R196 gives it no layout; it is every instance of every
group in group order, its fields as READ_SETTINGS sends them (log entry 18). -/
def Settings.bytes (c : Settings) : List Byte :=
  groupInstances.flatMap fun g =>
    (List.range g.2).flatMap fun i => fieldBytes ((c.group g.1 i).getD [])

/-- The CRC-16 over the content of an image, computed as a frame's CHECK (R196, R181). -/
def imageCheck (c : Settings) : Word16 := crc16 c.bytes

/-- The image is VALID: the check it holds is the one of its content (R196). -/
def Image.valid (i : Image) : Bool := i.check == imageCheck i.content

/-- What PST finds when it reads the image: its content, or none when it is INVALID (R196). -/
def Pst.content? (p : Pst) : Option Settings :=
  match p.image with
  | some i => if i.valid then some i.content else none
  | none => none

/-- The settings a reset loads: the image, or the factory defaults when it is INVALID (R199, R201). -/
def Pst.source (p : Pst) : Settings := p.content?.getD .factory

/-! ### Power-on reset -/

/-- Steps 2 to 5 of R199 after every piece of state has its value: PROFILE_DEFAULTED when the image is
INVALID, lock_at_start, auto_start. DESIGN CHOICE: HPS enters QUALIFYING within the reset, so that the first
boundary reads QUALIFYING, where R37 lets it read OFF or QUALIFYING (log entry 28), and HOST_STATE(1, 0) joins
the inbox before any event of the first round or scan, where R165 and R149 leave the order open (log entry
36). -/
def startUp (s : State) : State :=
  let s := if s.pst.content?.isNone then raise .profileDefaulted s else s
  let s := if s.settings.hostPower.lockAtStart then s.setWeu { s.weu with policyLock := true } else s
  if s.settings.hostPower.autoStart then enterQualifying s else s

/-- Power-on reset (R199). The storage keeps what it holds; a store cut off leaves the image INVALID,
as STORE_PROFILE made it (R197). -/
def powerOn (s : State) : State :=
  startUp ((State.atPowerOn s.pst.source s.pst.image s.pst.cell s.powerGood).setPending s.pending)

/-! ### Supervisor reset -/

/-- The settings after a supervisor reset: those of the retained owners stay (R201). -/
def keptPolicy (src old : Settings) : Settings :=
  { src with watchdog := old.watchdog, ladder := old.ladder, hostPower := old.hostPower }

/-- The live causes that a supervisor reset keeps: WARM_TIMEOUT and LOCKOUT (R179). -/
def keptLive : Word32 := Cond.bit .warmTimeout ||| Cond.bit .lockout

/-- CNU at the beginning of a supervisor reset: latches and heater fault kinds are retained (R179,
R200). -/
def Cnu.atSupervisorReset (c : Cnu) : Cnu :=
  { c with live := c.live &&& keptLive, notices := [], overflow := false, svcTimer := none }

/-- A supervisor reset begins (R200, R201): the reinitialized blocks take their values, HPS, WEU and
CPT go on, a store in progress is abandoned with the image INVALID. -/
def beginReset (s : State) : State :=
  let c := keptPolicy s.pst.source s.settings
  let s := { s with
    settings := c, zmon := .initial, hsch := .initial c, afm := .initial s.pst.cell, ksu := .initial
    keq := .initial s.keq.seen, tmx := .initial c, cnu := s.cnu.atSupervisorReset
    lnk := .initial c s.lnk.lastReset, pst := { s.pst with storing := none }, hold := true }
  if s.pst.content?.isNone then raise .profileDefaulted s else s

/-- A supervisor reset ends (R200, R179, R148, R194): KEQ and CNU take the host state from HPS, the
last reset cause is set, and SUPERVISOR_RESET is latched. -/
def endReset (cause : ResetCause) (s : State) : State :=
  let s := { s with
    hold := false
    keq := { s.keq with seen := s.hps.state }
    cnu := { s.cnu with seen := s.hps.state }
    lnk := { s.lnk with lastReset := cause } }
  raise .supervisorReset s

end Sys2Proof.Machine
end

