-- ==== Sys2Proof/Machine/Zones.lean ====
section
/-! DEFINITION. ZMON (01): what one sample round makes of the zone records and the supply record. -/

namespace Sys2Proof.Machine

/-- A converted raw sample is valid (R3). -/
def sampleValid (x : Int) : Bool := -550 ≤ x && x ≤ 1250

/-- The validity judgement and its runs (R4). -/
def judgeValidity (ok : Bool) (z : ZoneRec) : ZoneRec :=
  if z.valid then
    if ok then { z with invalidRun := 0 }
    else if z.invalidRun + 1 ≥ 3 then { z with valid := false, invalidRun := 0, validRun := 0 }
    else { z with invalidRun := z.invalidRun + 1 }
  else
    if ok then
      if z.validRun + 1 ≥ 10 then { z with valid := true, invalidRun := 0, validRun := 0 }
      else { z with validRun := z.validRun + 1 }
    else { z with validRun := 0 }

/-- The floor of the mean of the ring's samples (R5). -/
def ringMean (ring : List Int) : Option Int :=
  if ring.isEmpty then none else some (Int.fdiv ring.sum ring.length)

/-- The sample joins the ring, from which the oldest of five is removed (R5). -/
def ringAppend (x : Int) (ring : List Int) : List Int :=
  let r := ring ++ [x]
  if r.length ≤ 4 then r else r.drop 1

/-- The sample ring and the filtered temperature (R5); `was` is the validity before R4. -/
def filterSample (x : Int) (was : Bool) (z : ZoneRec) : ZoneRec :=
  if z.valid then
    let ring :=
      if !was then [x] else if sampleValid x then ringAppend x z.ring else z.ring
    { z with ring := ring, filtered := ringMean ring }
  else { z with filtered := none }

/-- The in-window timer (R7). -/
def stepInWindow (c : ZoneSettings) (z : ZoneRec) : ZoneRec :=
  match z.temp with
  | some t =>
    if c.admitLow ≤ t ∧ t ≤ c.admitHigh then { z with inWindow := satInc 65535 z.inWindow }
    else { z with inWindow := 0 }
  | none => { z with inWindow := 0 }

/-- The blind timer (R8); `blindCond` is the blind condition. -/
def stepBlind (blindCond : Bool) (z : ZoneRec) : ZoneRec :=
  if z.valid then { z with blind := 0 }
  else if blindCond then { z with blind := satInc 65535 z.blind }
  else z

/-- The alarm state that temperature `t` gives (R9). -/
def nextAlarm (c : ZoneSettings) (a : Alarm) (t : Int) : Alarm :=
  match a with
  | .normal => if t < c.floor then .low else if c.ceiling < t then .high else .normal
  | .low =>
    if c.ceiling < t then .high
    else if c.floor + 10 ≤ t ∧ t ≤ c.ceiling - 10 then .normal else .low
  | .high =>
    if t < c.floor then .low
    else if c.floor + 10 ≤ t ∧ t ≤ c.ceiling - 10 then .normal else .high

/-- The alarm state of the zone (R9), held without a temperature (R10). -/
def stepAlarm (c : ZoneSettings) (z : ZoneRec) : ZoneRec :=
  match z.temp with
  | some t => { z with alarm := nextAlarm c z.alarm t }
  | none => z

/-- The crit timer (R11). -/
def stepCrit (c : ZoneSettings) (z : ZoneRec) : ZoneRec :=
  match z.temp with
  | some t => if c.crit < t then { z with critTimer := satInc 10 z.critTimer } else { z with critTimer := 0 }
  | none => { z with critTimer := 0 }

/-- One zone record through one round, in the order of R2. -/
def stepZone (c : ZoneSettings) (blindCond : Bool) (x : Int) (z : ZoneRec) : ZoneRec :=
  stepCrit c (stepAlarm c (stepBlind blindCond (stepInWindow c
    (filterSample x z.valid (judgeValidity (sampleValid x) z)))))

/-- The crit timer of a zone has come to 10 in the round: a crit excursion (R11). -/
def critReached (old new : ZoneRec) : Bool := old.critTimer < 10 && new.critTimer == 10

/-- The class of the event of entering an alarm state (R9). -/
def Alarm.cls : Alarm → EventClass
  | .normal => .zoneNormal | .low => .zoneLow | .high => .zoneHigh

/-- The alarm event of a zone's round, if its alarm state changed (R9). -/
def zoneEvents (z : Zone) (old new : ZoneRec) : List Emit :=
  if new.alarm = old.alarm then []
  else [.post (event new.alarm.cls z.num (new.temp.getD 0))]

/-- The latch of a zone's sensor fault, when the zone becomes INVALID (R4). -/
def zoneLatches (z : Zone) (old new : ZoneRec) : List Emit :=
  if old.valid && !new.valid then [.raise (.sensorFault z)] else []

/-- The supply sample of a round, limited to 0..400 (R12). -/
def supplySample (x : Int) : Nat := (min x 400).toNat

/-- The supply record through one round (R12, R13). -/
def stepSupply (supplyLow : Nat) (sample : Nat) (m : Zmon) : Zmon :=
  let m := { m with supply := sample }
  let counts := if m.supplyLow then supplyLow + 10 ≤ sample else sample < supplyLow
  if counts then
    if m.supplyRun + 1 ≥ 3 then { m with supplyLow := !m.supplyLow, supplyRun := 0 }
    else { m with supplyRun := m.supplyRun + 1 }
  else { m with supplyRun := 0 }

/-- The latch of SUPPLY_LOW, when the supply enters LOW (R12). -/
def supplyLatches (old new : Zmon) : List Emit :=
  if !old.supplyLow && new.supplyLow then [.raise .supplyLow] else []

/-- The supply event of a round (R12). -/
def supplyEvents (old new : Zmon) : List Emit :=
  if !old.supplyLow && new.supplyLow then [.post (event .supply 0 new.supply)]
  else if old.supplyLow && !new.supplyLow then [.post (event .supply 1 new.supply)]
  else []

/-- The blind condition of a zone (R8): its heater runs at fallback; Z3 has no heater. -/
def State.blindCond (s : State) (z : Zone) : Bool :=
  let ofHeater (h : Heater) : Bool :=
    (s.hsch.heaters.get h).enabled && !s.latched (.heaterFault h) &&
      1 ≤ (s.hsch.heaters.get h).fallback
  match z with
  | .n0 => ofHeater .n0
  | .n1 => ofHeater .n1
  | .n2 => ofHeater .n2
  | .n3 => true

/-- ZMON's records after a round (R1, R2). -/
def roundZmon (raw : PerFour Int) (supply : Int) (s : State) : Zmon :=
  let zones := PerFour.of fun z =>
    stepZone (s.settings.zone.get z) (s.blindCond z) (raw.get z) (s.zmon.zones.get z)
  stepSupply s.settings.budget.supplyLow (supplySample supply) { s.zmon with zones := zones }

/-- The new records of a completed round become visible together, and with them the live causes that
follow them: SENSOR_FAULT_Zn's while the zone is INVALID (R4), SUPPLY_LOW's exactly while the supply state
is LOW (R12), so that every reader finds the values of one round (R1). -/
def publishRound (m : Zmon) (s : State) : State :=
  setCause .supplyLow m.supplyLow
    (Four.all.foldl (fun s z => setCause (.sensorFault z) (!(m.zones.get z).valid) s) (s.setZmon m))

/-- What ZMON hands on at the completion of a round: its latches, and its events in the order Z0 to
Z3, then the supply (R1). DESIGN CHOICE: R4 and R12 give the latches of one round no order; they are
raised Z0 to Z3, then the supply, before any event, and their notices stand in that order (log
entry 27). -/
def zmonEmits (old new : Zmon) : List Emit :=
  (Four.all.flatMap fun z => zoneLatches z (old.zones.get z) (new.zones.get z)) ++
    supplyLatches old new ++
    (Four.all.flatMap fun z => zoneEvents z (old.zones.get z) (new.zones.get z)) ++
    supplyEvents old new

end Sys2Proof.Machine
end

