-- ==== Sys2Proof/Machine/ClimateCommands.lean ====
section
/-! DEFINITION. The commands of the climate job (01, 02, 03): the sample round, the boundary, the slot,
the fan measurement, and FILTER_SERVICED. While RST_N holds a supervisor reset there is no sample round,
no boundary and no scan (R200). -/

namespace Sys2Proof.Machine

/-- One thing that a completed round brings about (R1, R11, R54, R119, R126); `old` is ZMON before the
round. -/
def roundTask (old : Zmon) (t : RoundTask) (s : State) : State :=
  match t with
  | .report => emitAll (zmonEmits old s.zmon) s
  | .crit z => if critReached (old.zones.get z) (s.zmon.zones.get z) then critExcursion z s else s
  | .admission => testAdmission s
  | .keypad =>
    let p := keypadRound s.settings.keypad s.time.ms (s.zoneTemp .n0) (s.zoneTemp .n3) s.ksu
    emitAll p.out (s.setKsu p.ksu)

/-- A whole round: the five records and their live causes, published together, then what the round
brings about, in the order given (R1). -/
def takeRound (raw : PerFour Int) (supply : Int) (order : List RoundTask) (s : State) : State :=
  let old := s.zmon
  order.foldl (fun s t => roundTask old t s) (publishRound (roundZmon raw supply s) s)

/-- SAMPLE_ROUND (R1). -/
def execSampleRound (raw : PerFour Int) (supply : Int) (order : List RoundTask) (s : State) :
    Host.Outcome State Fault Refusal :=
  if order.isPerm RoundTask.all then
    .next (if s.hold then s else takeRound raw supply order s)
  else .fault .illFormed

/-- A climate boundary: AFM has set its duty when HSCH reads it (R26); HPS and HSCH take the boundary
in either order (R19, R25). -/
def takeBoundary (hpsFirst : Bool) (s : State) : State :=
  let s := afmBoundary s
  if hpsFirst then hschBoundary (hpsBoundary s) else hpsBoundary (hschBoundary s)

/-- CLIMATE_BOUNDARY (R18): a period begins when slot 31 ends, or at the end of a reset, and at no other
moment (log entry 26). -/
def execClimateBoundary (hpsFirst : Bool) (s : State) : Host.Outcome State Fault Refusal :=
  .next (if !s.hold && s.hsch.boundaryDue then takeBoundary hpsFirst s else s)

/-- A slot ends: the readings of the heaters that are on, then the next slot, or after slot 31 the
boundary (R18, R30, R31). -/
def endSlot (current : PerThree Int) (order : List Heater) (s : State) : State :=
  nextSlot (order.foldl (fun s h => readHeater (current.get h) h s) s)

/-- SLOT_END (R31): no slot runs while a boundary is due (log entry 26). -/
def execSlotEnd (current : PerThree Int) (order : List Heater) (s : State) :
    Host.Outcome State Fault Refusal :=
  if order.isPerm heaters then
    .next (if !s.hold && !s.hsch.boundaryDue then endSlot current order s else s)
  else .fault .illFormed

/-- FAN_MEASUREMENT (R39). -/
def execFanMeasurement (pulses : Nat) (cellOk : Bool) (s : State) : Host.Outcome State Fault Refusal :=
  .next (if s.hold then s else measureFan pulses cellOk s)

/-- FILTER_SERVICED at AFM (R46). -/
def filterServiced (r : Request) (s : State) : State :=
  if s.afm.learn = .idle then
    answer r .accepted [] (s.setAfm { s.afm with learn := .waiting, readings := 0, sum := 0 })
  else answer r .busy [] s

/-- FILTER_SERVICED (R46). -/
def execFilterServiced (tag : Byte) (payload : List Byte) (s : State) :
    Host.Outcome State Fault Refusal :=
  let r : Request := ⟨0x31, tag, payload⟩
  .next (dispatch r (ofLength 0 r (filterServiced r)) s)

end Sys2Proof.Machine
end

