-- ==== Sys2Proof/Machine/LinkCommands.lean ====
section
/-! DEFINITION. The commands of the link: bytes on RXD, its gaps and breaks, the end of a reply, and the
requests LNK answers itself (R180 to R186, R192, R194). -/

namespace Sys2Proof.Machine

/-- LNK takes bytes from RXD: not while RST_N holds a reset (R200), nor in a break (R183). -/
def State.receiving (s : State) : Bool := !s.hold && !s.lnk.inBreak

/-- FRAME_RECEIVED (R182, R184). -/
def execFrameReceived (bytes : List RxByte) (s : State) : Host.Outcome State Fault Refusal :=
  .next (if s.receiving then s.setLnk (takeBytes bytes s.lnk) else s)

/-- A gap of more than 20 ms between two bytes of a frame (R182). -/
def Lnk.gap (l : Lnk) : Lnk :=
  match l.rx with
  | .hunting => l
  | .lenExpected | .inBody _ _ => { l with rx := .hunting, gapCount := satInc 65535 l.gapCount }

/-- FRAME_GAP_TIMEOUT (R182). -/
def execFrameGapTimeout (s : State) : Host.Outcome State Fault Refusal :=
  .next (s.setLnk s.lnk.gap)

/-- A link reset (R183). -/
def Lnk.reset (l : Lnk) : Lnk :=
  { l with
    rx := .hunting, held := [], sending := none, breakCount := satInc 65535 l.breakCount, inBreak := true }

/-- LINK_RESET: RXD has been held low for 50 ms; counted once in one low (R183). -/
def execLinkReset (s : State) : Host.Outcome State Fault Refusal :=
  .next (if s.receiving then s.setLnk s.lnk.reset else s)

/-- RXD_HIGH_AGAIN: the break ends (R183). -/
def execRxdHighAgain (s : State) : Host.Outcome State Fault Refusal :=
  .next (s.setLnk { s.lnk with inBreak := false })

/-- The stop delay has run out, and no reply keeps the supply on until it is sent (R68, R69). -/
def State.stopDelayOver (s : State) : Bool :=
  (s.hps.state == .running || s.hps.state == .stopping) && s.hps.stage == .stopDelay &&
    s.hps.stageTimer == some 0 &&
    (match s.lnk.sending with
     | some r => r.after != .endStop
     | none => true)

/-- What waited for the end of a reply is done (R180, R68, R69). -/
def afterReply (a : AfterReply) (s : State) : State :=
  match a with
  | .nothing => s
  | .applyRate => s.setLnk { s.lnk with rate := s.settings.link, rx := .hunting }
  | .endStop => if s.stopDelayOver then endStop s else s

/-- REPLY_SENT: the last CHECK byte has left TXD and the slot becomes EMPTY (R185). -/
def execReplySent (s : State) : Host.Outcome State Fault Refusal :=
  .next (
    match s.lnk.sending with
    | none => s
    | some r =>
      afterReply r.after
        ((s.setLnk { s.lnk with sending := none }).setLastSent (frame r.body)))

/-- BAD_KIND: a KIND that is not in the catalogue (R185). -/
def execBadKind (kind tag : Byte) (payload : List Byte) (s : State) :
    Host.Outcome State Fault Refusal :=
  if Config.catalogue.contains kind then .fault .illFormed
  else
    let r : Request := ⟨kind, tag, payload⟩
    .next (dispatch r (answer r .badKind []) s)

/-- The payload of PING's reply (R194). -/
def identity (s : State) : List Byte :=
  u16 0x0C3A ++ u16 0x0216 ++ u8 1 ++ bytes32 s.time.sec ++ u8 s.lnk.lastReset.num

/-- PING (R194). -/
def execPing (tag : Byte) (payload : List Byte) (s : State) : Host.Outcome State Fault Refusal :=
  let r : Request := ⟨0x01, tag, payload⟩
  .next (dispatch r (ofLength 0 r fun s => answer r .ok (identity s) s) s)

/-- GET_STATUS at LNK (R192). -/
def getStatus (r : Request) (s : State) : State :=
  match r.payload with
  | [page, part] =>
    match statusPage page.toNat part.toNat s with
    | some bytes => answer r .ok bytes s
    | none => answer r .badArg [] s
  | _ => answer r .badArg [] s

/-- GET_STATUS (R192). -/
def execGetStatus (tag : Byte) (payload : List Byte) (s : State) : Host.Outcome State Fault Refusal :=
  let r : Request := ⟨0x02, tag, payload⟩
  .next (dispatch r (getStatus r) s)

end Sys2Proof.Machine
end

