-- ==== Sys2Proof/Machine/HostCommands.lean ====
section
/-! DEFINITION. The commands of HPS (04): REQUEST_STOP, HOST_PWR_GOOD, and the ends of its timers. A
command that says a timer has run out has its effect where that timer has (log entry 11). -/

namespace Sys2Proof.Machine

/-! ### REQUEST_STOP (R68, R69) -/

/-- How HPS meets a REQUEST_STOP before it looks at the payload (R68, R69). -/
inductive StopGate where
  | taken | busy | refused
  deriving DecidableEq, Repr

/-- The gate of a host state and stage (R68, R69). -/
def stopGate (st : HostState) (stage : Stage) : StopGate :=
  match st with
  | .running => if stage = .stopDelay then .busy else .taken
  | .stopping => if stage = .stopDelay then .busy else .taken
  | .off | .qualifying | .powering | .resetting | .booting | .cycling | .suspended | .lockedOut =>
    .refused

/-- The destination a stop request's mode names (R68, R69). -/
def modeDestination (suspend : Bool) : Destination :=
  if suspend then .suspended else .off

/-- A stop request is taken: stored, the destination set but for a THERMAL stop, and the stop delay
begun (R68, R69). -/
def beginStopDelay (q : StopRequest) (s : State) : State :=
  s.setHps { s.hps with
    stopRequest := some q
    destination :=
      if s.hps.state = .stopping ∧ s.hps.stopCause ≠ .trigger then s.hps.destination
      else modeDestination q.suspend
    stage := .stopDelay
    stageTimer := some (s.settings.hostPower.stopDelay * 1000) }

/-- What waits for the reply to REQUEST_STOP: with a stop_delay of 0, the removal of the supply (R68,
R69). -/
def stopAfter (s : State) : AfterReply :=
  if s.settings.hostPower.stopDelay = 0 then .endStop else .nothing

/-- REQUEST_STOP at HPS, in the order of R69: the state, then the payload. -/
def requestStop (r : Request) (s : State) : State :=
  match r.payload with
  | [mode, d3, d2, d1, d0, flag] =>
    match stopGate s.hps.state s.hps.stage with
    | .busy => answer r .busy [] s
    | .refused => answer r .refused [] s
    | .taken =>
      if 1 < mode.toNat ∨ 1 < flag.toNat then answer r .badArg [] s
      else
        let asked := (word32 d3 d2 d1 d0).toNat
        let delay := min asked Config.wakeDelayMax
        answerThen (stopAfter s) r (if asked ≤ Config.wakeDelayMax then .accepted else .clamped) (u32 delay)
          (beginStopDelay ⟨mode.toNat == 1, delay, flag.toNat == 1⟩ s)
  | _ => answer r .badArg [] s

/-- REQUEST_STOP (R68, R69). -/
def execRequestStop (tag : Byte) (payload : List Byte) (s : State) :
    Host.Outcome State Fault Refusal :=
  let r : Request := ⟨0x15, tag, payload⟩
  .next (dispatch r (requestStop r) s)

/-! ### HOST_PWR_GOOD (R59, R60, R63, R67) -/

/-- HOST_PWR_GOOD_RISE: ends the wait in WAIT_GOOD (R59). -/
def execHostPwrGoodRise (s : State) : Host.Outcome State Fault Refusal :=
  let s := s.setPowerGood true
  .next (
    if s.hps.state = .powering ∧ s.hps.stage = .waitGood then
      s.setHps { s.hps with stage := .resetHold, stageTimer := some s.settings.hostPower.resetPulse }
    else s)

/-- The power fall of a STOPPING host: HPS removes the supply, and WEU records the POWER_FAIL (R67,
R86, R95). -/
def fallInStop (s : State) : State :=
  recordInStop .powerFail (raise .powerFail (endStop s))

/-- HOST_PWR_GOOD_FALL, by host state (R59, R60, R62, R63, R67). -/
def execHostPwrGoodFall (s : State) : Host.Outcome State Fault Refusal :=
  let s := s.setPowerGood false
  .next (
    match s.hps.state with
    | .powering => if s.hps.stage = .resetHold then powerFail s else s
    | .booting | .running => powerFail s
    | .stopping => fallInStop s
    | .cycling => if s.hps.stage = .drain then toOffTime s else s
    | .off | .qualifying | .resetting | .suspended | .lockedOut => s)

/-! ### Stage timers (R59, R62, R63, R67, R69) -/

/-- The stage timer has run out in this state and stage. -/
def State.stageOver (s : State) (st : HostState) (stage : Stage) : Bool :=
  s.hps.state == st && s.hps.stage == stage && s.hps.stageTimer == some 0

/-- POWER_GOOD_TIMEOUT (R59). -/
def execPowerGoodTimeout (s : State) : Host.Outcome State Fault Refusal :=
  .next (if s.stageOver .powering .waitGood then powerFail s else s)

/-- RESET_HOLD_EXPIRY (R59). -/
def execResetHoldExpiry (s : State) : Host.Outcome State Fault Refusal :=
  .next (if s.stageOver .powering .resetHold then enterBooting s else s)

/-- RESETTING_EXPIRY (R62). -/
def execResettingExpiry (s : State) : Host.Outcome State Fault Refusal :=
  .next (if s.stageOver .resetting .noStage then enterBooting s else s)

/-- DRAIN_TIMEOUT: not a failure (R63). -/
def execDrainTimeout (s : State) : Host.Outcome State Fault Refusal :=
  .next (if s.stageOver .cycling .drain then toOffTime s else s)

/-- OFF_TIME_EXPIRY (R63). -/
def execOffTimeExpiry (s : State) : Host.Outcome State Fault Refusal :=
  .next (if s.stageOver .cycling .offTime then enterQualifying s else s)

/-- GRACE_EXPIRY (R67). -/
def execGraceExpiry (s : State) : Host.Outcome State Fault Refusal :=
  .next (if s.stageOver .stopping .grace then endStop s else s)

/-- STOP_DELAY_EXPIRY (R67, R69). -/
def execStopDelayExpiry (s : State) : Host.Outcome State Fault Refusal :=
  .next (if s.stopDelayOver then endStop s else s)

/-- LOCKOUT_RETRY_EXPIRY (R64). -/
def execLockoutRetryExpiry (s : State) : Host.Outcome State Fault Refusal :=
  .next (if s.hps.state = .lockedOut ∧ s.hps.retryTimer = some 0 then releaseLockout s else s)

/-! ### Suspend (R71, R73, R74) -/

/-- The seconds to the wake of a SUSPENDED host that has a wake time (R71, R74). -/
def State.toWake (s : State) : Option Nat :=
  if s.hps.state = .suspended then s.hps.wakeAt.map (secondsTo · s.time.sec) else none

/-- WAKE_TIME (R71). -/
def execWakeTime (s : State) : Host.Outcome State Fault Refusal :=
  .next (if s.toWake = some 0 then wake s else s)

/-- LEAD_COMPUTATION (R73). -/
def execLeadComputation (s : State) : Host.Outcome State Fault Refusal :=
  .next (
    if s.toWake.isSome ∧ s.hps.leadTimer = 0 then
      s.setHps { s.hps with lead := computeLead s, leadTimer := Config.leadPeriod, leadMs := 0 }
    else s)

/-- The time to wake has come down to the latest lead (R74): compared once a second, where the seconds of
the lead timer change (log entry 7). -/
def State.preheatDue (s : State) : Bool :=
  !s.hps.preheat && s.hps.leadMs == 0 &&
    (match s.toWake with
     | some left => left ≤ s.hps.lead
     | none => false)

/-- PREHEAT_BEGIN (R74). -/
def execPreheatBegin (s : State) : Host.Outcome State Fault Refusal :=
  .next (if s.preheatDue then s.setHps { s.hps with preheat := true } else s)

/-! ### Warm-up (R57) -/

/-- The warm-up has reached warm_limit (R57): compared where a second of the qualifying clock is complete,
so that a lowered warm_limit acts at the next one (R57, R75). -/
def State.warmOver (s : State) : Bool :=
  s.hps.state == .qualifying && !s.hps.warmTimeout && s.hps.qualMs == 0 &&
    s.settings.hostPower.warmLimit * 60 ≤ s.hps.qualClock

/-- WARM_TIMEOUT (R57). -/
def execWarmTimeout (s : State) : Host.Outcome State Fault Refusal :=
  .next (
    if s.warmOver then
      post (event .admission 1 s.hps.qualClock)
        (raise .warmTimeout (s.setHps { s.hps with warmTimeout := true }))
    else s)

end Sys2Proof.Machine
end

