-- ==== Sys2Proof/Machine/NoticeCommands.lean ====
section
/-! DEFINITION. The requests of CNU and KEQ (R143, R169, R170, R176), and the end of the service pulse
(R173). -/

namespace Sys2Proof.Machine

/-- The reply to GET_CONDITIONS (R170, R189). -/
def conditionsReport (s : State) : List Byte :=
  bytes32 s.cnu.latched ++ bytes32 s.cnu.live ++ kindsByte s.cnu.kinds ++ u8 s.cnu.notices.length ++
  u8 (if s.cnu.overflow then 1 else 0)

/-- GET_CONDITIONS (R170). -/
def execGetConditions (tag : Byte) (payload : List Byte) (s : State) :
    Host.Outcome State Fault Refusal :=
  let r : Request := ⟨0x03, tag, payload⟩
  .next (dispatch r (ofLength 0 r fun s => answer r .ok (conditionsReport s) s) s)

/-- The conditions of `set` that an acknowledgement clears: latched, with no live cause present
(R169). -/
def cleared (set : Word32) (s : State) : Word32 :=
  s.cnu.latched &&& set &&& ~~~s.cnu.live

/-- CNU tells HSCH that heater `h`'s fault has been cleared: its kind becomes none and its runs 0 (R33,
R169). -/
def clearHeater (set : Word32) (h : Heater) (s : State) : State :=
  if condIn set (.heaterFault h) then
    let s := s.setCnu { s.cnu with kinds := s.cnu.kinds.set h .none }
    s.setHsch { s.hsch with
      heaters := s.hsch.heaters.set h { s.hsch.heaters.get h with lowRun := 0, highRun := 0 } }
  else s

/-- The conditions of `set` are acknowledged (R169). -/
def acknowledge (set : Word32) (s : State) : State :=
  let gone := cleared set s
  let s := s.setCnu { s.cnu with latched := s.cnu.latched &&& ~~~gone }
  clearHeater gone .n2 (clearHeater gone .n1 (clearHeater gone .n0 s))

/-- ACK_CONDITIONS at CNU (R169). -/
def ackConditions (r : Request) (s : State) : State :=
  match r.payload with
  | [b3, b2, b1, b0] =>
    let s := acknowledge (word32 b3 b2 b1 b0) s
    answer r .ok (bytes32 s.cnu.latched) s
  | _ => answer r .badArg [] s

/-- ACK_CONDITIONS (R169). -/
def execAckConditions (tag : Byte) (payload : List Byte) (s : State) :
    Host.Outcome State Fault Refusal :=
  let r : Request := ⟨0x04, tag, payload⟩
  .next (dispatch r (ackConditions r) s)

/-- FETCH_NOTICES at CNU (R176): up to four of the oldest notices leave, and the overflow flag is
cleared. -/
def fetchNotices (r : Request) (s : State) : State :=
  let out := s.cnu.notices.take 4
  let rest := s.cnu.notices.drop 4
  answer r .ok
    (u8 out.length ++ u8 rest.length ++ u8 (if s.cnu.overflow then 1 else 0) ++ out.flatMap Notice.bytes)
    (s.setCnu { s.cnu with notices := rest, overflow := false })

/-- FETCH_NOTICES (R176). -/
def execFetchNotices (tag : Byte) (payload : List Byte) (s : State) :
    Host.Outcome State Fault Refusal :=
  let r : Request := ⟨0x05, tag, payload⟩
  .next (dispatch r (ofLength 0 r (fetchNotices r)) s)

/-- READ_KEYS at KEQ (R143): up to eight of the oldest records leave, and the lost count becomes 0. -/
def readKeys (r : Request) (s : State) : State :=
  let out := s.keq.queue.take 8
  let rest := s.keq.queue.drop 8
  answer r .ok (u8 out.length ++ u8 rest.length ++ u8 s.keq.lost ++ out.flatMap KeyEvent.bytes)
    (s.setKeq { s.keq with queue := rest, lost := 0 })

/-- READ_KEYS (R143). -/
def execReadKeys (tag : Byte) (payload : List Byte) (s : State) : Host.Outcome State Fault Refusal :=
  let r : Request := ⟨0x06, tag, payload⟩
  .next (dispatch r (ofLength 0 r (readKeys r)) s)

/-- SVC_TIMER_EXPIRY: the SVC timer has reached 0 and SVC is driven low (R173). -/
def execSvcTimerExpiry (s : State) : Host.Outcome State Fault Refusal :=
  .next (if s.cnu.svcTimer = some 0 then s.setCnu { s.cnu with svcTimer := none } else s)

end Sys2Proof.Machine
end

