-- ==== Sys2Proof/Machine/ResetCommands.lean ====
section
/-! DEFINITION. The reset commands: POWER_ON_RESET, RST_N_ASSERT, RST_N_RELEASE, SUPERVISOR_RESET. -/

namespace Sys2Proof.Machine

/-- POWER_ON_RESET (R199). -/
def execPowerOnReset (s : State) : Host.Outcome State Fault Refusal :=
  .next (powerOn s)

/-- RST_N_ASSERT: RST_N has been low for 1 ms (R200). -/
def execRstNAssert (s : State) : Host.Outcome State Fault Refusal :=
  .next (if s.hold then s else beginReset s)

/-- RST_N_RELEASE: RST_N rises, and the reset it held ends (R200). -/
def execRstNRelease (s : State) : Host.Outcome State Fault Refusal :=
  .next (if s.hold then endReset .pin s else s)

/-- The SUPERVISOR_RESET request at its owner: its OK reply is sent in full, then the reset begins and
ends at once; where a RST_N hold has begun meanwhile, that one reset lasts until RST_N rises, with cause
PIN (R189, R200; log entry 6). -/
def supervisorReset (rstLow : Bool) (r : Request) (s : State) : State :=
  let s := beginReset (s.setLastSent (frame (replyBody r .ok [])))
  if rstLow then s else endReset .request s

/-- SUPERVISOR_RESET (R200). -/
def execSupervisorReset (tag : Byte) (payload : List Byte) (s : State) (rstLow : Bool := false) :
    Host.Outcome State Fault Refusal :=
  let r : Request := ⟨0x3F, tag, payload⟩
  .next (dispatch r (ofLength 0 r (supervisorReset rstLow r)) s)

end Sys2Proof.Machine
end

