-- ==== Sys2Proof/Machine/SettingsCommands.lean ====
section
/-! DEFINITION. The settings commands: the rows of WRITE_SETTINGS by group, READ_SETTINGS, and PST's
store, revert and factory settings (R191, R197, R198). -/

namespace Sys2Proof.Machine

/-- A WRITE_SETTINGS request. -/
def writeRequest (tag : Byte) (payload : List Byte) : Request := ⟨0x20, tag, payload⟩

/-- WRITE_ZONE (R14, R15). -/
def execWriteZone (tag : Byte) (payload : List Byte) (s : State) : Host.Outcome State Fault Refusal :=
  if writesGroup 1 payload then
    .next (dispatch (writeRequest tag payload)
      (writeGroup 1 writeZoneFields .nothing (writeRequest tag payload)) s)
  else .fault .illFormed

/-- WRITE_HEATER (R35). -/
def execWriteHeater (tag : Byte) (payload : List Byte) (s : State) : Host.Outcome State Fault Refusal :=
  if writesGroup 2 payload then
    .next (dispatch (writeRequest tag payload)
      (writeGroup 2 writeHeaterFields .nothing (writeRequest tag payload)) s)
  else .fault .illFormed

/-- WRITE_BUDGET (R36). -/
def execWriteBudget (tag : Byte) (payload : List Byte) (s : State) : Host.Outcome State Fault Refusal :=
  if writesGroup 3 payload then
    .next (dispatch (writeRequest tag payload)
      (writeGroup 3 writeBudgetFields .nothing (writeRequest tag payload)) s)
  else .fault .illFormed

/-- WRITE_FAN (R42). -/
def execWriteFan (tag : Byte) (payload : List Byte) (s : State) : Host.Outcome State Fault Refusal :=
  if writesGroup 4 payload then
    .next (dispatch (writeRequest tag payload)
      (writeGroup 4 writeFanFields .nothing (writeRequest tag payload)) s)
  else .fault .illFormed

/-- WRITE_WATCHDOG (R99). -/
def execWriteWatchdog (tag : Byte) (payload : List Byte) (s : State) :
    Host.Outcome State Fault Refusal :=
  if writesGroup 5 payload then
    .next (dispatch (writeRequest tag payload)
      (writeGroup 5 writeWatchdogFields .nothing (writeRequest tag payload)) s)
  else .fault .illFormed

/-- WRITE_LADDER (R100). -/
def execWriteLadder (tag : Byte) (payload : List Byte) (s : State) : Host.Outcome State Fault Refusal :=
  if writesGroup 6 payload then
    .next (dispatch (writeRequest tag payload)
      (writeGroup 6 writeLadderFields .nothing (writeRequest tag payload)) s)
  else .fault .illFormed

/-- WRITE_HOST_POWER (R75). -/
def execWriteHostPower (tag : Byte) (payload : List Byte) (s : State) :
    Host.Outcome State Fault Refusal :=
  if writesGroup 7 payload then
    .next (dispatch (writeRequest tag payload)
      (writeGroup 7 writeHostPowerFields .nothing (writeRequest tag payload)) s)
  else .fault .illFormed

/-- WRITE_KEYPAD (R133). -/
def execWriteKeypad (tag : Byte) (payload : List Byte) (s : State) : Host.Outcome State Fault Refusal :=
  if writesGroup 8 payload then
    .next (dispatch (writeRequest tag payload)
      (writeGroup 8 writeKeypadFields .nothing (writeRequest tag payload)) s)
  else .fault .illFormed

/-- WRITE_KEY (R134). -/
def execWriteKey (tag : Byte) (payload : List Byte) (s : State) : Host.Outcome State Fault Refusal :=
  if writesGroup 9 payload then
    .next (dispatch (writeRequest tag payload)
      (writeGroup 9 writeKeyFields .nothing (writeRequest tag payload)) s)
  else .fault .illFormed

/-- WRITE_CHORD (R134). -/
def execWriteChord (tag : Byte) (payload : List Byte) (s : State) : Host.Outcome State Fault Refusal :=
  if writesGroup 10 payload then
    .next (dispatch (writeRequest tag payload)
      (writeGroup 10 writeChordFields .nothing (writeRequest tag payload)) s)
  else .fault .illFormed

/-- WRITE_TRIGGER (R159). -/
def execWriteTrigger (tag : Byte) (payload : List Byte) (s : State) :
    Host.Outcome State Fault Refusal :=
  if writesGroup 11 payload then
    .next (dispatch (writeRequest tag payload)
      (writeGroup 11 writeTriggerFields .nothing (writeRequest tag payload)) s)
  else .fault .illFormed

/-- WRITE_REPORT (R171). -/
def execWriteReport (tag : Byte) (payload : List Byte) (s : State) : Host.Outcome State Fault Refusal :=
  if writesGroup 12 payload then
    .next (dispatch (writeRequest tag payload)
      (writeGroup 12 writeReportFields .nothing (writeRequest tag payload)) s)
  else .fault .illFormed

/-- WRITE_LINK: the rate changes once the reply has been sent (R180). -/
def execWriteLink (tag : Byte) (payload : List Byte) (s : State) : Host.Outcome State Fault Refusal :=
  if writesGroup 13 payload then
    .next (dispatch (writeRequest tag payload)
      (writeGroup 13 writeLinkFields .applyRate (writeRequest tag payload)) s)
  else .fault .illFormed

/-- READ_SETTINGS (R191). -/
def execReadSettings (tag : Byte) (payload : List Byte) (s : State) :
    Host.Outcome State Fault Refusal :=
  let r : Request := ⟨0x21, tag, payload⟩
  .next (dispatch r (readGroup r) s)

/-! ### The profile (R197, R198) -/

/-- STORE_PROFILE at PST (R197). -/
def storeProfile (r : Request) (s : State) : State :=
  if s.pst.storing.isSome then answer r .busy [] s
  else
    answer r .accepted []
      (s.setPst { s.pst with image := none, storing := some ⟨s.settings, Config.storeMs⟩ })

/-- STORE_PROFILE (R197). -/
def execStoreProfile (tag : Byte) (payload : List Byte) (s : State) :
    Host.Outcome State Fault Refusal :=
  let r : Request := ⟨0x22, tag, payload⟩
  .next (dispatch r (ofLength 0 r (storeProfile r)) s)

/-- The store completes, its write a success or not: the snapshot and its check become the image
(R196, R197). -/
def storeDone (writeOk : Bool) (snapshot : Settings) (s : State) : State :=
  let s := s.setPst { s.pst with
    image := if writeOk then some ⟨snapshot, imageCheck snapshot⟩ else none, storing := none }
  if writeOk then notify (.operationDone .store .ok none) s
  else notify (.operationDone .store .failed none) (raise .storeFailed s)

/-- STORE_COMPLETE (R197): without effect unless a store is in progress. -/
def execStoreComplete (writeOk : Bool) (s : State) : Host.Outcome State Fault Refusal :=
  .next (
    match s.pst.storing with
    | some x => storeDone writeOk x.snapshot s
    | none => s)

/-- REVERT_PROFILE at PST (R198). -/
def revertProfile (r : Request) (s : State) : State :=
  if s.pst.storing.isSome then answer r .busy [] s
  else
    match s.pst.content? with
    | none => answer r .refused [] s
    | some c => answerThen .applyRate r .ok [] (reload c s)

/-- REVERT_PROFILE (R198). -/
def execRevertProfile (tag : Byte) (payload : List Byte) (s : State) :
    Host.Outcome State Fault Refusal :=
  let r : Request := ⟨0x23, tag, payload⟩
  .next (dispatch r (ofLength 0 r (revertProfile r)) s)

/-- FACTORY_SETTINGS (R198): taken in every store state. -/
def execFactorySettings (tag : Byte) (payload : List Byte) (s : State) :
    Host.Outcome State Fault Refusal :=
  let r : Request := ⟨0x24, tag, payload⟩
  .next (dispatch r
    (ofLength 0 r fun s => answerThen .applyRate r .ok [] (reload .factory s)) s)

end Sys2Proof.Machine
end

