-- ==== Sys2Proof/Machine/TriggerCommands.lean ====
section
/-! DEFINITION. The commands of KSU and TMX (07, 09): the scan, the taking of an event, the expiry of an
arm window, and TRIGGER_CONTROL. -/

namespace Sys2Proof.Machine

/-! ### Scan and inbox -/

/-- A scan of the keypad (R115): what it produces is handed on in order (R132). -/
def takeScan (raws : List Nat) (s : State) : State :=
  let p := scanPad s.settings s.time.ms (s.zoneTemp .n0) raws s.ksu
  emitAll p.out (s.setKsu p.ksu)

/-- KEY_SCAN (R115); no scan while RST_N holds a reset (R200). -/
def execKeyScan (raws : List Nat) (s : State) : Host.Outcome State Fault Refusal :=
  if countsOk raws then .next (if s.hold then s else takeScan raws s) else .fault .illFormed

/-- The oldest event leaves the inbox and is taken (R150). -/
def takeOldest (s : State) : State :=
  match s.tmx.inbox with
  | [] => s
  | e :: rest => takeEvent e (s.setTmx { s.tmx with inbox := rest })

/-- EVENT_TAKE (R150); TMX takes no event while RST_N holds a reset (R200). -/
def execEventTake (s : State) : Host.Outcome State Fault Refusal :=
  .next (if s.hold then s else takeOldest s)

/-! ### Arm window (R158) -/

/-- The arm window of an armed unit has run out. -/
def UnitRec.windowOver (r : UnitRec) : Bool := r.state.active && r.window == some 0

/-- The dependent returns to WAITING_ARM (R158). -/
def disarm (c : TriggerSettings) (r : UnitRec) : UnitRec :=
  { r with state := .waitingArm, count := c.preset, window := none }

/-- ARM_WINDOW_EXPIRY (R158). -/
def execArmWindowExpiry (u : TrigUnit) (s : State) : Host.Outcome State Fault Refusal :=
  let r := s.tmx.units.get u
  .next (
    if r.windowOver then
      s.setTmx { s.tmx with units := s.tmx.units.set u (disarm (s.settings.trigger.get u) r) }
    else s)

/-! ### TRIGGER_CONTROL (R163) -/

/-- Replace the enabled field of a unit's working settings and its state (R163). -/
def putUnit (u : TrigUnit) (enabled : Bool) (r : UnitRec) (s : State) : State :=
  let c := { s.settings.trigger.get u with enabled := enabled }
  (s.setSettings { s.settings with trigger := s.settings.trigger.set u c }).setTmx
    { s.tmx with units := s.tmx.units.set u r }

/-- ENABLE (R163): a DISABLED unit takes its initial state, keeping its fire count. -/
def enableUnit (u : TrigUnit) (s : State) : Option State :=
  let r := s.tmx.units.get u
  if r.state = .disabled then
    some (putUnit u true (.initial { s.settings.trigger.get u with enabled := true } r.fires) s)
  else some s

/-- DISABLE (R163): the unit becomes DISABLED, keeping its fire count. -/
def disableUnit (u : TrigUnit) (s : State) : Option State :=
  let r := s.tmx.units.get u
  if r.state = .disabled then some s
  else some (putUnit u false (.initial { s.settings.trigger.get u with enabled := false } r.fires) s)

/-- REARM (R163): an enabled unit takes its initial state, keeping its fire count; none is REFUSED. -/
def rearmUnit (u : TrigUnit) (s : State) : Option State :=
  let r := s.tmx.units.get u
  if r.state = .disabled then none
  else
    some (s.setTmx { s.tmx with
      units := s.tmx.units.set u
        (.initial { s.settings.trigger.get u with enabled := true } r.fires) })

/-- The payload of an OK reply to TRIGGER_CONTROL (R163, R189). -/
def unitReport (r : UnitRec) : List Byte := u8 r.state.num ++ u8 r.count ++ u16 r.fires

/-- A TRIGGER_CONTROL of operation `op` at TMX (R163). -/
def triggerControl (op : Nat) (change : TrigUnit → State → Option State) (r : Request) (s : State) :
    State :=
  match r.payload with
  | [ub, ob] =>
    match Six.ofNum ub.toNat with
    | some u =>
      if ob.toNat = op then
        match change u s with
        | some s' => answer r .ok (unitReport (s'.tmx.units.get u)) s'
        | none => answer r .refused [] s
      else answer r .badArg [] s
    | none => answer r .badArg [] s
  | _ => answer r .badArg [] s

/-- A TRIGGER_CONTROL request. -/
def controlRequest (tag : Byte) (payload : List Byte) : Request := ⟨0x30, tag, payload⟩

/-- TRIGGER_CONTROL_ENABLE (R163). -/
def execTriggerControlEnable (tag : Byte) (payload : List Byte) (s : State) :
    Host.Outcome State Fault Refusal :=
  if controls 0 payload then
    .next (dispatch (controlRequest tag payload)
      (triggerControl 0 enableUnit (controlRequest tag payload)) s)
  else .fault .illFormed

/-- TRIGGER_CONTROL_DISABLE (R163). -/
def execTriggerControlDisable (tag : Byte) (payload : List Byte) (s : State) :
    Host.Outcome State Fault Refusal :=
  if controls 1 payload then
    .next (dispatch (controlRequest tag payload)
      (triggerControl 1 disableUnit (controlRequest tag payload)) s)
  else .fault .illFormed

/-- TRIGGER_CONTROL_REARM (R163). -/
def execTriggerControlRearm (tag : Byte) (payload : List Byte) (s : State) :
    Host.Outcome State Fault Refusal :=
  if controls 2 payload then
    .next (dispatch (controlRequest tag payload)
      (triggerControl 2 rearmUnit (controlRequest tag payload)) s)
  else .fault .illFormed

end Sys2Proof.Machine
end

