-- ==== Sys2Proof/Machine/WatchdogCommands.lean ====
section
/-! DEFINITION. The commands of WEU and CPT (05, 06): KICK, CHECKPOINT, the trace and the records, the
requested restart, the policy lock, and the watchdog's own timers. -/

namespace Sys2Proof.Machine

/-! ### KICK (R80 to R85, R106) -/

/-- What CPT did with a kick's code, as the reply codes it (R106, R189). -/
inductive CodeResult where
  | none | added | repeated | dropped
  deriving DecidableEq, Repr

/-- The code of a code result (R189). -/
def CodeResult.num : CodeResult → Nat
  | .none => 0 | .added => 1 | .repeated => 2 | .dropped => 3

/-- The checkpoint code of a KICK's payload: none at all, or one in two bytes; any other length is
BAD_ARG (R189). -/
def kickCode? : List Byte → Option (Option Word16)
  | [] => some Option.none
  | [hi, lo] => some (some (word16 hi lo))
  | _ => Option.none

/-- A taken kick's code is handed to CPT (R106). -/
def handCode (code : Option Word16) (s : State) : State × CodeResult :=
  match code with
  | Option.none => (s, .none)
  | some c =>
    if s.cpt.frozen then (s, .dropped)
    else
      let r := takeCode c s
      (r.1, if r.2 then .repeated else .added)

/-- The answer to a kick that was taken, after its code has been handed on (R81, R106). -/
def kickAnswer (r : Request) (st : Status) (code : Option Word16) (s : State) : State :=
  let x := handCode code s
  answer r st (u8 x.2.num) x.1

/-- An honoured kick: the kick timer restarts with the timeout and window then in force; a timeout of 0
starts no timer, and the watchdog goes off (R81, R85). -/
def restartKick (c : WatchdogSettings) (w : Weu) : Weu :=
  { w with
    phase := if c.timeout = 0 then .off else .windowed
    kickTimer := if c.timeout = 0 then Option.none else some 0
    timeoutInForce := c.timeout, windowInForce := c.windowMin }

/-- WD_EARLY is latched and WATCHDOG(1, t) posted (R81, R83). -/
def earlyKick (t : Nat) (s : State) : State :=
  post (event .watchdog 1 (min 65535 t)) (raise .wdEarly s)

/-- A kick in RUNNING or STOPPING (R81, R83, R85). DESIGN CHOICE: a kick while the phase is OFF gets OK and
starts no timer even where a timeout above 0 has been written since; the watchdog comes on at the next
state entry that starts the kick timer (log entry 30). -/
def judgeKick (r : Request) (code : Option Word16) (s : State) : State :=
  if s.weu.phase = .windowed then
    let t := s.weu.kickTimer.getD 0
    if s.weu.windowInForce ≤ t then
      kickAnswer r .ok code (s.setWeu (restartKick s.settings.watchdog s.weu))
    else if s.hps.state = .running ∧ s.settings.watchdog.earlyPolicy = .restart then
      escalate .wdEarly Option.none (kickAnswer r .early code (earlyKick t s))
    else
      let s := earlyKick t s
      kickAnswer r .early code (s.setWeu { s.weu with earlyCount := satInc 255 s.weu.earlyCount })
  else kickAnswer r .ok code s

/-- KICK at WEU (R80, R84). -/
def takeKick (r : Request) (s : State) : State :=
  match kickCode? r.payload with
  | Option.none => answer r .badArg [] s
  | some code =>
    match s.hps.state with
    | .booting => kickAnswer r .ok code (enterState .running .noStage Option.none s)
    | .running | .stopping => judgeKick r code s
    | .off | .qualifying | .powering | .resetting | .cycling | .suspended | .lockedOut =>
      answer r .refused (u8 (if code.isSome then CodeResult.dropped else CodeResult.none).num) s

/-- KICK (R80 to R85, R106). -/
def execKick (tag : Byte) (payload : List Byte) (s : State) : Host.Outcome State Fault Refusal :=
  let r : Request := ⟨0x10, tag, payload⟩
  .next (dispatch r (takeKick r) s)

/-! ### Checkpoints and the trace (R105, R108, R111) -/

/-- CHECKPOINT at CPT (R105). -/
def takeCheckpoint (r : Request) (s : State) : State :=
  match r.payload with
  | [hi, lo] =>
    if !s.cpt.seen.listening then answer r .refused [] s
    else if s.cpt.frozen then answer r .frozen [] s
    else
      let x := takeCode (word16 hi lo) s
      let newest := (x.1.cpt.ring.getLast?.map (·.count)).getD 0
      answer r .ok (u8 (if x.2 then 2 else 1) ++ u8 x.1.cpt.ring.length ++ u8 newest) x.1
  | _ => answer r .badArg [] s

/-- CHECKPOINT (R105). -/
def execCheckpoint (tag : Byte) (payload : List Byte) (s : State) : Host.Outcome State Fault Refusal :=
  let r : Request := ⟨0x11, tag, payload⟩
  .next (dispatch r (takeCheckpoint r) s)

/-- READ_TRACE at CPT (R111). -/
def readTrace (r : Request) (s : State) : State :=
  match r.payload with
  | [page] => if page.toNat ≤ 1 then answer r .ok (readTracePage page.toNat s.cpt) s else answer r .badArg [] s
  | _ => answer r .badArg [] s

/-- READ_TRACE (R111). -/
def execReadTrace (tag : Byte) (payload : List Byte) (s : State) : Host.Outcome State Fault Refusal :=
  let r : Request := ⟨0x12, tag, payload⟩
  .next (dispatch r (readTrace r) s)

/-- THAW_TRACE at CPT (R108). -/
def thawTrace (r : Request) (s : State) : State :=
  let s := s.setCpt { s.cpt with frozen := false, frozenAt := Option.none }
  answer r .ok (u8 s.cpt.stateNum ++ u8 s.cpt.ring.length) s

/-- THAW_TRACE (R108). -/
def execThawTrace (tag : Byte) (payload : List Byte) (s : State) : Host.Outcome State Fault Refusal :=
  let r : Request := ⟨0x13, tag, payload⟩
  .next (dispatch r (ofLength 0 r (thawTrace r)) s)

/-! ### Records and requests (R93, R97, R98) -/

/-- The record of an index, 0 being the newest (R97). -/
def recordAt (index : Nat) (rs : List RestartRecord) : Option RestartRecord :=
  rs.reverse[index]?

/-- READ_RESTART at WEU (R97). -/
def readRestart (r : Request) (s : State) : State :=
  match r.payload with
  | [ib, pb] =>
    if 7 < ib.toNat ∨ 2 < pb.toNat then answer r .badArg [] s
    else
      match recordAt ib.toNat s.weu.records with
      | Option.none => answer r .refused [] s
      | some rec =>
        answer r .ok
          (if pb.toNat = 0 then rec.header ib.toNat s.weu.records.length
           else rec.tracePart ib.toNat pb.toNat) s
  | _ => answer r .badArg [] s

/-- READ_RESTART (R97). -/
def execReadRestart (tag : Byte) (payload : List Byte) (s : State) :
    Host.Outcome State Fault Refusal :=
  let r : Request := ⟨0x14, tag, payload⟩
  .next (dispatch r (readRestart r) s)

/-- The order of a requested restart (R93). -/
def requestedOrder (c : WatchdogSettings) : Order :=
  match c.requestedAction with
  | .reset => .reset
  | .cycle => .cycle c.requestedOffTime

/-- REQUEST_RESTART at WEU (R93): in RUNNING the record is written, the reply handed over, and the
order given. -/
def requestRestart (r : Request) (s : State) : State :=
  if s.hps.state = .running then
    let o := requestedOrder s.settings.watchdog
    let s := writeRecord .requested Option.none o.action o.offTime? .pending (failPending s)
    perform o (answer r .ok [] s)
  else answer r .refused [] s

/-- REQUEST_RESTART (R93). -/
def execRequestRestart (tag : Byte) (payload : List Byte) (s : State) :
    Host.Outcome State Fault Refusal :=
  let r : Request := ⟨0x16, tag, payload⟩
  .next (dispatch r (ofLength 0 r (requestRestart r)) s)

/-- COMMIT_POLICY (R98). -/
def execCommitPolicy (tag : Byte) (payload : List Byte) (s : State) :
    Host.Outcome State Fault Refusal :=
  let r : Request := ⟨0x17, tag, payload⟩
  .next (dispatch r
    (ofLength 0 r fun s => answer r .ok [] (s.setWeu { s.weu with policyLock := true })) s)

/-! ### The watchdog's timers (R80, R82, R83, R91) -/

/-- The boot allowance has run out (R80). -/
def State.bootOver (s : State) : Bool :=
  s.hps.state == .booting && s.weu.phase == .boot &&
    (match s.weu.bootTimer with
     | some t => s.weu.bootLimit ≤ t
     | Option.none => false)

/-- BOOT_TIMEOUT (R80). -/
def execBootTimeout (s : State) : Host.Outcome State Fault Refusal :=
  .next (
    if s.bootOver then
      escalate .bootTimeout Option.none
        (post (event .watchdog 2 (min 65535 (s.weu.bootTimer.getD 0))) (raise .bootTimeout s))
    else s)

/-- The kick timer has reached the timeout in force (R82, R83). -/
def State.kickOver (s : State) : Bool :=
  s.weu.phase == .windowed &&
    (match s.weu.kickTimer with
     | some t => s.weu.timeoutInForce ≤ t
     | Option.none => false)

/-- WD_EXPIRED is latched and WATCHDOG(0, t) posted (R82, R83). -/
def latchExpiry (s : State) : State :=
  post (event .watchdog 0 (min 65535 (s.weu.kickTimer.getD 0))) (raise .wdExpired s)

/-- WD_EXPIRED: a failure in RUNNING (R82); in STOPPING recorded, and the stop ends (R83, R67, R95). -/
def execWdExpired (s : State) : Host.Outcome State Fault Refusal :=
  .next (
    if s.kickOver then
      if s.hps.state = .running then escalate .wdExpired Option.none (latchExpiry s)
      else if s.hps.state = .stopping then endStop (recordInStop .thermalStopWd (latchExpiry s))
      else s
    else s)

/-- The stable timer has reached stable_time (R91): compared where a second of it is complete, so that a
lowered stable_time acts at the next one (R91, R99). -/
def State.stableOver (s : State) : Bool :=
  match s.weu.stable with
  | .counting sec 0 => s.settings.watchdog.stableTime ≤ sec
  | .counting _ (_ + 1) | .none | .done => false

/-- STABLE_TIME (R91). -/
def execStableTime (s : State) : Host.Outcome State Fault Refusal :=
  .next (
    if s.stableOver then
      resetLadder (s.setWeu { s.weu with
        records := closeNewest .recovered s.weu.records, stable := .done })
    else s)

end Sys2Proof.Machine
end

