-- ==== Sys2Proof/Machine/Clock.lean ====
section
/-! DEFINITION. One millisecond of the timebase (00_scope.md, The timebase), which is what the part does
when no command waits (log entry 1): every running timer moves, and what has come due joins the queue of
commands. -/

namespace Sys2Proof.Machine

/-- The two clocks: uptime in ms modulo 2^32, and uptime in s. -/
def Timebase.tick (t : Timebase) : Timebase :=
  if t.phase + 1 < 1000 then { t with ms := t.ms + 1, phase := t.phase + 1 }
  else ⟨t.ms + 1, t.sec + 1, 0⟩

/-- A timer that counts down in ms. -/
def countDown (t : Option Nat) : Option Nat := t.map (· - 1)

/-- A timer that counts up in ms. -/
def countUp (t : Option Nat) : Option Nat := t.map (· + 1)

/-- The timers of HPS (R52, R54, R64, R73): the stage timer; the qualifying clock while QUALIFYING; the
lead timer while SUSPENDED with a wake time; the retry timer. The last three count whole seconds from
their own start (log entry 7). -/
def Hps.tick (h : Hps) : Hps :=
  let h := { h with stageTimer := countDown h.stageTimer }
  let h :=
    if h.state = .qualifying then
      if h.qualMs + 1 < 1000 then { h with qualMs := h.qualMs + 1 }
      else { h with qualMs := 0, qualClock := satInc 65535 h.qualClock }
    else h
  let h :=
    if h.state = .suspended ∧ h.wakeAt.isSome then
      if h.leadMs + 1 < 1000 then { h with leadMs := h.leadMs + 1 }
      else { h with leadMs := 0, leadTimer := h.leadTimer - 1 }
    else h
  if h.retryTimer.isSome then
    if h.retryMs + 1 < 1000 then { h with retryMs := h.retryMs + 1 }
    else { h with retryMs := 0, retryTimer := h.retryTimer.map (· - 1) }
  else h

/-- The stable timer counts whole seconds (R79). -/
def StableTimer.tick : StableTimer → StableTimer
  | .counting sec ms => if ms + 1 < 1000 then .counting sec (ms + 1) else .counting (sec + 1) 0
  | .none => .none
  | .done => .done

/-- The timers of WEU (R79). -/
def Weu.tick (w : Weu) : Weu :=
  { w with
    bootTimer := countUp w.bootTimer, kickTimer := countUp w.kickTimer, stable := w.stable.tick }

/-- The arm windows of TMX (R158). -/
def Tmx.tick (t : Tmx) : Tmx :=
  { t with units := PerSix.of fun u =>
      { t.units.get u with window := countDown (t.units.get u).window } }

/-- The store timer (R197). -/
def Pst.tick (p : Pst) : Pst :=
  { p with storing := p.storing.map fun x => { x with timer := x.timer - 1 } }

/-- Every timer after one more millisecond. -/
def moveTimers (s : State) : State :=
  { s with
    time := s.time.tick, hps := s.hps.tick, weu := s.weu.tick, tmx := s.tmx.tick, pst := s.pst.tick
    cnu := { s.cnu with svcTimer := countDown s.cnu.svcTimer } }

/-- The lead timer has run out (R73). -/
def State.leadDue (s : State) : Bool := s.toWake.isSome && s.hps.leadTimer == 0

/-- The store timer has run out: the store completes at the latest now (R197). -/
def State.storeDue (s : State) : Bool :=
  match s.pst.storing with
  | some x => x.timer == 0
  | none => false

/-- Each command that the passing of time brings, and whether it is due. Where two fall together and
the spec leaves their order open, this list's order is the model's (log entry 1). -/
def schedule (s : State) : List (Bool × Instr) :=
  [(s.stageOver .powering .waitGood, .powerGoodTimeout),
   (s.stageOver .powering .resetHold, .resetHoldExpiry),
   (s.stageOver .resetting .noStage, .resettingExpiry),
   (s.stageOver .cycling .drain, .drainTimeout),
   (s.stageOver .cycling .offTime, .offTimeExpiry),
   (s.stageOver .stopping .grace, .graceExpiry),
   (s.stopDelayOver, .stopDelayExpiry),
   (s.hps.state == .lockedOut && s.hps.retryTimer == some 0, .lockoutRetryExpiry),
   (s.leadDue, .leadComputation),
   (s.leadDue || s.preheatDue, .preheatBegin),
   (s.toWake == some 0, .wakeTime),
   (s.warmOver, .warmTimeout),
   (s.bootOver, .bootTimeout),
   (s.kickOver, .wdExpired),
   (s.stableOver, .stableTime),
   (s.cnu.svcTimer == some 0, .svcTimerExpiry)] ++
  (Six.all.map fun u => ((s.tmx.units.get u).windowOver, .armWindowExpiry u)) ++
  [(s.storeDue, .storeComplete (Config.storeOutcome s.time.ms)),
   (!s.hold && !s.tmx.inbox.isEmpty, .eventTake)]

/-- The commands that are due. -/
def due (s : State) : List Instr :=
  (schedule s).filterMap fun x => if x.1 then some x.2 else none

/-- One millisecond passes: the timers move, and what is due waits in the queue. -/
def tick (s : State) : State :=
  let s := moveTimers s
  s.setPending (due s)

end Sys2Proof.Machine
end

