-- ==== Sys2Proof/Machine/Dispatch.lean ====
section
/-! DEFINITION. The meaning of every command: one arm per constructor of `Instr`. -/

namespace Sys2Proof.Machine

/-- The effect of a command on everything but the queue. -/
def exec (i : Instr) (s : State) : Host.Outcome State Fault Refusal :=
  match i with
  | .powerOnReset => Sys2Proof.Machine.execPowerOnReset s
  | .rstNAssert => Sys2Proof.Machine.execRstNAssert s
  | .rstNRelease => Sys2Proof.Machine.execRstNRelease s
  | .frameReceived bytes => Sys2Proof.Machine.execFrameReceived bytes s
  | .frameGapTimeout => Sys2Proof.Machine.execFrameGapTimeout s
  | .linkReset => Sys2Proof.Machine.execLinkReset s
  | .replySent => Sys2Proof.Machine.execReplySent s
  | .badKind kind tag payload => Sys2Proof.Machine.execBadKind kind tag payload s
  | .ping tag payload => Sys2Proof.Machine.execPing tag payload s
  | .getStatus tag payload => Sys2Proof.Machine.execGetStatus tag payload s
  | .getConditions tag payload => Sys2Proof.Machine.execGetConditions tag payload s
  | .ackConditions tag payload => Sys2Proof.Machine.execAckConditions tag payload s
  | .fetchNotices tag payload => Sys2Proof.Machine.execFetchNotices tag payload s
  | .readKeys tag payload => Sys2Proof.Machine.execReadKeys tag payload s
  | .kick tag payload => Sys2Proof.Machine.execKick tag payload s
  | .checkpoint tag payload => Sys2Proof.Machine.execCheckpoint tag payload s
  | .readTrace tag payload => Sys2Proof.Machine.execReadTrace tag payload s
  | .thawTrace tag payload => Sys2Proof.Machine.execThawTrace tag payload s
  | .readRestart tag payload => Sys2Proof.Machine.execReadRestart tag payload s
  | .requestStop tag payload => Sys2Proof.Machine.execRequestStop tag payload s
  | .requestRestart tag payload => Sys2Proof.Machine.execRequestRestart tag payload s
  | .commitPolicy tag payload => Sys2Proof.Machine.execCommitPolicy tag payload s
  | .writeZone tag payload => Sys2Proof.Machine.execWriteZone tag payload s
  | .writeHeater tag payload => Sys2Proof.Machine.execWriteHeater tag payload s
  | .writeBudget tag payload => Sys2Proof.Machine.execWriteBudget tag payload s
  | .writeFan tag payload => Sys2Proof.Machine.execWriteFan tag payload s
  | .writeWatchdog tag payload => Sys2Proof.Machine.execWriteWatchdog tag payload s
  | .writeLadder tag payload => Sys2Proof.Machine.execWriteLadder tag payload s
  | .writeHostPower tag payload => Sys2Proof.Machine.execWriteHostPower tag payload s
  | .writeKeypad tag payload => Sys2Proof.Machine.execWriteKeypad tag payload s
  | .writeKey tag payload => Sys2Proof.Machine.execWriteKey tag payload s
  | .writeChord tag payload => Sys2Proof.Machine.execWriteChord tag payload s
  | .writeTrigger tag payload => Sys2Proof.Machine.execWriteTrigger tag payload s
  | .writeReport tag payload => Sys2Proof.Machine.execWriteReport tag payload s
  | .writeLink tag payload => Sys2Proof.Machine.execWriteLink tag payload s
  | .readSettings tag payload => Sys2Proof.Machine.execReadSettings tag payload s
  | .storeProfile tag payload => Sys2Proof.Machine.execStoreProfile tag payload s
  | .storeComplete writeOk => Sys2Proof.Machine.execStoreComplete writeOk s
  | .revertProfile tag payload => Sys2Proof.Machine.execRevertProfile tag payload s
  | .factorySettings tag payload => Sys2Proof.Machine.execFactorySettings tag payload s
  | .triggerControlEnable tag payload => Sys2Proof.Machine.execTriggerControlEnable tag payload s
  | .triggerControlDisable tag payload => Sys2Proof.Machine.execTriggerControlDisable tag payload s
  | .triggerControlRearm tag payload => Sys2Proof.Machine.execTriggerControlRearm tag payload s
  | .filterServiced tag payload => Sys2Proof.Machine.execFilterServiced tag payload s
  | .supervisorReset tag payload rstLow => Sys2Proof.Machine.execSupervisorReset tag payload s rstLow
  | .sampleRound raw supply order => Sys2Proof.Machine.execSampleRound raw supply order s
  | .climateBoundary hpsFirst => Sys2Proof.Machine.execClimateBoundary hpsFirst s
  | .slotEnd current order => Sys2Proof.Machine.execSlotEnd current order s
  | .fanMeasurement pulses cellOk => Sys2Proof.Machine.execFanMeasurement pulses cellOk s
  | .hostPwrGoodRise => Sys2Proof.Machine.execHostPwrGoodRise s
  | .hostPwrGoodFall => Sys2Proof.Machine.execHostPwrGoodFall s
  | .powerGoodTimeout => Sys2Proof.Machine.execPowerGoodTimeout s
  | .resetHoldExpiry => Sys2Proof.Machine.execResetHoldExpiry s
  | .resettingExpiry => Sys2Proof.Machine.execResettingExpiry s
  | .drainTimeout => Sys2Proof.Machine.execDrainTimeout s
  | .offTimeExpiry => Sys2Proof.Machine.execOffTimeExpiry s
  | .lockoutRetryExpiry => Sys2Proof.Machine.execLockoutRetryExpiry s
  | .graceExpiry => Sys2Proof.Machine.execGraceExpiry s
  | .stopDelayExpiry => Sys2Proof.Machine.execStopDelayExpiry s
  | .wakeTime => Sys2Proof.Machine.execWakeTime s
  | .leadComputation => Sys2Proof.Machine.execLeadComputation s
  | .preheatBegin => Sys2Proof.Machine.execPreheatBegin s
  | .warmTimeout => Sys2Proof.Machine.execWarmTimeout s
  | .bootTimeout => Sys2Proof.Machine.execBootTimeout s
  | .wdExpired => Sys2Proof.Machine.execWdExpired s
  | .stableTime => Sys2Proof.Machine.execStableTime s
  | .keyScan raws => Sys2Proof.Machine.execKeyScan raws s
  | .eventTake => Sys2Proof.Machine.execEventTake s
  | .armWindowExpiry u => Sys2Proof.Machine.execArmWindowExpiry u s
  | .svcTimerExpiry => Sys2Proof.Machine.execSvcTimerExpiry s
  | .rxdHighAgain => Sys2Proof.Machine.execRxdHighAgain s

end Sys2Proof.Machine
end

