-- ==== Sys2Proof/Safety.lean ====
section
/-! DEFINITION. What counts as a safe run, in the terms the statements use: the bounds that the manual
sets its queues and lists, and what they may hold together. -/

namespace Sys2Proof.Safety

open Sys2Proof.Machine

/-- The inbox holds at most 16 events (R149). -/
def InboxBounded (s : State) : Prop := s.tmx.inbox.length ≤ Config.inboxSize

/-- A queue of notices holds at most 16, with at most one CONDITION notice per condition and at most one
SHUTDOWN_REQUEST (R174). -/
structure NoticesOk (q : List Notice) : Prop where
  size : q.length ≤ Config.noticeSize
  shutdown : (q.filter Notice.isShutdown).length ≤ 1
  condition : ∀ c : Cond, (q.filter (Notice.isCondition c)).length ≤ 1

/-- KEQ's queue holds at most 32 records, and its free entries are never fewer than its open keys, none
of which is named twice (R140). -/
structure KeqOk (q : Keq) : Prop where
  size : q.queue.length ≤ Config.keyQueueSize
  reserve : q.openKeys.length ≤ q.free
  distinct : q.openKeys.Nodup

/-- The trace holds at most 16 entries, no two adjacent entries with the same code (R104). -/
structure RingOk (r : List TraceEntry) : Prop where
  size : r.length ≤ Config.traceSize
  adjacent : (r.map TraceEntry.code).IsChain (· ≠ ·)

/-- The record list holds at most 8 records, and a PENDING one is the newest (R94). -/
structure RecordsOk (rs : List RestartRecord) : Prop where
  size : rs.length ≤ Config.recordSize
  pending : ∀ r ∈ rs.dropLast, r.outcome ≠ .pending

/-- LNK's two slots hold no more than two requests and replies (R184). -/
def SlotsOk (l : Lnk) : Prop := l.used ≤ Config.slotCount

/-- A unit's count never exceeds its preset, and a unit is DISABLED exactly when its enabled is no
(R153). -/
structure UnitsOk (s : State) : Prop where
  count : ∀ u : TrigUnit, (s.tmx.units.get u).count ≤ (s.settings.trigger.get u).preset
  disabled : ∀ u : TrigUnit,
    (s.tmx.units.get u).state = .disabled ↔ (s.settings.trigger.get u).enabled = false

/-- Nothing but HPS, WEU, CPT, KEQ, TMX, CNU and LNK differs between two states: the reach of a change of
host state, of a failure and of a trigger's action on the host (R53, R88, R186). -/
structure OutsideKept (s t : State) : Prop where
  time : t.time = s.time
  settings : t.settings = s.settings
  zmon : t.zmon = s.zmon
  hsch : t.hsch = s.hsch
  afm : t.afm = s.afm
  ksu : t.ksu = s.ksu
  pst : t.pst = s.pst
  hold : t.hold = s.hold
  powerGood : t.powerGood = s.powerGood
  lastSent : t.lastSent = s.lastSent
  pending : t.pending = s.pending

/-! ### Events and latches -/

/-- The event has been posted (R149): it joined the inbox, before any others of the same command, or
was dropped by a full one with EVENTS_LOST latched. -/
def Posted (e : Event) (s t : State) : Prop :=
  if s.tmx.inbox.length < Config.inboxSize then (s.tmx.inbox ++ [e]) <+: t.tmx.inbox
  else t.tmx.inbox = s.tmx.inbox ∧ t.latched .eventsLost = true

/-- Every latch but EVENTS_LOST, which a full inbox sets (R149), is as it was but for those of `also`,
which are set; the live causes, the fault kinds and the SVC timer are as they were. -/
structure LatchesKept (also : List Cond) (s t : State) : Prop where
  kept : ∀ c : Cond, c ≠ .eventsLost → c ∉ also → t.latched c = s.latched c
  set : ∀ c ∈ also, t.latched c = true
  live : t.cnu.live = s.cnu.live
  kinds : t.cnu.kinds = s.cnu.kinds
  svcTimer : t.cnu.svcTimer = s.cnu.svcTimer

/-! ### Requests and replies -/

/-- The request waits and is the next one that LNK dispatches: nothing is SENDING, and it arrived first
(R185). -/
def Due (s : State) (kind tag : Byte) (payload : List Byte) : Prop :=
  s.lnk.sending = none ∧ s.lnk.held.head? = some ⟨kind, tag, payload⟩

/-- LNK once it has handed the request over and is sending the reply to it, KIND + 0x80, TAG, STATUS
and payload (R185), with what waits for the reply's end. -/
def replying (s : State) (kind tag : Byte) (st : Status) (payload : List Byte)
    (after : AfterReply) : Lnk :=
  { s.lnk with
    held := s.lnk.held.drop 1
    sending := some ⟨(kind + 0x80) :: tag :: st.code :: payload, after⟩ }

/-- LNK sending the reply, every other request discarded, for the host pins have changed (R186, R90). -/
def replyingAlone (s : State) (kind tag : Byte) (st : Status) (payload : List Byte) : Lnk :=
  { s.lnk with
    held := [], sending := some ⟨(kind + 0x80) :: tag :: st.code :: payload, .nothing⟩ }

/-- The request that a command hands to LNK for dispatch, for the rows that are requests (R185). -/
def requestOf : Instr → Option Request
  | .badKind kind tag p => some ⟨kind, tag, p⟩
  | .ping tag p => some ⟨0x01, tag, p⟩
  | .getStatus tag p => some ⟨0x02, tag, p⟩
  | .getConditions tag p => some ⟨0x03, tag, p⟩
  | .ackConditions tag p => some ⟨0x04, tag, p⟩
  | .fetchNotices tag p => some ⟨0x05, tag, p⟩
  | .readKeys tag p => some ⟨0x06, tag, p⟩
  | .kick tag p => some ⟨0x10, tag, p⟩
  | .checkpoint tag p => some ⟨0x11, tag, p⟩
  | .readTrace tag p => some ⟨0x12, tag, p⟩
  | .thawTrace tag p => some ⟨0x13, tag, p⟩
  | .readRestart tag p => some ⟨0x14, tag, p⟩
  | .requestStop tag p => some ⟨0x15, tag, p⟩
  | .requestRestart tag p => some ⟨0x16, tag, p⟩
  | .commitPolicy tag p => some ⟨0x17, tag, p⟩
  | .writeZone tag p | .writeHeater tag p | .writeBudget tag p | .writeFan tag p
  | .writeWatchdog tag p | .writeLadder tag p | .writeHostPower tag p | .writeKeypad tag p
  | .writeKey tag p | .writeChord tag p | .writeTrigger tag p | .writeReport tag p
  | .writeLink tag p => some ⟨0x20, tag, p⟩
  | .readSettings tag p => some ⟨0x21, tag, p⟩
  | .storeProfile tag p => some ⟨0x22, tag, p⟩
  | .revertProfile tag p => some ⟨0x23, tag, p⟩
  | .factorySettings tag p => some ⟨0x24, tag, p⟩
  | .triggerControlEnable tag p | .triggerControlDisable tag p | .triggerControlRearm tag p =>
    some ⟨0x30, tag, p⟩
  | .filterServiced tag p => some ⟨0x31, tag, p⟩
  | .supervisorReset tag p _ => some ⟨0x3F, tag, p⟩
  | .powerOnReset | .rstNAssert | .rstNRelease | .frameReceived _ | .frameGapTimeout | .linkReset
  | .replySent | .storeComplete _ | .sampleRound _ _ _ | .climateBoundary _ | .slotEnd _ _
  | .fanMeasurement _ _ | .hostPwrGoodRise | .hostPwrGoodFall | .powerGoodTimeout
  | .resetHoldExpiry | .resettingExpiry | .drainTimeout | .offTimeExpiry | .lockoutRetryExpiry
  | .graceExpiry | .stopDelayExpiry | .wakeTime | .leadComputation | .preheatBegin | .warmTimeout
  | .bootTimeout | .wdExpired | .stableTime | .keyScan _ | .eventTake | .armWindowExpiry _
  | .svcTimerExpiry | .rxdHighAgain => none

/-- The payload lengths that the catalogue allows for a KIND, but for those that carry settings, whose
length the group decides (R189, R190). -/
def allowedLengths (kind : Byte) : List Nat :=
  if kind = 0x02 ∨ kind = 0x11 ∨ kind = 0x14 ∨ kind = 0x21 ∨ kind = 0x30 then [2]
  else if kind = 0x04 then [4]
  else if kind = 0x10 then [0, 2]
  else if kind = 0x12 then [1]
  else if kind = 0x15 then [6]
  else [0]

/-! ### Status pages (R192) -/

/-- The `width` bytes of a page from `place` on are this value, high byte first (R190). -/
def Shows (page : List Byte) (place width value : Nat) : Prop :=
  (page.drop place).take width =
    (List.range width).reverse.map fun i => BitVec.ofNat 8 (value / 256 ^ i)

/-- A bit of the page's byte at `place`. -/
def ShowsBit (page : List Byte) (place bit : Nat) (b : Bool) : Prop :=
  (page.getD place 0).getLsbD bit = b

/-- An unsigned value in `width` bytes, all ones where it is absent (R190). -/
def orAbsent (width : Nat) (value : Option Nat) : Nat := value.getD (256 ^ width - 1)

/-- A signed value in 2 bytes, two's complement (R190). -/
def signed16 (x : Int) : Nat := (BitVec.ofInt 16 x).toNat

/-- A temperature in 2 bytes, -32768 where it is absent (R190). -/
def tempOrAbsent (x : Option Int) : Nat := signed16 (x.getD (-32768))

/-- Page 0: the host state, the stage and the watchdog (R192). -/
structure Page0Shows (s : State) (page : List Byte) : Prop where
  states : Shows page 2 1 s.hps.state.num ∧ Shows page 3 1 s.hps.prev.num
  stage : Shows page 4 1 s.hps.stage.num ∧ Shows page 5 4 (orAbsent 4 s.hps.stageTimer)
  clock : Shows page 9 2 s.hps.qualClock
  warmUp : ShowsBit page 11 0 s.hps.warmTimeout ∧ ShowsBit page 11 4 s.hps.pendingOn
  stopFlags : ShowsBit page 11 1 s.hps.stopRequest.isSome ∧ ShowsBit page 11 2 s.hps.wakeOnTrigger ∧
    ShowsBit page 11 3 s.hps.preheat
  pins : ShowsBit page 11 5 s.hostPwrEn ∧ ShowsBit page 11 6 s.hostRstN ∧ ShowsBit page 11 7 s.powerGood
  stop : Shows page 12 1 s.hps.stopCause.num ∧
    Shows page 13 1 (orAbsent 1 (s.hps.stopZone.map Four.num)) ∧
    Shows page 14 1 s.hps.destination.host.num
  wake : Shows page 15 4 (orAbsent 4 (s.hps.wakeAt.map fun w =>
    if (w - s.time.sec).toNat ≤ 604800 then (w - s.time.sec).toNat else 0))
  lead : Shows page 19 2 s.hps.lead
  retry : Shows page 21 4 (orAbsent 4 s.hps.retryTimer)
  phase : Shows page 25 1 s.weu.phase.num
  timeLeft : Shows page 26 4 (orAbsent 4
    (match s.weu.phase with
     | .off => none
     | .boot => s.weu.bootTimer.map (s.weu.bootLimit - ·)
     | .windowed => s.weu.kickTimer.map (s.weu.timeoutInForce - ·)))
  window : Shows page 30 4 s.weu.windowInForce
  early : Shows page 34 1 s.weu.earlyCount
  ladder : Shows page 35 1 s.weu.step ∧ Shows page 36 1 s.weu.attempts ∧
    Shows page 37 1 s.settings.ladder.stepCount
  stable : Shows page 38 2
    (match s.weu.stable with
     | .none => 0xFFFF
     | .done => 0xFFFE
     | .counting sec _ => sec)
  records : Shows page 40 1 s.weu.records.length ∧
    Shows page 41 1 (orAbsent 1 (s.weu.records.getLast?.map (·.outcome.num)))
  flags : ShowsBit page 42 0 s.weu.reportDue ∧ ShowsBit page 42 1 s.weu.policyLock

/-- Page 1: the period, the heaters, the fan, the zones and the supply (R34, R49, R192). -/
structure Page1Shows (s : State) (page : List Byte) : Prop where
  reserves : ShowsBit page 2 0 s.hsch.hostReserve ∧ ShowsBit page 2 1 s.hsch.fanReserve ∧
    ShowsBit page 2 2 s.hsch.shed
  states : ShowsBit page 2 3 s.afm.running ∧ ShowsBit page 2 4 s.afm.stalled ∧
    ShowsBit page 2 5 s.afm.clogged ∧ ShowsBit page 2 6 s.zmon.supplyLow
  period : Shows page 3 2 s.hsch.avail ∧ Shows page 5 2 s.hsch.energy ∧ Shows page 7 2 s.hsch.unspent
  heater : ∀ i : Heater,
    let h := s.hsch.heaters.get i
    let place := 9 + 7 * i.num
    Shows page place 2 (tempOrAbsent (if h.fromError then h.target else none)) ∧
    Shows page (place + 2) 1 h.dem ∧ Shows page (place + 3) 1 h.g ∧
    Shows page (place + 4) 2 h.lastCurrent ∧
    Shows page (place + 6) 1 (h.output.toNat + 2 * (s.cnu.kinds.get i).num)
  duty : Shows page 30 1 s.afm.duty ∧ Shows page 31 1 s.afm.reason.num
  speed : Shows page 32 2 s.afm.speed ∧ Shows page 34 2 (orAbsent 2 s.afm.reference)
  learn : Shows page 36 1 s.afm.learn.num ∧ Shows page 37 1 s.afm.readings
  zone : ∀ z : Zone,
    let r := s.zmon.zones.get z
    let place := 38 + 5 * z.num
    Shows page place 2 (tempOrAbsent (s.zoneTemp z)) ∧
    Shows page (place + 2) 1 ((!r.valid).toNat + 2 * r.alarm.num) ∧
    Shows page (place + 3) 2 r.inWindow
  supply : Shows page 58 2 s.zmon.supply

/-- Page 2, part 0: the keypad summary, the key event queue and the link (R132, R146, R192). -/
structure KeypadPageShows (s : State) (page : List Byte) : Prop where
  causes : ShowsBit page 2 0 s.ksu.condensation ∧ ShowsBit page 2 1 s.ksu.frost ∧
    ShowsBit page 2 2 s.ksu.cover ∧
    ShowsBit page 2 3 (s.ksu.condensation || s.ksu.frost || s.ksu.cover)
  coverHold : Shows page 3 2 (orAbsent 2 (s.ksu.coverFall.map fun t =>
    s.settings.keypad.coverHold - elapsed s.time.ms t))
  recalRef : Shows page 5 2 (tempOrAbsent s.ksu.recalRef)
  quarantined : Shows page 7 1 (s.ksu.keys.countP (·.state == .quarantined))
  chord : ∀ i : Chord,
    ShowsBit page 8 i.num (s.ksu.chords.get i).spent ∧
    Shows page (9 + 2 * i.num) 2
      (match (s.ksu.chords.get i).start with
       | some t => min 65535 (elapsed s.time.ms t)
       | none => 0)
  queue : Shows page 21 1 s.keq.queue.length ∧ Shows page 22 1 (32 - s.keq.queue.length)
  openKeys : Shows page 23 1 s.keq.openKeys.length ∧
    Shows page 24 3 (s.keq.openKeys.map (2 ^ ·)).sum
  lost : Shows page 27 1 s.keq.lost
  rate : Shows page 28 1 s.lnk.rate.num
  counts : Shows page 29 2 s.lnk.gapCount ∧ Shows page 31 2 s.lnk.lengthCount ∧
    Shows page 33 2 s.lnk.checkCount ∧ Shows page 35 2 s.lnk.lineCount ∧
    Shows page 37 2 s.lnk.overrunCount ∧ Shows page 39 2 s.lnk.breakCount

/-- Page 2, part 1: the trigger units (R164, R192). -/
structure UnitsPageShows (s : State) (page : List Byte) : Prop where
  inbox : Shows page 2 1 s.tmx.inbox.length
  unit : ∀ u : TrigUnit,
    let r := s.tmx.units.get u
    let place := 3 + 6 * u.num
    Shows page place 1 (128 * (s.settings.trigger.get u).enabled.toNat + r.state.num) ∧
    Shows page (place + 1) 1 r.count ∧ Shows page (place + 2) 2 r.fires ∧
    Shows page (place + 4) 2 (orAbsent 2 r.window)

/-- Page 2, parts 2 to 6: four keys each, a key that is not fitted as IDLE with raw 0, no baseline and
delta 0 (R192). -/
def PadsPageShows (part : Nat) (s : State) (page : List Byte) : Prop :=
  ∀ j < 4,
    let k := 4 * (part - 2) + j
    let r := s.ksu.key k
    let place := 2 + 7 * j
    if k < s.settings.keypad.keysFitted then
      Shows page place 1 r.state.num ∧ Shows page (place + 1) 2 r.raw ∧
      Shows page (place + 3) 2 (orAbsent 2 r.baseline) ∧ Shows page (place + 5) 2 (signed16 r.delta)
    else
      Shows page place 1 0 ∧ Shows page (place + 1) 2 0 ∧ Shows page (place + 3) 2 0xFFFF ∧
      Shows page (place + 5) 2 0

/-- The fields of a status page at their places (R192). -/
def PageShows (page part : Nat) (s : State) (bytes : List Byte) : Prop :=
  if page = 0 then Page0Shows s bytes
  else if page = 1 then Page1Shows s bytes
  else if part = 0 then KeypadPageShows s bytes
  else if part = 1 then UnitsPageShows s bytes
  else PadsPageShows part s bytes

/-! ### Traces, records and notices on the link (R193) -/

/-- The entries of a trace that its page 0 or 1 shows: the oldest eight, or the entries from the ninth on
(R97, R111). -/
def pageEntries (page : Nat) (trace : List TraceEntry) : List TraceEntry :=
  if page = 0 then trace.take 8 else trace.drop 8

/-- A READ_TRACE page (R111, R193). -/
structure TracePageShows (page : Nat) (c : Cpt) (bytes : List Byte) : Prop where
  size : bytes.length = 11 + 6 * (pageEntries page c.ring).length
  state : Shows bytes 0 1 (128 * c.frozen.toNat + c.ring.length)
  appends : Shows bytes 1 2 c.appends.toNat
  frozenAt : Shows bytes 3 4 (if c.frozen then (c.frozenAt.getD 0).toNat else 0)
  base : Shows bytes 7 4 (((pageEntries page c.ring).getLast?.map TraceEntry.time).getD 0).toNat
  entry : ∀ i e, (pageEntries page c.ring)[i]? = some e →
    ∀ newest, (pageEntries page c.ring).getLast? = some newest →
      Shows bytes (11 + 6 * i) 2 e.code.toNat ∧ Shows bytes (13 + 6 * i) 1 e.count ∧
      Shows bytes (14 + 6 * i) 3 (min 16777215 (newest.time - e.time).toNat)

/-- The header of a restart record, READ_RESTART part 0 (R97, R193). -/
structure RestartHeaderShows (index listed : Nat) (r : RestartRecord) (bytes : List Byte) : Prop where
  size : bytes.length = 25
  place : Shows bytes 0 1 index ∧ Shows bytes 1 1 0 ∧ Shows bytes 2 1 listed
  reason : Shows bytes 3 1 r.reason.num ∧ Shows bytes 4 1 (orAbsent 1 (r.trigUnit.map Six.num))
  position : Shows bytes 5 1 r.step ∧ Shows bytes 6 1 r.attempt
  action : Shows bytes 7 1 r.action.num ∧ Shows bytes 8 2 (orAbsent 2 r.offTime)
  time : Shows bytes 10 4 r.time.toNat
  temperatures : Shows bytes 14 2 (tempOrAbsent r.board) ∧ Shows bytes 16 2 (tempOrAbsent r.front)
  outcome : Shows bytes 18 1 r.outcome.num
  trace : Shows bytes 19 1 r.trace.length
  frozenAt : Shows bytes 20 1 r.frozenAt.isSome.toNat ∧
    Shows bytes 21 4 (r.frozenAt.getD 0).toNat

/-- READ_RESTART part 1 or 2: a page of the record's trace (R97, R193). -/
structure RestartTraceShows (index part : Nat) (r : RestartRecord) (bytes : List Byte) : Prop where
  size : bytes.length = 2 + 7 * (pageEntries (part - 1) r.trace).length
  place : Shows bytes 0 1 index ∧ Shows bytes 1 1 part
  entry : ∀ i e, (pageEntries (part - 1) r.trace)[i]? = some e →
    Shows bytes (2 + 7 * i) 2 e.code.toNat ∧ Shows bytes (4 + 7 * i) 4 e.time.toNat ∧
    Shows bytes (8 + 7 * i) 1 e.count

/-- A key record in READ_KEYS (R193). -/
structure KeyRecordShows (r : KeyEvent) (bytes : List Byte) : Prop where
  size : bytes.length = 5
  key : Shows bytes 0 1 r.key
  kind : Shows bytes 1 1
    (match r.kind with
     | .press => 0
     | .hold _ => 1
     | .release suppressed stuck => 2 + 64 * suppressed.toNat + 128 * stuck.toNat)
  time : Shows bytes 2 2 r.time.toNat
  times : Shows bytes 4 1
    (match r.kind with
     | .hold n => n
     | .press | .release _ _ => 0)

/-- A notice in FETCH_NOTICES, the bytes after its fields 0 (R193). -/
structure NoticeShows (n : Notice) (bytes : List Byte) : Prop where
  size : bytes.length = 13
  time : Shows bytes 1 4 n.time.toNat
  body :
    match n.body with
    | .condition c => Shows bytes 0 1 0 ∧ Shows bytes 5 1 c.id ∧ Shows bytes 6 7 0
    | .trigger u e =>
      Shows bytes 0 1 1 ∧ Shows bytes 5 1 u.num ∧ Shows bytes 6 1 e.cls.num ∧
      Shows bytes 7 1 e.index.toNat ∧ Shows bytes 8 4 (BitVec.ofInt 32 e.arg).toNat ∧
      Shows bytes 12 1 0
    | .shutdownRequest cause zone grace =>
      Shows bytes 0 1 2 ∧ Shows bytes 5 1 cause.num ∧
      Shows bytes 6 1 (orAbsent 1 (zone.map Four.num)) ∧ Shows bytes 7 2 grace ∧ Shows bytes 9 4 0
    | .operationDone op result value =>
      Shows bytes 0 1 3 ∧ Shows bytes 5 1 op.num ∧ Shows bytes 6 1 result.num ∧
      Shows bytes 7 2 (orAbsent 2 value) ∧ Shows bytes 9 4 0
    | .restartReport reason step action =>
      Shows bytes 0 1 4 ∧ Shows bytes 5 1 reason.num ∧ Shows bytes 6 1 step ∧
      Shows bytes 7 1 action.num ∧ Shows bytes 8 5 0

/-! ### What a change of host state leaves (R53, R54, R67, R71) -/

/-- The host's reset or supply has been taken away: outside the host blocks, and in the trigger units
and the policy lock, nothing differs; the watchdog is off, the key queue and the notice queue are
empty (R79, R145, R175). -/
structure HostLost (s t : State) : Prop where
  outside : OutsideKept s t
  units : t.tmx.units = s.tmx.units
  lock : t.weu.policyLock = s.weu.policyLock
  phase : t.weu.phase = .off
  kickTimer : t.weu.kickTimer = none
  keys : t.keq = .initial t.hps.state
  notices : t.cnu.notices = []
  rst : t.hostRstN = true

/-- A gating zone passes (R55): VALID and long enough in its window, or INVALID and blind long enough. -/
def Passes (c : ZoneSettings) (blindSoak : Nat) (z : ZoneRec) : Prop :=
  (z.valid = true ∧ z.filtered ≠ none ∧ c.soak ≤ z.inWindow ∧ 1 ≤ z.inWindow) ∨
  (z.valid = false ∧ blindSoak ≤ z.blind)

/-- Admission is met (R55): every gating zone passes, SUPPLY_LOW's live cause is absent, and at least one
gating zone is VALID with a present filtered temperature. -/
def Admissible (c : Settings) (zones : PerFour ZoneRec) (supplyLow : Bool) : Prop :=
  (∀ z : Zone, (c.zone.get z).gating = true →
    Passes (c.zone.get z) c.hostPower.blindSoak (zones.get z)) ∧
  supplyLow = false ∧
  ∃ z : Zone, (c.zone.get z).gating = true ∧ (zones.get z).valid = true ∧ (zones.get z).filtered ≠ none

/-- The host has entered QUALIFYING with a warm-up begun afresh, and, where admission is met already,
has gone on to POWERING with a power-on pending (R54, R56). -/
structure Requalified (s t : State) : Prop where
  clock : t.hps.qualClock = 0
  timeout : t.hps.warmTimeout = false
  admitted : Admissible s.settings s.zmon.zones (s.live .supplyLow) →
    t.hps.state = .powering ∧ t.hps.prev = .qualifying ∧ t.hps.stage = .pending ∧ t.hps.pendingOn = true
  waiting : ¬ Admissible s.settings s.zmon.zones (s.live .supplyLow) →
    t.hps.state = .qualifying ∧ t.hps.prev = s.hps.state ∧ t.hps.stage = .noStage

/-- lead_z of a gating zone, written out from R73: the seconds its shortfall takes at lead_rate, with its
soak, or blind_soak where it has no valid temperature. -/
def leadOfZone (c : ZoneSettings) (blindSoak : Nat) (z : ZoneRec) : Nat :=
  match z.valid, z.filtered with
  | true, some t =>
    let shortfall := max 0 (c.admitLow - t)
    if 0 < shortfall then (shortfall * c.leadRate / 10).toNat + c.soak else 0
  | true, none | false, _ => blindSoak

/-- The preheat lead, written out from R73: min(lead_max, the largest lead_z of the gating zones), 0 with no
gating zone. -/
def leadOf (s : State) : Nat :=
  let gating := Four.all.filter fun z => (s.settings.zone.get z).gating
  min s.settings.hostPower.leadMax ((gating.map fun z =>
    leadOfZone (s.settings.zone.get z) s.settings.hostPower.blindSoak (s.zmon.zones.get z)).foldl max 0)

/-- A stop has ended: the supply is removed and the host is in the destination, with the stop record
cleared, or with the wake set up from the stop request (R67, R69, R71). -/
structure StopEnded (s t : State) : Prop where
  lost : HostLost s t
  en : t.hostPwrEn = false
  destination :
    match s.hps.destination with
    | .off =>
      t.hps.state = .off ∧ t.hps.prev = s.hps.state ∧ t.hps.stopCause = .none ∧
        t.hps.stopZone = none ∧ t.hps.stopRequest = none
    | .qualifying =>
      Requalified s t ∧ t.hps.stopCause = .none ∧ t.hps.stopZone = none ∧ t.hps.stopRequest = none
    | .suspended =>
      t.hps.state = .suspended ∧ t.hps.prev = s.hps.state ∧ t.hps.preheat = false ∧
        t.hps.stopRequest = s.hps.stopRequest ∧
        ∀ q, s.hps.stopRequest = some q →
          t.hps.wakeOnTrigger = q.wakeOnTrigger ∧
          (q.wakeDelay = 0 → t.hps.wakeAt = none) ∧
          (q.wakeDelay ≠ 0 →
            t.hps.wakeAt = some (s.time.sec + BitVec.ofNat 32 q.wakeDelay) ∧
            t.hps.lead = computeLead s ∧ t.hps.leadTimer = 60)

/-- A checkpoint code that a kick may carry has been handed to CPT (R104, R106). -/
def CodeHanded (code : Option Word16) (s t : State) : Prop :=
  t.cpt.frozen = s.cpt.frozen ∧ t.cpt.frozenAt = s.cpt.frozenAt ∧
  match code with
  | none => t.cpt.ring = s.cpt.ring ∧ t.cpt.appends = s.cpt.appends
  | some c =>
    if s.cpt.frozen then t.cpt.ring = s.cpt.ring ∧ t.cpt.appends = s.cpt.appends
    else
      t.cpt.ring = (takeInRing c s.time.ms s.cpt.ring).1 ∧
      t.cpt.appends = (if (takeInRing c s.time.ms s.cpt.ring).2 then s.cpt.appends else s.cpt.appends + 1)

/-! ### Supervisor reset (R200, R201) -/

/-- The blocks that a supervisor reset reinitializes have their reset values, with the settings reloaded
but for those of the retained owners; the timebase, HPS, WEU and CPT go on; of the live causes only
WARM_TIMEOUT's and LOCKOUT's remain; a store in progress is abandoned (R179, R200, R201). -/
structure Reinitialized (s t : State) : Prop where
  time : t.time = s.time
  hps : t.hps = s.hps
  weu : t.weu = s.weu
  cpt : t.cpt = s.cpt
  powerGood : t.powerGood = s.powerGood
  pending : t.pending = s.pending
  settings : t.settings =
    { s.pst.content?.getD Settings.factory with
      watchdog := s.settings.watchdog, ladder := s.settings.ladder
      hostPower := s.settings.hostPower }
  zmon : t.zmon = .initial
  hsch : t.hsch = .initial t.settings
  afm : t.afm = .initial s.pst.cell
  ksu : t.ksu = .initial
  keq : t.keq.queue = [] ∧ t.keq.openKeys = [] ∧ t.keq.lost = 0
  tmx : t.tmx = .initial t.settings
  live : ∀ c : Cond, t.live c = (s.live c && (c == .warmTimeout || c == .lockout))
  kinds : t.cnu.kinds = s.cnu.kinds
  svcTimer : t.cnu.svcTimer = none
  overflow : t.cnu.overflow = false
  lnk : t.lnk = .initial t.settings t.lnk.lastReset
  pst : t.pst = { s.pst with storing := none }

/-! ### Failures (R88, R89, R94) -/

/-- The newest restart record is of this reason, with the ladder position of `t` and the trace, the
freeze time and the temperatures of `s` (R94). -/
def NewestRecord (reason : Reason) (unit : Option TrigUnit) (action : RecordAction)
    (outcome : RecordOutcome) (s t : State) : Prop :=
  ∃ r, t.weu.records.getLast? = some r ∧ r.reason = reason ∧ r.trigUnit = unit ∧
    r.step = t.weu.step ∧ r.attempt = t.weu.attempts ∧ r.action = action ∧ r.outcome = outcome ∧
    r.offTime = (if action = .cycle then some t.hps.offTime else none) ∧
    r.time = s.time.sec ∧ r.trace = s.cpt.ring ∧
    r.frozenAt = (if s.cpt.frozen then s.cpt.frozenAt else none) ∧
    r.board = s.zoneTemp .n1 ∧ r.front = s.zoneTemp .n0

/-- HPS has performed an order (R61): RESETTING with its pulse; CYCLING in DRAIN, or in OFF_TIME where
HOST_PWR_GOOD is low already (R63); LOCKED_OUT with its retry timer and LOCKOUT latched (R64). A stop
request is discarded. -/
def Performed (o : Order) (s t : State) : Prop :=
  t.hps.prev = s.hps.state ∧ t.hps.stopRequest = none ∧
  match o with
  | .reset => t.hps.state = .resetting ∧ t.hps.stageTimer = some s.settings.hostPower.resetPulse
  | .cycle off =>
    t.hps.state = .cycling ∧ t.hps.offTime = off ∧
      (if s.powerGood then t.hps.stage = .drain ∧ t.hps.stageTimer = some 5000
       else t.hps.stage = .offTime ∧ t.hps.stageTimer = some (off * 1000))
  | .lockout =>
    t.hps.state = .lockedOut ∧ t.latched .lockout = true ∧ t.live .lockout = true ∧
      t.hps.retryTimer =
        (if s.settings.hostPower.lockoutRetry = 0 then none
         else some (s.settings.hostPower.lockoutRetry * 60))

/-- The failure has been placed on the ladder and its order performed (R88, R89): the attempts go up
while the step has room, else the next step is taken with one attempt, else the host is locked out with
the position left as it stands. A POWER_FAIL always cycles. The trace has gone into the record (R109),
and a restart report is due (R96). -/
def Escalated (reason : Reason) (unit : Option TrigUnit) (s t : State) : Prop :=
  let l := s.settings.ladder
  let reached (step attempts : Nat) : Prop :=
    t.weu.step = step ∧ t.weu.attempts = attempts ∧
    (if reason = .powerFail ∨ (l.step step).action = .cycle then
       Performed (.cycle (l.step step).offTime) s t ∧ NewestRecord reason unit .cycle .pending s t
     else Performed .reset s t ∧ NewestRecord reason unit .reset .pending s t)
  t.cpt.ring = [] ∧ t.cpt.frozen = false ∧ t.weu.reportDue = true ∧
  (if s.weu.attempts < (l.step s.weu.step).attempts then reached s.weu.step (s.weu.attempts + 1)
   else if s.weu.step + 1 < l.stepCount then reached (s.weu.step + 1) 1
   else
     t.weu.step = s.weu.step ∧ t.weu.attempts = s.weu.attempts ∧ Performed .lockout s t ∧
       NewestRecord reason unit .lockout .lockout s t)

/-! ### Invariants of the host supervision and the keypad -/

/-- Each live cause is present exactly while its owner's state says so (R167: R4, R12, R44, R45, R57, R64,
R125, R126), no event condition has one, and a condition whose live cause is present is latched (R168,
R170). -/
structure LiveCausesOk (s : State) : Prop where
  sensorFault : ∀ z : Zone, s.live (.sensorFault z) = !(s.zmon.zones.get z).valid
  warmTimeout : s.live .warmTimeout = (s.hps.state == .qualifying && s.hps.warmTimeout)
  supplyLow : s.live .supplyLow = s.zmon.supplyLow
  fanStall : s.live .fanStall = s.afm.stalled
  filterClog : s.live .filterClog = s.afm.clogged
  lockout : s.live .lockout = (s.hps.state == .lockedOut)
  keyStuck : s.live .keyStuck = s.ksu.keys.any (·.state == .quarantined)
  suppressed : s.live .suppressed = (s.ksu.condensation || s.ksu.frost || s.ksu.cover)
  event : ∀ c : Cond, c.isLive = false → s.live c = false
  latched : ∀ c : Cond, s.live c = true → s.latched c = true

/-- A power-on is pending exactly in POWERING's stage PENDING (R56, R58). -/
def PowerOnPendingOk (s : State) : Prop :=
  s.hps.pendingOn = (s.hps.state == .powering && s.hps.stage == .pending)

/-- CPT, KEQ and CNU see the host state that HPS is in (R53, R110, R144, R175); outside RUNNING and
STOPPING KEQ holds nothing (R145); while the host is not listening, and from the beginning of a supervisor
reset to its end, CNU's queue is empty (R177, R200). -/
structure HostSeenOk (s : State) : Prop where
  cpt : s.cpt.seen = s.hps.state
  keq : s.keq.seen = s.hps.state
  cnu : s.cnu.seen = s.hps.state
  keys : s.hps.state ≠ .running → s.hps.state ≠ .stopping →
    s.keq.queue = [] ∧ s.keq.openKeys = [] ∧ s.keq.lost = 0
  notices : s.hold = true ∨ s.hps.state.listening = false → s.cnu.notices = [] ∧ s.cnu.overflow = false

/-- The conditions marked Lamp (R167). -/
def lampConditions : List Cond :=
  [.sensorFault .n0, .sensorFault .n1, .sensorFault .n2, .sensorFault .n3, .heaterFault .n0,
   .heaterFault .n1, .heaterFault .n2, .warmTimeout, .supplyLow, .fanStall, .filterClog, .lockout]

/-- A ladder within its ranges (R100). -/
structure LadderOk (l : LadderSettings) : Prop where
  low : 1 ≤ l.stepCount
  high : l.stepCount ≤ 4
  limits : ∀ i : Four, 1 ≤ (l.steps.get i).attempts

/-- The working ladder, and those of the image and of a snapshot, are within their ranges, and the
position stands on the working one with its attempts within their limit (R88, R100). -/
structure PositionOk (s : State) : Prop where
  working : LadderOk s.settings.ladder
  image : ∀ c, s.pst.content? = some c → LadderOk c.ladder
  snapshot : ∀ x, s.pst.storing = some x → LadderOk x.snapshot.ladder
  step : s.weu.step < s.settings.ladder.stepCount
  attempts : s.weu.attempts ≤ (s.settings.ladder.step s.weu.step).attempts

/-- The pad has its twenty records; while suppression is active none of them is held (R129); between scans
no key is marked due (R118, R121); a key that is not fitted is IDLE with no baseline, and a key with no
baseline is IDLE (R114, R133). -/
structure PadOk (s : State) : Prop where
  size : s.ksu.keys.length = Config.keyCount
  noneHeld : s.ksu.suppressed = true → ∀ r ∈ s.ksu.keys, r.state.held = false
  noneDue : ∀ r ∈ s.ksu.keys, r.due = false
  unfitted : ∀ k, s.settings.keypad.keysFitted ≤ k → (s.ksu.key k).state = .idle ∧
    (s.ksu.key k).baseline = none
  unmeasured : ∀ r ∈ s.ksu.keys, r.baseline = none → r.state = .idle

/-! ### Scans -/

/-- The event has been posted by the command, or was dropped by a full inbox with EVENTS_LOST latched
(R149), wherever it stands among the command's others. -/
def Told (e : Event) (t : State) : Prop := e ∈ t.tmx.inbox ∨ t.latched .eventsLost = true

/-- KEY_RELEASE of key `k` with the time it was held, limited to 65535 (R122, R124, R128). -/
def releaseEvent (s : State) (k : Nat) : Event :=
  ⟨.keyRelease, BitVec.ofNat 8 k, (min 65535 (elapsed s.time.ms (s.ksu.key k).pressTime) : Nat)⟩

/-- The re-take that is due names a key in this state (R119, R120). -/
def Retaken (due : Retake) (st : KeyState) : Prop :=
  (st = .idle ∧ due ≠ .none) ∨ (st = .pendingPress ∧ due = .allKeys)

/-- The key is PENDING_PRESS or PRESSED after step 4 of a scan that measures `raw` (R118): it is counted by
the cover test (R127). -/
def countsForCover (c : KeypadSettings) (due : Retake) (raw : Nat) (r : KeyRec) : Bool :=
  match r.baseline with
  | none => false
  | some b =>
    match r.state with
    | .idle => decide (raw + c.touchThr ≤ b) && due == .none
    | .pendingPress => decide (raw + c.touchThr ≤ b) && due != .allKeys
    | .pressed | .pendingRelease => decide (raw + c.releaseThr ≤ b)
    | .quarantined => false

/-- The cover count of a scan (R127). -/
def coverCountOf (raws : List Nat) (s : State) : Nat :=
  ((List.range s.settings.keypad.keysFitted).filter fun k =>
    countsForCover s.settings.keypad s.ksu.retake (raws.getD k 0) (s.ksu.key k)).length

/-- The key is held after step 4 of a scan that measures `raw` against its baseline `b` (R118): its delta is
at or above release_thr, or its release run is not yet complete. -/
def HeldOn (c : KeypadSettings) (raw b : Nat) (r : KeyRec) : Prop :=
  raw + c.releaseThr ≤ b ∨ (if r.state = .pressed then 1 else r.releaseRun + 1) < c.releaseCount

/-- The keypad settings have the ranges that a scan relies on (R133). -/
structure ScanRanges (c : KeypadSettings) : Prop where
  fitted : c.keysFitted ≤ Config.keyCount
  touch : 1 ≤ c.touchThr
  release : 1 ≤ c.releaseThr
  order : c.releaseThr ≤ c.touchThr

/-- Suppression has started with this cause (R128): no key is held or pending, the held ones told with
KEY_RELEASE and closed at KEQ; every chord's start time is none; SUPPRESSED is latched with its live cause,
and SUPPRESS(cause, 1) told. That the recal reference stays, no recalibration test being made at that moment,
is DEDUCED (log entry 22). -/
structure SuppressionStarted (cause : Byte) (s t : State) : Prop where
  keys : ∀ k < Config.keyCount, (t.ksu.key k).state = .idle ∨ (t.ksu.key k).state = .quarantined
  told : ∀ k < Config.keyCount, (s.ksu.key k).state.held = true → Told (releaseEvent s k) t
  closed : s.keq.seen.takesKeys = true → ∀ k < Config.keyCount, (s.ksu.key k).state.held = true →
    k ∉ t.keq.openKeys
  chords : ∀ i : Chord, (t.ksu.chords.get i).start = none
  recalRef : t.ksu.recalRef = s.ksu.recalRef
  latched : t.latched .suppressed = true
  live : t.live .suppressed = true
  event : Told ⟨.suppress, cause, 1⟩ t

/-- Suppression has ended with this cause (R130): SUPPRESSED's live cause is absent, SUPPRESS(cause, 0) is
told, an ALL_KEYS re-take is due, and Z0's temperature is the recal reference where there is one. -/
structure SuppressionEnded (cause : Byte) (s t : State) : Prop where
  live : t.live .suppressed = false
  event : Told ⟨.suppress, cause, 0⟩ t
  retake : t.ksu.retake = .allKeys
  recalRef : t.ksu.recalRef =
    (match t.zoneTemp .n0 with
     | some x => some x
     | none => s.ksu.recalRef)

/-- What a scan leaves as it is: all but KSU, KEQ, the inbox and CNU (R115, R132). -/
def ScanReach (s t : State) : Prop :=
  t = { s with ksu := t.ksu, keq := t.keq, tmx := { s.tmx with inbox := t.tmx.inbox }, cnu := t.cnu }

/-! ### Settings -/

/-- The fields fit their 4 signed bytes on the link (R190). -/
def OnWire (fields : List Int) : Prop :=
  ∀ x ∈ fields, -2147483648 ≤ x ∧ x ≤ 2147483647

/-- The thirteen rows of WRITE_SETTINGS with their groups (R190). -/
def writeRows : List (Nat × (Byte → List Byte → Instr)) :=
  [(1, .writeZone), (2, .writeHeater), (3, .writeBudget), (4, .writeFan), (5, .writeWatchdog),
   (6, .writeLadder), (7, .writeHostPower), (8, .writeKeypad), (9, .writeKey), (10, .writeChord),
   (11, .writeTrigger), (12, .writeReport), (13, .writeLink)]

/-- No field of a group's write lies outside an enumerated set or a refused set of keys (R188, R191). -/
def taken (group : Nat) (fields : List Int) : Bool :=
  match group with
  | 1 => (zoneOf fields).isSome
  | 2 => (heaterOf fields).isSome
  | 3 => (budgetOf fields).isSome
  | 4 => (fanOf fields).isSome
  | 5 => (watchdogOf fields).isSome
  | 6 => (ladderOf fields).isSome
  | 7 => (hostPowerOf fields).isSome
  | 8 => (keypadOf fields).isSome
  | 9 => (keyOf fields).isSome
  | 10 => (chordOf fields).isSome
  | 11 => (triggerOf fields).isSome
  | 12 => (reportOf fields).isSome
  | 13 => (linkOf fields).isSome
  | _ => false

/-! ### What a write makes of its fields

The effective settings of a write, field by field, for each group: an enumerated field names its value by
its position in the settings table's list (R190), and a numeric one is limited to its range (R188), with
the adjustments between fields of the group's own rule. A write of other fields is refused. -/

/-- A written field limited to its range: raised to the lower end, or lowered to the upper (R15, R188). -/
def limited (lo hi x : Int) : Int := if x < lo then lo else if hi < x then hi else x

/-- A written temperature limited to its range (00_scope.md, Units). -/
def limitedTemp (x : Int) : Int := limited (-550) 1250 x

/-- The field names this value by its position in the list, counting from 0 (R190). -/
def Names {α : Type} (values : List α) (x : Int) (a : α) : Prop := 0 ≤ x ∧ values[x.toNat]? = some a

/-- yes is 1 and no is 0 (R190). -/
def YesNo (x : Int) (b : Bool) : Prop := Names [false, true] x b

/-- The actions of a ladder step and of a requested restart, by position (R99, R100). -/
def StepNamed (x : Int) (a : StepAction) : Prop := Names [.reset, .cycle] x a

/-- ZONE (R15). -/
def ZoneTaken (written : List Int) (c : ZoneSettings) : Prop :=
  match written with
  | [idle, warm, hold, gain, low, high, gating, soak, floor, ceiling, crit, rate] =>
    c.idleTarget = limitedTemp idle ∧ c.warmTarget = limitedTemp warm ∧
    c.holdTarget = limitedTemp hold ∧ (c.gain : Int) = limited 1 255 gain ∧
    c.admitLow = limitedTemp low ∧
    c.admitHigh = (if limitedTemp high < c.admitLow then c.admitLow else limitedTemp high) ∧
    YesNo gating c.gating ∧ (c.soak : Int) = limited 0 600 soak ∧
    c.floor = (if 1230 < limitedTemp floor then 1230 else limitedTemp floor) ∧
    c.ceiling = (if limitedTemp ceiling < c.floor + 20 then c.floor + 20 else limitedTemp ceiling) ∧
    c.crit = (if limitedTemp crit < c.ceiling then c.ceiling else limitedTemp crit) ∧
    (c.leadRate : Int) = limited 0 3600 rate
  | _ => False

/-- HEATER: an i_max below i_min is raised to it (R35). -/
def HeaterTaken (written : List Int) (c : HeaterSettings) : Prop :=
  match written with
  | [enabled, rating, rank, fallback, low, high] =>
    YesNo enabled c.enabled ∧ (c.rating : Int) = limited 1 150 rating ∧
    (c.rank : Int) = limited 1 3 rank ∧ (c.fallback : Int) = limited 0 32 fallback ∧
    (c.iMin : Int) = limited 0 5000 low ∧
    (c.iMax : Int) = (if limited 0 5000 high < c.iMin then (c.iMin : Int) else limited 0 5000 high)
  | _ => False

/-- BUDGET (R36). -/
def BudgetTaken (written : List Int) (c : BudgetSettings) : Prop :=
  match written with
  | [budget, host, fan, low] =>
    (c.cabinetBudget : Int) = limited 10 400 budget ∧ (c.hostReserve : Int) = limited 0 200 host ∧
    (c.fanReserve : Int) = limited 0 20 fan ∧ (c.supplyLow : Int) = limited 100 300 low
  | _ => False

/-- FAN: fan_on to 1240 at most, then a fan_full at or below it to fan_on + 10 (R42). -/
def FanTaken (written : List Int) (c : FanSettings) : Prop :=
  match written with
  | [on, full, duty, stall, clog] =>
    c.fanOn = (if 1240 < limitedTemp on then 1240 else limitedTemp on) ∧
    c.fanFull = (if limitedTemp full ≤ c.fanOn then c.fanOn + 10 else limitedTemp full) ∧
    (c.minDuty : Int) = limited 20 100 duty ∧ (c.stallRpm : Int) = limited 100 3000 stall ∧
    (c.clogPct : Int) = limited 5 50 clog
  | _ => False

/-- WATCHDOG: a timeout of 1..99 to 100, then window_min to half the timeout at most (R99; that a negative
timeout is 0 is log entry 16). -/
def WatchdogTaken (written : List Int) (c : WatchdogSettings) : Prop :=
  match written with
  | [timeout, window, early, boot, stable, action, off] =>
    (c.timeout : Int) = (if timeout ≤ 0 then 0 else limited 100 600000 timeout) ∧
    (c.windowMin : Int) = limited 0 (c.timeout / 2 : Nat) window ∧
    Names [.restart, .count] early c.earlyPolicy ∧ (c.bootAllowance : Int) = limited 10 1800 boot ∧
    (c.stableTime : Int) = limited 10 3600 stable ∧ StepNamed action c.requestedAction ∧
    (c.requestedOffTime : Int) = limited 1 600 off
  | _ => False

/-- One step of LADDER (R100). -/
def StepTaken (action off attempts : Int) (c : LadderStep) : Prop :=
  StepNamed action c.action ∧ (c.offTime : Int) = limited 1 600 off ∧
  (c.attempts : Int) = limited 1 7 attempts

/-- LADDER (R100, R190). -/
def LadderTaken (written : List Int) (c : LadderSettings) : Prop :=
  match written with
  | [count, a0, a1, a2, a3, o0, o1, o2, o3, t0, t1, t2, t3] =>
    (c.stepCount : Int) = limited 1 4 count ∧
    StepTaken a0 o0 t0 (c.steps.get .n0) ∧ StepTaken a1 o1 t1 (c.steps.get .n1) ∧
    StepTaken a2 o2 t2 (c.steps.get .n2) ∧ StepTaken a3 o3 t3 (c.steps.get .n3)
  | _ => False

/-- HOST_POWER (R75). -/
def HostPowerTaken (written : List Int) (c : HostPowerSettings) : Prop :=
  match written with
  | [good, pulse, delay, grace, warm, blind, lead, retry, auto, lock] =>
    (c.powerGoodTimeout : Int) = limited 100 5000 good ∧ (c.resetPulse : Int) = limited 10 2000 pulse ∧
    (c.stopDelay : Int) = limited 0 30 delay ∧ (c.stopGrace : Int) = limited 5 600 grace ∧
    (c.warmLimit : Int) = limited 1 240 warm ∧ (c.blindSoak : Int) = limited 0 3600 blind ∧
    (c.leadMax : Int) = limited 0 14400 lead ∧ (c.lockoutRetry : Int) = limited 0 1440 retry ∧
    YesNo auto c.autoStart ∧ YesNo lock c.lockAtStart
  | _ => False

/-- KEYPAD: a stuck_time of 1..4 to 5, then a release_thr at or above touch_thr to touch_thr - 1 (R133; that a
negative stuck_time is 0 is log entry 16). -/
def KeypadTaken (written : List Int) (c : KeypadSettings) : Prop :=
  match written with
  | [keys, period, touch, release, press, released, hold, rep, stuck, margin, frost, many, cover, recal] =>
    (c.keysFitted : Int) = limited 1 20 keys ∧ (c.scanPeriod : Int) = limited 10 50 period ∧
    (c.touchThr : Int) = limited 10 2000 touch ∧
    (c.releaseThr : Int) =
      (if (c.touchThr : Int) ≤ limited 1 1999 release then (c.touchThr : Int) - 1
       else limited 1 1999 release) ∧
    (c.pressCount : Int) = limited 1 8 press ∧ (c.releaseCount : Int) = limited 1 8 released ∧
    (c.holdTime : Int) = limited 300 5000 hold ∧ (c.repeatPeriod : Int) = limited 50 2000 rep ∧
    (c.stuckTime : Int) = (if stuck ≤ 0 then 0 else limited 5 600 stuck) ∧
    (c.condMargin : Int) = limited 0 200 margin ∧ c.frostFloor = limited (-550) 100 frost ∧
    (c.maxTouch : Int) = limited 1 4 many ∧ (c.coverHold : Int) = limited 500 10000 cover ∧
    (c.recalStep : Int) = limited 10 500 recal
  | _ => False

/-- KEY (R134). -/
def KeyTaken (written : List Int) (c : Bool) : Prop :=
  match written with
  | [rep] => YesNo rep c
  | _ => False

/-- CHORD: the set's keys, one a byte, the unused places 0xFF behind them (R134, R190, R191). -/
def ChordTaken (written : List Int) (c : ChordSettings) : Prop :=
  match written with
  | [keys, hold] =>
    ((List.range 4).reverse.map fun i => (BitVec.ofInt 32 keys).toNat / 256 ^ i % 256) =
      c.keys ++ List.replicate (4 - c.keys.length) 255 ∧
    c.keys.Nodup ∧ c.keys.length ≠ 1 ∧ c.keys.length ≤ 4 ∧ (∀ k ∈ c.keys, k < 20) ∧
    (c.hold : Int) = limited 500 20000 hold
  | _ => False

/-- TRIGGER, but for the test for an arming cycle (R159, R190, R191; that a negative class is refused is log
entry 16). -/
def TriggerTaken (written : List Int) (c : TriggerSettings) : Prop :=
  match written with
  | [cls, index, mask, low, high, preset, armBy, window, action, rearm, enabled] =>
    ((c.cls : Int) = cls ∧ cls ≤ 16) ∧ (c.indexValue.toNat : Int) = limited 0 255 index ∧
    (c.indexMask.toNat : Int) = limited 0 255 mask ∧ c.argLo = limited (-32768) 65535 low ∧
    c.argHi = limited (-32768) 65535 high ∧ (c.preset : Int) = limited 0 255 preset ∧
    armBy =
      (match c.armBy with
       | some u => (u.num : Int)
       | none => -1) ∧
    (c.armWindow : Int) = limited 0 60000 window ∧
    Names [.notify, .freeze, .restart, .powerOn, .shutdown, .signal, .filterLearn] action c.action ∧
    YesNo rearm c.rearm ∧ YesNo enabled c.enabled
  | _ => False

/-- REPORT: enables for ids 30 and above are taken as clear (R171). -/
def ReportTaken (written : List Int) (c : Word32) : Prop :=
  match written with
  | [set] => ∀ i < 32, c.getLsbD i = (decide (i < 30) && (BitVec.ofInt 32 set).getLsbD i)
  | _ => False

/-- LINK: the rate itself (R180). -/
def LinkTaken (written : List Int) (c : LineRate) : Prop :=
  ∃ x, written = [x] ∧ (x, c) ∈ [(9600, LineRate.b9600), (19200, .b19200), (57600, .b57600), (115200, .b115200)]

/-- The fields that READ_SETTINGS answers with, by group and index (R190, R191). -/
structure GroupsShow (c : Settings) : Prop where
  zone : ∀ z : Zone, c.group 1 z.num = some (c.zone.get z).fields
  heater : ∀ h : Heater, c.group 2 h.num = some (c.heater.get h).fields
  budget : c.group 3 0 = some c.budget.fields
  fan : c.group 4 0 = some c.fan.fields
  watchdog : c.group 5 0 = some c.watchdog.fields
  ladder : c.group 6 0 = some c.ladder.fields
  hostPower : c.group 7 0 = some c.hostPower.fields
  keypad : c.group 8 0 = some c.keypad.fields
  key : ∀ k < 20, c.group 9 k = some [if c.keyRepeat.getD k false then 1 else 0]
  chord : ∀ i : Chord, c.group 10 i.num = some (c.chord.get i).fields
  trigger : ∀ u : TrigUnit, c.group 11 u.num = some (c.trigger.get u).fields
  report : c.group 12 0 = some [c.report.toInt]
  link : c.group 13 0 = some [(c.link.baud : Int)]
  others : ∀ g i,
    (c.group g i).isSome = true →
      ∃ n, (g, n) ∈ [(1, 4), (2, 3), (3, 1), (4, 1), (5, 1), (6, 1), (7, 1), (8, 1), (9, 20), (10, 6), (11, 6),
        (12, 1), (13, 1)] ∧ i < n

/-- The reply to a write that is taken: the group, the index and the effective value of every field,
CLAMPED where they are not those written (R188, R191). -/
def writeReply (s : State) (tag group index : Byte) (written effective : List Int)
    (after : AfterReply) : Lnk :=
  replying s 0x20 tag (if effective = written then .ok else .clamped)
    (group :: index :: effective.flatMap i32) after

/-- A temperature setting in its range (00_scope.md, Units). -/
def TempOk (x : Int) : Prop := -550 ≤ x ∧ x ≤ 1250

/-- ZONE in its ranges (01, section 1.8; R15). -/
structure ZoneSettingsOk (c : ZoneSettings) : Prop where
  targets : TempOk c.idleTarget ∧ TempOk c.warmTarget ∧ TempOk c.holdTarget
  gain : 1 ≤ c.gain ∧ c.gain ≤ 255
  limits : TempOk c.admitLow ∧ TempOk c.admitHigh ∧ c.admitLow ≤ c.admitHigh
  soak : c.soak ≤ 600
  floor : TempOk c.floor ∧ c.floor + 20 ≤ c.ceiling
  crit : c.ceiling ≤ c.crit ∧ c.crit ≤ 1250
  leadRate : c.leadRate ≤ 3600

/-- HEATER in its ranges (02, section 2.8; R35). -/
structure HeaterSettingsOk (c : HeaterSettings) : Prop where
  rating : 1 ≤ c.rating ∧ c.rating ≤ 150
  rank : 1 ≤ c.rank ∧ c.rank ≤ 3
  fallback : c.fallback ≤ 32
  current : c.iMin ≤ c.iMax ∧ c.iMax ≤ 5000

/-- BUDGET and FAN in their ranges (R36, R42). -/
structure ClimateSettingsOk (b : BudgetSettings) (f : FanSettings) : Prop where
  budget : 10 ≤ b.cabinetBudget ∧ b.cabinetBudget ≤ 400 ∧ b.hostReserve ≤ 200 ∧ b.fanReserve ≤ 20
  supplyLow : 100 ≤ b.supplyLow ∧ b.supplyLow ≤ 300
  fan : TempOk f.fanOn ∧ f.fanOn ≤ 1240 ∧ TempOk f.fanFull ∧ f.fanOn < f.fanFull
  duty : 20 ≤ f.minDuty ∧ f.minDuty ≤ 100
  stall : 100 ≤ f.stallRpm ∧ f.stallRpm ≤ 3000
  clog : 5 ≤ f.clogPct ∧ f.clogPct ≤ 50

/-- WATCHDOG, LADDER and HOST_POWER in their ranges (R99, R100, R75). -/
structure PolicySettingsOk (w : WatchdogSettings) (l : LadderSettings) (h : HostPowerSettings) : Prop where
  timeout : w.timeout = 0 ∨ (100 ≤ w.timeout ∧ w.timeout ≤ 600000)
  window : w.windowMin ≤ w.timeout / 2
  boot : 10 ≤ w.bootAllowance ∧ w.bootAllowance ≤ 1800
  stable : 10 ≤ w.stableTime ∧ w.stableTime ≤ 3600
  requested : 1 ≤ w.requestedOffTime ∧ w.requestedOffTime ≤ 600
  steps : 1 ≤ l.stepCount ∧ l.stepCount ≤ 4
  step : ∀ i : Four, 1 ≤ (l.steps.get i).offTime ∧ (l.steps.get i).offTime ≤ 600 ∧
    1 ≤ (l.steps.get i).attempts ∧ (l.steps.get i).attempts ≤ 7
  power : 100 ≤ h.powerGoodTimeout ∧ h.powerGoodTimeout ≤ 5000 ∧ 10 ≤ h.resetPulse ∧ h.resetPulse ≤ 2000
  stop : h.stopDelay ≤ 30 ∧ 5 ≤ h.stopGrace ∧ h.stopGrace ≤ 600
  warm : 1 ≤ h.warmLimit ∧ h.warmLimit ≤ 240 ∧ h.blindSoak ≤ 3600
  lead : h.leadMax ≤ 14400 ∧ h.lockoutRetry ≤ 1440

/-- KEYPAD in its ranges (07, section 7.8; R133). -/
structure KeypadSettingsOk (c : KeypadSettings) : Prop where
  keys : 1 ≤ c.keysFitted ∧ c.keysFitted ≤ 20
  scan : 10 ≤ c.scanPeriod ∧ c.scanPeriod ≤ 50
  thresholds : 10 ≤ c.touchThr ∧ c.touchThr ≤ 2000 ∧ 1 ≤ c.releaseThr ∧ c.releaseThr < c.touchThr
  counts : 1 ≤ c.pressCount ∧ c.pressCount ≤ 8 ∧ 1 ≤ c.releaseCount ∧ c.releaseCount ≤ 8
  hold : 300 ≤ c.holdTime ∧ c.holdTime ≤ 5000 ∧ 50 ≤ c.repeatPeriod ∧ c.repeatPeriod ≤ 2000
  stuck : c.stuckTime = 0 ∨ (5 ≤ c.stuckTime ∧ c.stuckTime ≤ 600)
  water : c.condMargin ≤ 200 ∧ -550 ≤ c.frostFloor ∧ c.frostFloor ≤ 100
  cover : 1 ≤ c.maxTouch ∧ c.maxTouch ≤ 4 ∧ 500 ≤ c.coverHold ∧ c.coverHold ≤ 10000
  recal : 10 ≤ c.recalStep ∧ c.recalStep ≤ 500

/-- CHORD in its ranges (R134). -/
structure ChordSettingsOk (c : ChordSettings) : Prop where
  keys : c.keys.Nodup ∧ c.keys.length ≠ 1 ∧ c.keys.length ≤ 4 ∧ ∀ k ∈ c.keys, k < Config.keyCount
  hold : 500 ≤ c.hold ∧ c.hold ≤ 20000

/-- TRIGGER in its ranges (09, section 9.6; R159). -/
structure TriggerSettingsOk (c : TriggerSettings) : Prop where
  cls : c.cls ≤ 16
  window : -32768 ≤ c.argLo ∧ c.argLo ≤ 65535 ∧ -32768 ≤ c.argHi ∧ c.argHi ≤ 65535
  preset : c.preset ≤ 255
  armWindow : c.armWindow ≤ 60000

/-- All thirteen groups in the ranges that the clamping of their writes leaves, and no cycle of arming
relations among the trigger units (R159, R160, R171). -/
structure SettingsOk (c : Settings) : Prop where
  zone : ∀ z : Zone, ZoneSettingsOk (c.zone.get z)
  heater : ∀ h : Heater, HeaterSettingsOk (c.heater.get h)
  climate : ClimateSettingsOk c.budget c.fan
  policy : PolicySettingsOk c.watchdog c.ladder c.hostPower
  keypad : KeypadSettingsOk c.keypad
  keyRepeat : c.keyRepeat.length = Config.keyCount
  chord : ∀ i : Chord, ChordSettingsOk (c.chord.get i)
  trigger : ∀ u : TrigUnit, TriggerSettingsOk (c.trigger.get u)
  arming : ∀ u : TrigUnit, armingCycle c.trigger u = false
  report : c.report &&& 0x3FFFFFFF#32 = c.report

/-- The working settings, those of the image and those of a snapshot are all in range (R191, R197). -/
structure AllSettingsOk (s : State) : Prop where
  working : SettingsOk s.settings
  image : ∀ c, s.pst.content? = some c → SettingsOk c
  snapshot : ∀ x, s.pst.storing = some x → SettingsOk x.snapshot

end Sys2Proof.Safety
end

