-- ==== Sys2Proof/Certificates/Slice0/Obligations.lean ====
section
/-! DEFINITION. The statements about the model that the provers take up, in the order of
OBLIGATIONS.json. -/

section

open Sys2Proof Sys2Proof.Machine Sys2Proof.Safety

/-! ### The step -/

/-- A step runs the command at the front of the queue on the state with the queue's rest. The queue is
the model's own interface. -/
def Obligations.StepRunsFrontCommand : Prop :=
  ∀ (c : Instr) (rest : List Instr) (s : State),
    s.pending = c :: rest → step s = exec c (s.setPending rest)

/-- With no command waiting one millisecond passes: every running timer moves, one that does not run stands
still, nothing else changes, and the commands that have come due are queued (the model's choice, log
entry 1). That the qualifying clock, the lead timer, the retry timer and the stable timer count whole
seconds from their own start is log entry 7. -/
def Obligations.EmptyQueueIsOneMillisecond : Prop :=
  ∀ s : State, s.pending = [] →
    ∃ t, step s = .next t ∧
      t.time.ms = s.time.ms + 1 ∧
      (if s.time.phase + 1 < 1000 then t.time.sec = s.time.sec ∧ t.time.phase = s.time.phase + 1
       else t.time.sec = s.time.sec + 1 ∧ t.time.phase = 0) ∧
      t.hps = { s.hps with
        stageTimer := s.hps.stageTimer.map (· - 1)
        qualClock := t.hps.qualClock, qualMs := t.hps.qualMs, leadTimer := t.hps.leadTimer
        leadMs := t.hps.leadMs, retryTimer := t.hps.retryTimer, retryMs := t.hps.retryMs } ∧
      (if s.hps.state = .qualifying then
         if s.hps.qualMs + 1 < 1000 then
           t.hps.qualClock = s.hps.qualClock ∧ t.hps.qualMs = s.hps.qualMs + 1
         else t.hps.qualClock = satInc 65535 s.hps.qualClock ∧ t.hps.qualMs = 0
       else t.hps.qualClock = s.hps.qualClock ∧ t.hps.qualMs = s.hps.qualMs) ∧
      (if s.hps.state = .suspended ∧ s.hps.wakeAt ≠ none then
         if s.hps.leadMs + 1 < 1000 then
           t.hps.leadTimer = s.hps.leadTimer ∧ t.hps.leadMs = s.hps.leadMs + 1
         else t.hps.leadTimer = s.hps.leadTimer - 1 ∧ t.hps.leadMs = 0
       else t.hps.leadTimer = s.hps.leadTimer ∧ t.hps.leadMs = s.hps.leadMs) ∧
      (match s.hps.retryTimer with
       | some left =>
         if s.hps.retryMs + 1 < 1000 then
           t.hps.retryTimer = some left ∧ t.hps.retryMs = s.hps.retryMs + 1
         else t.hps.retryTimer = some (left - 1) ∧ t.hps.retryMs = 0
       | none => t.hps.retryTimer = none ∧ t.hps.retryMs = s.hps.retryMs) ∧
      t.weu = { s.weu with
        bootTimer := s.weu.bootTimer.map (· + 1), kickTimer := s.weu.kickTimer.map (· + 1)
        stable := t.weu.stable } ∧
      (match s.weu.stable with
       | .counting sec ms =>
         t.weu.stable = if ms + 1 < 1000 then .counting sec (ms + 1) else .counting (sec + 1) 0
       | .none => t.weu.stable = .none
       | .done => t.weu.stable = .done) ∧
      (∀ u : TrigUnit, t.tmx.units.get u =
        { s.tmx.units.get u with window := (s.tmx.units.get u).window.map (· - 1) }) ∧
      t.tmx.inbox = s.tmx.inbox ∧
      t.cnu = { s.cnu with svcTimer := s.cnu.svcTimer.map (· - 1) } ∧
      t.pst.image = s.pst.image ∧ t.pst.cell = s.pst.cell ∧
      t.pst.storing = s.pst.storing.map (fun x => ⟨x.snapshot, x.timer - 1⟩) ∧
      t = { s with
        time := t.time, hps := t.hps, weu := t.weu, tmx := t.tmx, cnu := t.cnu, pst := t.pst
        pending := due t }

/-- Every well-formed command has an effect in every state, and leaves the queue of waiting commands as
it is; a term that is no command of its row is the model's one fault (log entry 12). -/
def Obligations.WellFormedCommandsComplete : Prop :=
  ∀ (c : Instr) (s : State),
    (c.wf = true → ∃ t, exec c s = .next t ∧ t.pending = s.pending) ∧
    (c.wf = false → exec c s = .fault .illFormed)

/-- A request row changes nothing unless its request is the one that LNK dispatches next: nothing is
SENDING and it arrived first (R185; the model's form, log entry 4). A command that says a timer has run
out changes nothing while its timer has not (the model's form, log entry 11); no boundary is taken but the
one that is due, and no slot ends while it is (log entry 26). -/
def Obligations.CommandsWaitForTheirCause : Prop :=
  (∀ (c : Instr) (r : Request) (s : State), c.wf = true → requestOf c = some r →
    ¬ Due s r.kind r.tag r.payload → exec c s = .next s) ∧
  (∀ (c : Instr) (due : Bool) (s : State),
    (c, due) ∈
      [(Instr.powerGoodTimeout, s.stageOver .powering .waitGood),
       (.resetHoldExpiry, s.stageOver .powering .resetHold),
       (.resettingExpiry, s.stageOver .resetting .noStage),
       (.drainTimeout, s.stageOver .cycling .drain),
       (.offTimeExpiry, s.stageOver .cycling .offTime),
       (.graceExpiry, s.stageOver .stopping .grace),
       (.stopDelayExpiry,
         (s.stageOver .running .stopDelay || s.stageOver .stopping .stopDelay) &&
           s.lnk.sending.all (·.after != .endStop)),
       (.lockoutRetryExpiry, s.hps.state == .lockedOut && s.hps.retryTimer == some 0),
       (.wakeTime, s.toWake == some 0),
       (.leadComputation, s.toWake.isSome && s.hps.leadTimer == 0),
       (.preheatBegin, !s.hps.preheat && s.hps.leadMs == 0 && s.toWake.any (· ≤ s.hps.lead)),
       (.warmTimeout, s.hps.state == .qualifying && !s.hps.warmTimeout && s.hps.qualMs == 0 &&
         decide (s.settings.hostPower.warmLimit * 60 ≤ s.hps.qualClock)),
       (.bootTimeout, s.hps.state == .booting && s.weu.phase == .boot &&
         s.weu.bootTimer.any (s.weu.bootLimit ≤ ·)),
       (.wdExpired, (s.hps.state == .running || s.hps.state == .stopping) && s.weu.phase == .windowed &&
         s.weu.kickTimer.any (s.weu.timeoutInForce ≤ ·)),
       (.stableTime, match s.weu.stable with
         | .counting sec ms => ms == 0 && decide (s.settings.watchdog.stableTime ≤ sec)
         | .none | .done => false),
       (.svcTimerExpiry, s.cnu.svcTimer == some 0),
       (.storeComplete true, s.pst.storing.isSome), (.storeComplete false, s.pst.storing.isSome),
       (.climateBoundary true, !s.hold && s.hsch.boundaryDue),
       (.climateBoundary false, !s.hold && s.hsch.boundaryDue)] →
    due = false → exec c s = .next s) ∧
  (∀ (current : PerThree Int) (order : List Heater) (s : State), order.isPerm heaters = true →
    s.hold = true ∨ s.hsch.boundaryDue = true → exec (.slotEnd current order) s = .next s)

/-- LNK itself answers a dispatched request whose payload length the catalogue does not allow for its KIND
with BAD_ARG, and one whose KIND is not in the catalogue with BAD_KIND, the reply's KIND being the
request's + 0x80, or 0xFF where that is 0x80 or above (R185, R189). A WRITE_SETTINGS whose group or index
does not exist, whose length is not that of its group, or that holds a value outside an enumerated set or a
refused set of keys, gets BAD_ARG (R188, R190, R191). Nothing else changes. That any of the thirteen rows
answers a payload that names no group is the model's choice, log entry 4. -/
def Obligations.MalformedRequestsChangeNothing : Prop :=
  (∀ (c : Instr) (r : Request) (s : State), c.wf = true → requestOf c = some r →
    Config.catalogue.contains r.kind = true → r.kind ≠ 0x20 →
    Due s r.kind r.tag r.payload → r.payload.length ∉ allowedLengths r.kind →
    exec c s = .next (s.setLnk (replying s r.kind r.tag .badArg [] .nothing))) ∧
  (∀ (kind tag : Byte) (payload : List Byte) (s : State),
    Config.catalogue.contains kind = false → Due s kind tag payload →
    exec (.badKind kind tag payload) s =
      .next (s.setLnk { s.lnk with
        held := s.lnk.held.drop 1
        sending := some
          ⟨[if kind.toNat < 0x80 then kind + 0x80 else 0xFF, tag, 0x14], .nothing⟩ })) ∧
  (∀ (g : Nat) (row : Byte → List Byte → Instr) (tag : Byte) (s : State), (g, row) ∈ writeRows →
    (∀ payload : List Byte, writesGroup g payload = true → Due s 0x20 tag payload →
      (∀ (gb ib : Byte) (rest : List Byte), payload = gb :: ib :: rest →
        ∀ fields, s.settings.group gb.toNat ib.toNat = some fields →
          rest.length ≠ 4 * fields.length) →
      exec (row tag payload) s = .next (s.setLnk (replying s 0x20 tag .badArg [] .nothing))) ∧
    (∀ (ib : Byte) (old fs : List Int), s.settings.group g ib.toNat = some old →
      fs.length = old.length → OnWire fs → taken g fs = false →
      (g = 5 ∨ g = 6 ∨ g = 7 → s.weu.policyLock = false) →
      Due s 0x20 tag (BitVec.ofNat 8 g :: ib :: fs.flatMap i32) →
      exec (row tag (BitVec.ofNat 8 g :: ib :: fs.flatMap i32)) s =
        .next (s.setLnk (replying s 0x20 tag .badArg [] .nothing))))

/-! ### Resets -/

/-- POWER_ON_RESET loads the image or the factory defaults, gives every block its value after power-on,
latches PROFILE_DEFAULTED where the image is INVALID, sets the policy lock by lock_at_start, and takes
the host from OFF to QUALIFYING where auto_start says so (R16, R37, R50, R77, R102, R112, R135, R147,
R165, R178, R195, R199). The model's own or its choice are: that the uptime starts at 0 (log entry 10), the
reason off for the duty before the first boundary (log entry 29), boundaryDue (log entry 26), lastSent (log
entry 6), and the entry into QUALIFYING within the reset (log entries 28 and 36). -/
def Obligations.PowerOnReset : Prop :=
  ∀ s : State, ∃ t, exec .powerOnReset s = .next t ∧
    t.settings = s.pst.content?.getD Settings.factory ∧
    t.pst = { s.pst with storing := none } ∧
    t.time = ⟨0, 0, 0⟩ ∧ t.zmon = .initial ∧ t.hsch = .initial t.settings ∧
    t.afm = .initial s.pst.cell ∧ t.ksu = .initial ∧ t.lnk = .initial t.settings .powerOn ∧
    t.tmx.units = (Tmx.initial t.settings).units ∧
    t.cpt = { Cpt.initial with seen := t.hps.state } ∧
    t.keq = .initial t.hps.state ∧
    t.weu = { Weu.initial t.settings.watchdog with policyLock := t.settings.hostPower.lockAtStart } ∧
    (∀ c : Cond, t.latched c = (c == .profileDefaulted && s.pst.content?.isNone)) ∧
    t.cnu = { Cnu.initial with latched := t.cnu.latched, seen := t.hps.state } ∧
    (if t.settings.hostPower.autoStart then
       t.hps = { Hps.initial with state := .qualifying } ∧ t.tmx.inbox = [⟨.hostState, 1, 0⟩]
     else t.hps = Hps.initial ∧ t.tmx.inbox = []) ∧
    t.hold = false ∧ t.powerGood = s.powerGood ∧ t.lastSent = [] ∧ t.pending = s.pending

/-- RST_N_ASSERT begins a supervisor reset, which then holds: the reinitialized blocks take their reset
values, HPS, WEU and CPT go on, the latches stay, the notice queue is emptied, and PROFILE_DEFAULTED is
latched where the image is INVALID (R179, R200, R201). That the settings, and with them the units, HSCH's
copies and the line rate, are reloaded at the beginning of the hold is log entry 17; the reason off for the duty
before the first boundary is log entry 29, and boundaryDue, the model's own, log entry 26. While the reset holds
already, nothing changes. -/
def Obligations.SupervisorResetBegins : Prop :=
  ∀ s : State,
    (s.hold = true → exec .rstNAssert s = .next s) ∧
    (s.hold = false → ∃ t, exec .rstNAssert s = .next t ∧ Reinitialized s t ∧ t.hold = true ∧
      t.lnk.lastReset = s.lnk.lastReset ∧ t.keq.seen = s.keq.seen ∧ t.cnu.seen = s.cnu.seen ∧
      t.cnu.notices = [] ∧ t.lastSent = s.lastSent ∧
      ∀ c : Cond, t.latched c = (s.latched c || (c == .profileDefaulted && s.pst.content?.isNone)))

/-- RST_N_RELEASE ends the reset that RST_N holds: KEQ and CNU take the host state from HPS, the last
reset cause becomes RST_N, and SUPERVISOR_RESET is latched, with a notice where CNU may give one. The
SUPERVISOR_RESET request sends its OK reply in full and then makes the whole reset, or, where RST_N is held
by then, begins the one reset that lasts until RST_N rises (R148, R179, R194, R200, R201; the reply and the
reset in one step, `lastSent` and the form of the extension are the model's, log entry 6; the settings reloaded
at the beginning, log entry 17; the reason off for the duty, log entry 29; boundaryDue, log entry 26). -/
def Obligations.SupervisorResetEnds : Prop :=
  (∀ s : State, s.hold = false → exec .rstNRelease s = .next s) ∧
  (∀ s : State, s.hold = true → ∃ t, exec .rstNRelease s = .next t ∧
    t = { s with
      hold := false, keq := { s.keq with seen := s.hps.state }, cnu := t.cnu
      lnk := { s.lnk with lastReset := .pin } } ∧
    t.cnu = { s.cnu with
      latched := t.cnu.latched, notices := t.cnu.notices, overflow := t.cnu.overflow
      seen := s.hps.state } ∧
    (∀ c : Cond, t.latched c = (s.latched c || c == .supervisorReset)) ∧
    (if s.latched .supervisorReset = false ∧ s.enabled .supervisorReset = true ∧
        s.hps.state.listening = true then
      t.cnu.notices = (queueNotice s.cnu.notices ⟨s.time.sec, .condition .supervisorReset⟩).1
     else t.cnu.notices = s.cnu.notices ∧ t.cnu.overflow = s.cnu.overflow)) ∧
  (∀ (tag : Byte) (rstLow : Bool) (s : State), Due s 0x3F tag [] →
    ∃ t, exec (.supervisorReset tag [] rstLow) s = .next t ∧ Reinitialized s t ∧ t.hold = rstLow ∧
      t.lastSent = frame [0xBF, tag, 0x00] ∧
      (rstLow = false →
        t.lnk.lastReset = .request ∧ t.keq.seen = s.hps.state ∧ t.cnu.seen = s.hps.state ∧
        (∀ c : Cond, t.latched c = (s.latched c || c == .supervisorReset ||
          (c == .profileDefaulted && s.pst.content?.isNone))) ∧
        t.cnu.notices =
          (if s.latched .supervisorReset = false ∧ t.enabled .supervisorReset = true ∧
              s.hps.state.listening = true then [⟨s.time.sec, .condition .supervisorReset⟩] else [])) ∧
      (rstLow = true →
        t.lnk.lastReset = s.lnk.lastReset ∧ t.keq.seen = s.keq.seen ∧ t.cnu.seen = s.cnu.seen ∧
        t.cnu.notices = [] ∧
        ∀ c : Cond,
          t.latched c = (s.latched c || (c == .profileDefaulted && s.pst.content?.isNone))))

/-- The state after reset meets every invariant that the statements below say each step keeps. -/
def Obligations.ResetMeetsInvariants : Prop :=
  InboxBounded State.reset ∧ NoticesOk State.reset.cnu.notices ∧ KeqOk State.reset.keq ∧
  RingOk State.reset.cpt.ring ∧ RecordsOk State.reset.weu.records ∧ SlotsOk State.reset.lnk ∧
  UnitsOk State.reset ∧ LiveCausesOk State.reset ∧ PowerOnPendingOk State.reset ∧
  HostSeenOk State.reset ∧ PositionOk State.reset ∧ PadOk State.reset ∧ AllSettingsOk State.reset

/-! ### The serial link -/

/-- Every frame with a right CHECK and at most 62 payload bytes that arrives while LNK is HUNTING is
taken off the line whole: it is held in an EMPTY slot, or counted as an overrun (R180, R181, R182,
R184). -/
def Obligations.FramesAreReceivedWhole : Prop :=
  ∀ (kind tag : Byte) (payload : List Byte) (s : State), payload.length ≤ 62 →
    s.hold = false → s.lnk.inBreak = false → s.lnk.rx = .hunting →
    exec (.frameReceived ((frame (kind :: tag :: payload)).map (⟨·, true⟩))) s =
      .next (s.setLnk
        (if s.lnk.held.length + (if s.lnk.sending.isSome then 1 else 0) < 2 then
          { s.lnk with held := s.lnk.held ++ [⟨kind, tag, payload⟩] }
         else { s.lnk with overrunCount := satInc 65535 s.lnk.overrunCount }))

/-- What goes wrong on RXD is counted once and changes nothing outside LNK (R182): a frame with a wrong
CHECK, whatever its BODY; a LEN out of range, which may itself be a SYNC; a low stop bit within a frame;
noise between frames; and a gap within a frame. A link reset: the frame in progress, the HELD requests and
the reply being sent are gone, the break count goes up once for one low of RXD, and bytes are taken again
only once RXD is high (R183). That a LEN byte with its stop bit low counts a line error alone where it is out of
range too is the model's choice (log entry 35). -/
def Obligations.ReceiverErrorsAndLinkReset : Prop :=
  (∀ (body ck : List Byte) (s : State), 2 ≤ body.length → body.length ≤ 64 → ck.length = 2 →
    ck ≠ bytes16 (check body) → s.hold = false → s.lnk.inBreak = false → s.lnk.rx = .hunting →
    exec (.frameReceived
        ((0xA6 :: BitVec.ofNat 8 body.length :: (body ++ ck)).map (⟨·, true⟩))) s =
      .next (s.setLnk { s.lnk with checkCount := satInc 65535 s.lnk.checkCount })) ∧
  (∀ (b : Byte) (s : State), b.toNat < 2 ∨ 64 < b.toNat → s.hold = false → s.lnk.inBreak = false →
    s.lnk.rx = .lenExpected →
    exec (.frameReceived [⟨b, true⟩]) s =
      .next (s.setLnk { s.lnk with
        rx := if b = 0xA6 then .lenExpected else .hunting
        lengthCount := satInc 65535 s.lnk.lengthCount })) ∧
  (∀ (b : Byte) (s : State), s.hold = false → s.lnk.inBreak = false → s.lnk.rx ≠ .hunting →
    exec (.frameReceived [⟨b, false⟩]) s =
      .next (s.setLnk { s.lnk with
        rx := .hunting, lineCount := satInc 65535 s.lnk.lineCount })) ∧
  (∀ (b : RxByte) (s : State), b.val ≠ 0xA6 ∨ b.stopHigh = false → s.lnk.rx = .hunting →
    exec (.frameReceived [b]) s = .next s) ∧
  (∀ s : State,
    exec .frameGapTimeout s = .next (
      if s.lnk.rx = .hunting then s
      else s.setLnk { s.lnk with rx := .hunting, gapCount := satInc 65535 s.lnk.gapCount })) ∧
  (∀ s : State, s.hold = false →
    (s.lnk.inBreak = false →
      exec .linkReset s = .next (s.setLnk { s.lnk with
        rx := .hunting, held := [], sending := none
        breakCount := satInc 65535 s.lnk.breakCount, inBreak := true })) ∧
    (s.lnk.inBreak = true → exec .linkReset s = .next s ∧
      ∀ bytes : List RxByte, exec (.frameReceived bytes) s = .next s) ∧
    exec .rxdHighAgain s = .next (s.setLnk { s.lnk with inBreak := false }))

/-- The last byte of a reply has left TXD: its slot becomes EMPTY and its frame was what TXD carried
(R185); then the line rate changes where a LINK write waited for it (R180), and a stop with a stop_delay
of 0 removes the supply (R68, R69). `lastSent` is the model's own record of TXD (log entry 6); that the
entry into OFF clears the stop's fields where the stop delay was RUNNING's is log entry 14. -/
def Obligations.ReplySentFreesTheSlot : Prop :=
  (∀ s : State, s.lnk.sending = none → exec .replySent s = .next s) ∧
  (∀ (body : List Byte) (s : State), s.lnk.sending = some ⟨body, .nothing⟩ →
    exec .replySent s =
      .next ((s.setLnk { s.lnk with sending := none }).setLastSent (frame body))) ∧
  (∀ (body : List Byte) (s : State), s.lnk.sending = some ⟨body, .applyRate⟩ →
    exec .replySent s =
      .next ((s.setLnk { s.lnk with
        sending := none, rate := s.settings.link, rx := .hunting }).setLastSent (frame body))) ∧
  (∀ (body : List Byte) (s : State), s.lnk.sending = some ⟨body, .endStop⟩ →
    let sent := (s.setLnk { s.lnk with sending := none }).setLastSent (frame body)
    if (s.hps.state = .running ∨ s.hps.state = .stopping) ∧ s.hps.stage = .stopDelay ∧
        s.hps.stageTimer = some 0 then
      ∃ t, exec .replySent s = .next t ∧ StopEnded sent t ∧
        t.lnk = { s.lnk with sending := none, held := [] }
    else exec .replySent s = .next sent)

/-- The requests that only read answer with what they ask for and change nothing but LNK's slots: PING,
GET_STATUS, GET_CONDITIONS, READ_TRACE, READ_RESTART, READ_SETTINGS (R97, R111, R170, R191, R192, R194). The
status pages, the trace pages, the restart records, the key records and the notices show every field at its
place, and READ_SETTINGS the fields of the group named (R190, R193). A page, a record or a group that does not
exist gets BAD_ARG or REFUSED. How absent values are shown, how a wake time already passed is told, and that a
chord's time stops at 65535 are log entries 21, 8 and 23. -/
def Obligations.ReadRequestsAnswered : Prop :=
  (∀ (tag : Byte) (s : State), Due s 0x01 tag [] →
    exec (.ping tag []) s = .next (s.setLnk (replying s 0x01 tag .ok
      ([0x0C, 0x3A, 0x02, 0x16, 0x01] ++ bytes32 s.time.sec ++ [BitVec.ofNat 8 s.lnk.lastReset.num])
      .nothing))) ∧
  (∀ (tag page part : Byte) (s : State), Due s 0x02 tag [page, part] →
    ∃ st bytes, exec (.getStatus tag [page, part]) s =
        .next (s.setLnk (replying s 0x02 tag st bytes .nothing)) ∧
      (if (page = 0 ∨ page = 1) ∧ part = 0 ∨ page = 2 ∧ part.toNat ≤ 6 then
        st = .ok ∧ bytes.take 2 = [page, part] ∧ statusPage page.toNat part.toNat s = some bytes ∧
        PageShows page.toNat part.toNat s bytes ∧
        bytes.length =
          (if page = 0 then 43 else if page = 1 then 60
           else if part = 0 then 41 else if part = 1 then 39 else 30)
       else st = .badArg ∧ bytes = [])) ∧
  (∀ (tag : Byte) (s : State), Due s 0x03 tag [] →
    exec (.getConditions tag []) s = .next (s.setLnk (replying s 0x03 tag .ok
      (bytes32 s.cnu.latched ++ bytes32 s.cnu.live ++
        [BitVec.ofNat 8 (s.cnu.kinds.v0.num + 4 * s.cnu.kinds.v1.num + 16 * s.cnu.kinds.v2.num),
         BitVec.ofNat 8 s.cnu.notices.length, if s.cnu.overflow then 1 else 0])
      .nothing))) ∧
  (∀ (tag page : Byte) (s : State), Due s 0x12 tag [page] →
    exec (.readTrace tag [page]) s = .next (s.setLnk
      (if page.toNat ≤ 1 then
        replying s 0x12 tag .ok (readTracePage page.toNat s.cpt) .nothing
       else replying s 0x12 tag .badArg [] .nothing))) ∧
  (∀ (tag index part : Byte) (s : State), Due s 0x14 tag [index, part] →
    exec (.readRestart tag [index, part]) s = .next (s.setLnk
      (if 7 < index.toNat ∨ 2 < part.toNat then replying s 0x14 tag .badArg [] .nothing
       else
        match s.weu.records.reverse[index.toNat]? with
        | none => replying s 0x14 tag .refused [] .nothing
        | some r =>
          replying s 0x14 tag .ok
            (if part = 0 then r.header index.toNat s.weu.records.length
             else r.tracePart index.toNat part.toNat) .nothing))) ∧
  (∀ (tag group index : Byte) (s : State), Due s 0x21 tag [group, index] →
    exec (.readSettings tag [group, index]) s = .next (s.setLnk
      (match s.settings.group group.toNat index.toNat with
       | some fields => replying s 0x21 tag .ok (group :: index :: fields.flatMap i32) .nothing
       | none => replying s 0x21 tag .badArg [] .nothing))) ∧
  (∀ page ≤ 1, ∀ c : Cpt, TracePageShows page c (readTracePage page c)) ∧
  (∀ (index listed : Nat) (r : RestartRecord),
    RestartHeaderShows index listed r (r.header index listed)) ∧
  (∀ (index part : Nat) (r : RestartRecord), part = 1 ∨ part = 2 →
    RestartTraceShows index part r (r.tracePart index part)) ∧
  (∀ r : KeyEvent, KeyRecordShows r r.bytes) ∧
  (∀ n : Notice, NoticeShows n n.bytes) ∧
  (∀ c : Settings, GroupsShow c)

/-! ### Conditions, notices, key events -/

/-- ACK_CONDITIONS clears the conditions it names that are latched with no live cause, and no other; a
cleared heater fault loses its kind and its heater's runs; the queue of notices stays, and the reply
carries what is still latched (R33, R169). FETCH_NOTICES takes up to four of the oldest notices and clears
the overflow flag; READ_KEYS takes up to eight of the oldest key records and sets the lost count to 0; the
replies carry what was taken, what remains, and the flag or the count as it stood (R143, R176). -/
def Obligations.AcknowledgeAndFetch : Prop :=
  (∀ (tag b3 b2 b1 b0 : Byte) (s : State), Due s 0x04 tag [b3, b2, b1, b0] →
    ∃ t, exec (.ackConditions tag [b3, b2, b1, b0]) s = .next t ∧
      let gone (c : Cond) : Bool := condIn (word32 b3 b2 b1 b0) c && s.latched c && !s.live c
      (∀ c : Cond, t.latched c = (s.latched c && !gone c)) ∧
      t.cnu = { s.cnu with latched := t.cnu.latched, kinds := t.cnu.kinds } ∧
      (∀ h : Heater,
        t.cnu.kinds.get h = (if gone (.heaterFault h) then .none else s.cnu.kinds.get h) ∧
        t.hsch.heaters.get h =
          (if gone (.heaterFault h) then { s.hsch.heaters.get h with lowRun := 0, highRun := 0 }
           else s.hsch.heaters.get h)) ∧
      t.lnk = replying s 0x04 tag .ok (bytes32 t.cnu.latched) .nothing ∧
      t = { s with cnu := t.cnu, hsch := { s.hsch with heaters := t.hsch.heaters }, lnk := t.lnk }) ∧
  (∀ (tag : Byte) (s : State), Due s 0x05 tag [] →
    exec (.fetchNotices tag []) s = .next
      ((s.setCnu { s.cnu with notices := s.cnu.notices.drop 4, overflow := false }).setLnk
        (replying s 0x05 tag .ok
          ([BitVec.ofNat 8 (min 4 s.cnu.notices.length), BitVec.ofNat 8 (s.cnu.notices.length - 4),
            if s.cnu.overflow then 1 else 0] ++ (s.cnu.notices.take 4).flatMap Notice.bytes) .nothing))) ∧
  (∀ (tag : Byte) (s : State), Due s 0x06 tag [] →
    exec (.readKeys tag []) s = .next
      ((s.setKeq { s.keq with queue := s.keq.queue.drop 8, lost := 0 }).setLnk
        (replying s 0x06 tag .ok
          ([BitVec.ofNat 8 (min 8 s.keq.queue.length), BitVec.ofNat 8 (s.keq.queue.length - 8),
            BitVec.ofNat 8 s.keq.lost] ++ (s.keq.queue.take 8).flatMap KeyEvent.bytes) .nothing)))

/-- Every step keeps the notice queue at no more than 16 notices, with at most one CONDITION notice per
condition and at most one SHUTDOWN_REQUEST (R174); the key event queue at no more than 32 records, with an
entry free for every key owed a release (R140); the event inbox at no more than 16 events (R149); and the
holding slots at no more than two requests and replies (R184). -/
def Obligations.QueuesKeepTheirBounds : Prop :=
  (∀ s t : State, NoticesOk s.cnu.notices → step s = .next t → NoticesOk t.cnu.notices) ∧
  (∀ s t : State, KeqOk s.keq → step s = .next t → KeqOk t.keq) ∧
  (∀ s t : State, InboxBounded s → SlotsOk s.lnk → step s = .next t → InboxBounded t ∧ SlotsOk t.lnk)

/-- Every step keeps CPT, KEQ and CNU seeing the host state that HPS is in (R53, R110, R144, R175), KEQ empty
outside RUNNING and STOPPING (R145), and the notice queue empty while the host is not listening and while a
supervisor reset holds (R175, R177, R200). -/
def Obligations.HostSeenInvariant : Prop :=
  ∀ s t : State, HostSeenOk s → step s = .next t → HostSeenOk t

/-! ### Watchdog, restart records, checkpoint trace -/

/-- The first KICK in BOOTING moves the host to RUNNING, starts the kick timer on the settings of that
moment (or leaves the watchdog off where timeout is 0), starts the stable timer, queues a due restart
report, and hands its checkpoint code to CPT (R53, R60, R79, R80, R96, R106). -/
def Obligations.KickMovesBootingToRunning : Prop :=
  ∀ (tag : Byte) (payload : List Byte) (code : Option Word16) (s : State),
    Due s 0x10 tag payload → kickCode? payload = some code → s.hps.state = .booting →
    ∃ t, exec (.kick tag payload) s = .next t ∧
      t.hps = { s.hps with
        state := .running, prev := .booting, stage := .noStage, stageTimer := none
        pendingOn := false } ∧
      t.weu = { s.weu with
        phase := if s.settings.watchdog.timeout = 0 then .off else .windowed
        bootTimer := none
        kickTimer := if s.settings.watchdog.timeout = 0 then none else some 0
        timeoutInForce := s.settings.watchdog.timeout
        windowInForce := s.settings.watchdog.windowMin
        stable := .counting 0 0, reportDue := false } ∧
      CodeHanded code s t ∧ t.cpt.seen = .running ∧
      t.keq = { s.keq with seen := .running } ∧ t.cnu.seen = .running ∧
      LatchesKept [] s t ∧ Posted ⟨.hostState, 5, 4⟩ s t ∧ t.tmx.units = s.tmx.units ∧
      (s.tmx.inbox.length + 2 ≤ 16 → s.hold = false → s.cnu.seen = .booting →
        t.cnu.notices =
          (match s.weu.records.getLast? with
           | some r =>
             if s.weu.reportDue then
               (queueNotice s.cnu.notices
                 ⟨s.time.sec, .restartReport r.reason r.step r.action⟩).1
             else s.cnu.notices
           | none => s.cnu.notices)) ∧
      t.lnk = replying s 0x10 tag .ok (u8 (handCode code s).2.num) .nothing ∧ OutsideKept s t

/-- A KICK in RUNNING or STOPPING that comes within the window restarts the kick timer on the settings of
that moment; one with the watchdog off changes no timer; one before the window that the policy or the
state lets pass is counted, with WD_EARLY latched and WATCHDOG(1, t) posted, and restarts nothing
(R81, R83, R85, R106; that a KICK starts no timer where a timeout has been written with the phase OFF is log
entry 30). A KICK in any host state but BOOTING, RUNNING and STOPPING is REFUSED: its code is dropped, and
nothing changes but LNK's slots (R84). -/
def Obligations.KickByStateAndWindow : Prop :=
  (∀ (tag : Byte) (payload : List Byte) (code : Option Word16) (s : State),
    Due s 0x10 tag payload → kickCode? payload = some code →
    s.hps.state = .running ∨ s.hps.state = .stopping →
    (∀ k, s.weu.phase = .windowed → s.weu.kickTimer = some k → s.weu.windowInForce ≤ k →
      ∃ t, exec (.kick tag payload) s = .next t ∧
        t.weu = { s.weu with
          phase := if s.settings.watchdog.timeout = 0 then .off else .windowed
          kickTimer := if s.settings.watchdog.timeout = 0 then none else some 0
          timeoutInForce := s.settings.watchdog.timeout
          windowInForce := s.settings.watchdog.windowMin } ∧
        t.hps = s.hps ∧ t.keq = s.keq ∧ t.tmx.units = s.tmx.units ∧ CodeHanded code s t ∧
        t.cpt.seen = s.cpt.seen ∧ LatchesKept [] s t ∧
        t.lnk = replying s 0x10 tag .ok (u8 (handCode code s).2.num) .nothing ∧ OutsideKept s t) ∧
    (s.weu.phase = .off →
      ∃ t, exec (.kick tag payload) s = .next t ∧
        t.weu = s.weu ∧ t.hps = s.hps ∧ t.keq = s.keq ∧ t.tmx.units = s.tmx.units ∧
        CodeHanded code s t ∧ t.cpt.seen = s.cpt.seen ∧ LatchesKept [] s t ∧
        t.lnk = replying s 0x10 tag .ok (u8 (handCode code s).2.num) .nothing ∧ OutsideKept s t) ∧
    (∀ k, s.weu.phase = .windowed → s.weu.kickTimer = some k → k < s.weu.windowInForce →
      s.hps.state = .stopping ∨ s.settings.watchdog.earlyPolicy = .count →
      ∃ t, exec (.kick tag payload) s = .next t ∧
        t.weu = { s.weu with earlyCount := satInc 255 s.weu.earlyCount } ∧
        t.hps = s.hps ∧ t.keq = s.keq ∧ t.tmx.units = s.tmx.units ∧ CodeHanded code s t ∧
        t.cpt.seen = s.cpt.seen ∧ LatchesKept [.wdEarly] s t ∧
        Posted ⟨.watchdog, 1, (min 65535 k : Nat)⟩ s t ∧
        t.lnk = replying s 0x10 tag .early (u8 (handCode code s).2.num) .nothing ∧ OutsideKept s t)) ∧
  (∀ (tag : Byte) (payload : List Byte) (code : Option Word16) (s : State),
    Due s 0x10 tag payload → kickCode? payload = some code →
    s.hps.state ≠ .booting → s.hps.state ≠ .running → s.hps.state ≠ .stopping →
    exec (.kick tag payload) s =
      .next (s.setLnk (replying s 0x10 tag .refused [if code.isSome then 3 else 0] .nothing)))

/-- A KICK before the window in RUNNING under early_policy RESTART is a failure: its reply EARLY is being
sent while the host loses its reset or its supply, and WEU escalates it with the kick's own code in the
trace (R81, R82, R86, R88, R90, R106). -/
def Obligations.EarlyKickEscalates : Prop :=
  ∀ (tag : Byte) (payload : List Byte) (code : Option Word16) (k : Nat) (s : State),
    Due s 0x10 tag payload → kickCode? payload = some code → s.hps.state = .running →
    s.weu.phase = .windowed → s.weu.kickTimer = some k → k < s.weu.windowInForce →
    s.settings.watchdog.earlyPolicy = .restart →
    ∃ t, exec (.kick tag payload) s = .next t ∧
      Escalated .wdEarly none (handCode code s).1 t ∧ HostLost s t ∧
      t.weu.earlyCount = s.weu.earlyCount ∧
      Posted ⟨.watchdog, 1, (min 65535 k : Nat)⟩ s t ∧ t.latched .wdEarly = true ∧
      t.lnk = replyingAlone s 0x10 tag .early (u8 (handCode code s).2.num)

/-- A CHECKPOINT in BOOTING, RUNNING or STOPPING with the trace RECORDING is taken: a repeat of the
newest code raises its count and moves its time, any other code is appended, the oldest of seventeen
going; the reply tells which, and CHECKPOINT(0, code) is posted. With the trace FROZEN, or in any other
state, nothing is stored and no event posted. No watchdog timer changes. A payload of any other length
gets BAD_ARG (R104, R105). -/
def Obligations.CheckpointIsTaken : Prop :=
  (∀ (tag : Byte) (payload : List Byte) (s : State), Due s 0x11 tag payload → payload.length ≠ 2 →
    exec (.checkpoint tag payload) s = .next (s.setLnk (replying s 0x11 tag .badArg [] .nothing))) ∧
  ∀ (tag hi lo : Byte) (s : State), Due s 0x11 tag [hi, lo] →
    let code : Word16 := hi ++ lo
    (s.cpt.seen.listening = false →
      exec (.checkpoint tag [hi, lo]) s = .next (s.setLnk (replying s 0x11 tag .refused [] .nothing))) ∧
    (s.cpt.seen.listening = true → s.cpt.frozen = true →
      exec (.checkpoint tag [hi, lo]) s = .next (s.setLnk (replying s 0x11 tag .frozen [] .nothing))) ∧
    (s.cpt.seen.listening = true → s.cpt.frozen = false →
      ∃ t result repeats, exec (.checkpoint tag [hi, lo]) s = .next t ∧
        t.lnk = replying s 0x11 tag .ok
          [result, BitVec.ofNat 8 t.cpt.ring.length, BitVec.ofNat 8 repeats] .nothing ∧
        (∀ e, s.cpt.ring.getLast? = some e → e.code = code →
          result = 2 ∧ repeats = (if e.count < 255 then e.count + 1 else 255) ∧
          t.cpt = { s.cpt with
            ring := s.cpt.ring.dropLast ++ [⟨code, s.time.ms, repeats⟩] }) ∧
        ((∀ e, s.cpt.ring.getLast? = some e → e.code ≠ code) →
          result = 1 ∧ repeats = 1 ∧
          t.cpt = { s.cpt with
            ring := if s.cpt.ring.length < 16 then s.cpt.ring ++ [⟨code, s.time.ms, 1⟩]
              else s.cpt.ring.drop 1 ++ [⟨code, s.time.ms, 1⟩]
            appends := s.cpt.appends + 1 }) ∧
        Posted ⟨.checkpoint, 0, code.toNat⟩ s t ∧ LatchesKept [] s t ∧
        t.tmx.units = s.tmx.units ∧ t.hps = s.hps ∧ t.weu = s.weu ∧ t.keq = s.keq ∧ OutsideKept s t)

/-- THAW_TRACE makes the trace RECORDING with no freeze time, keeps the ring and the append count, and
answers OK with the state and the number of entries (R108). -/
def Obligations.ThawTrace : Prop :=
  ∀ (tag : Byte) (s : State), Due s 0x13 tag [] →
    exec (.thawTrace tag []) s = .next
      ((s.setCpt { s.cpt with frozen := false, frozenAt := none }).setLnk
        (replying s 0x13 tag .ok [0, BitVec.ofNat 8 s.cpt.ring.length] .nothing))

/-- REQUEST_RESTART in RUNNING writes a REQUESTED record at the ladder position as it stands, has its
reply OK sent, and gives the order of requested_action, discarding a stop request; in any other state it
is REFUSED and nothing changes (R61, R90, R93). -/
def Obligations.RequestRestart : Prop :=
  ∀ (tag : Byte) (s : State), Due s 0x16 tag [] →
    (s.hps.state ≠ .running →
      exec (.requestRestart tag []) s =
        .next (s.setLnk (replying s 0x16 tag .refused [] .nothing))) ∧
    (s.hps.state = .running →
      ∃ t, exec (.requestRestart tag []) s = .next t ∧ HostLost s t ∧
        t.lnk = replyingAlone s 0x16 tag .ok [] ∧
        t.weu.step = s.weu.step ∧ t.weu.attempts = s.weu.attempts ∧
        t.cpt.ring = [] ∧ t.cpt.frozen = false ∧ t.weu.reportDue = true ∧
        LatchesKept [] s t ∧ Posted ⟨.hostState, if s.settings.watchdog.requestedAction = .reset then 3
          else 7, 5⟩ s t ∧
        (if s.settings.watchdog.requestedAction = .reset then
          Performed .reset s t ∧ NewestRecord .requested none .reset .pending s t
         else
          Performed (.cycle s.settings.watchdog.requestedOffTime) s t ∧
            NewestRecord .requested none .cycle .pending s t))

/-- A watchdog that runs out in RUNNING, and a boot allowance that runs out in BOOTING, latch their
condition, post their WATCHDOG event and escalate: the host loses its reset or its supply and every HELD
request (R80, R82, R86, R88, R186). -/
def Obligations.WatchdogExpiryEscalates : Prop :=
  (∀ (k : Nat) (s : State), s.hps.state = .running → s.weu.phase = .windowed →
    s.weu.kickTimer = some k → s.weu.timeoutInForce ≤ k →
    ∃ t, exec .wdExpired s = .next t ∧ Escalated .wdExpired none s t ∧ HostLost s t ∧
      t.latched .wdExpired = true ∧ Posted ⟨.watchdog, 0, (min 65535 k : Nat)⟩ s t ∧
      t.lnk = { s.lnk with held := [] }) ∧
  (∀ (b : Nat) (s : State), s.hps.state = .booting → s.weu.phase = .boot →
    s.weu.bootTimer = some b → s.weu.bootLimit ≤ b →
    ∃ t, exec .bootTimeout s = .next t ∧ Escalated .bootTimeout none s t ∧ HostLost s t ∧
      t.latched .bootTimeout = true ∧ Posted ⟨.watchdog, 2, (min 65535 b : Nat)⟩ s t ∧
      t.lnk = { s.lnk with held := [] })

/-- A failure taken while STOPPING is recorded with action NONE at the position as it stands, not
escalated, and the stop ends at once with its own destination: a watchdog that runs out (reason
THERMAL_STOP_WD) and a fall of HOST_PWR_GOOD (reason POWER_FAIL) (R67, R83, R95). -/
def Obligations.FailureWhileStoppingEndsTheStop : Prop :=
  (∀ (k : Nat) (s : State), s.hps.state = .stopping → s.weu.phase = .windowed →
    s.weu.kickTimer = some k → s.weu.timeoutInForce ≤ k →
    ∃ t, exec .wdExpired s = .next t ∧ StopEnded s t ∧
      NewestRecord .thermalStopWd none .none .pending s t ∧
      t.weu.step = s.weu.step ∧ t.weu.attempts = s.weu.attempts ∧ t.weu.reportDue = true ∧
      t.cpt.ring = [] ∧ t.latched .wdExpired = true ∧
      Posted ⟨.watchdog, 0, (min 65535 k : Nat)⟩ s t ∧ t.lnk = { s.lnk with held := [] }) ∧
  (∀ s : State, s.hps.state = .stopping →
    ∃ t, exec .hostPwrGoodFall s = .next t ∧ StopEnded (s.setPowerGood false) t ∧
      NewestRecord .powerFail none .none .pending s t ∧
      t.weu.step = s.weu.step ∧ t.weu.attempts = s.weu.attempts ∧ t.weu.reportDue = true ∧
      t.cpt.ring = [] ∧ t.latched .powerFail = true ∧ t.lnk = { s.lnk with held := [] })

/-- Every step keeps the trace, and the trace of every restart record, at no more than 16 entries with no two
neighbours of the same code, and changes the ring of a FROZEN trace in no way but by emptying it, for a restart
record, which takes it with its freeze time, or at power-on (R104, R109); the list of restart records at no more
than 8, with none PENDING but the newest (R94); and the ladder position on the ladder, with its attempts within
the limit of its step, on ladders that stay within their ranges (R88, R100). -/
def Obligations.RestartBookInvariant : Prop :=
  (∀ s t : State, RingOk s.cpt.ring → (∀ r ∈ s.weu.records, RingOk r.trace) → step s = .next t →
    RingOk t.cpt.ring ∧ (∀ r ∈ t.weu.records, RingOk r.trace) ∧
    (s.cpt.frozen = true → t.cpt.ring = s.cpt.ring ∨
      (t.cpt.ring = [] ∧
        ((∃ rest : List Instr, s.pending = .powerOnReset :: rest) ∨
          ∃ r, t.weu.records.getLast? = some r ∧ r.trace = s.cpt.ring ∧ r.frozenAt = s.cpt.frozenAt)))) ∧
  (∀ s t : State, RecordsOk s.weu.records → step s = .next t → RecordsOk t.weu.records) ∧
  (∀ s t : State, PositionOk s → step s = .next t → PositionOk t)

/-! ### Admission and host power -/

/-- HOST_PWR_EN changes from deasserted to asserted only at a climate boundary, of a host in POWERING with its
power-on pending, with no supply-low cause (R58); that such a boundary is one that is due, and that none is taken
while a supervisor reset holds, is log entries 26 and 17. Whenever HOST_RST_N becomes asserted or HOST_PWR_EN
deasserted, every HELD request is discarded (R186). A latch is cleared by ACK_CONDITIONS and power-on reset
alone (R168, R169), and FAULT_N is asserted exactly while a condition marked Lamp is latched (R172). ATTN_N is
asserted exactly while the host is listening, no supervisor reset holds, and a notice or a key record waits
(R177, R200). -/
def Obligations.PinTransitions : Prop :=
  (∀ s t : State, step s = .next t → s.hostPwrEn = false → t.hostPwrEn = true →
    (∃ (first : Bool) (rest : List Instr), s.pending = .climateBoundary first :: rest) ∧
    s.hold = false ∧ s.hsch.boundaryDue = true ∧ s.hps.state = .powering ∧ s.hps.pendingOn = true ∧
    s.live .supplyLow = false) ∧
  (∀ s t : State, step s = .next t →
    (s.hostRstN = false ∧ t.hostRstN = true) ∨ (s.hostPwrEn = true ∧ t.hostPwrEn = false) →
    t.lnk.held = []) ∧
  (∀ (c : Cond) (s t : State), step s = .next t → s.latched c = true → t.latched c = false →
    (∃ (tag : Byte) (payload : List Byte) (rest : List Instr),
      s.pending = .ackConditions tag payload :: rest ∧ s.live c = false) ∨
    ∃ rest : List Instr, s.pending = .powerOnReset :: rest) ∧
  (∀ s t : State, step s = .next t →
    (t.faultN = true ↔ ∃ c ∈ lampConditions, t.latched c = true)) ∧
  (∀ s t : State, HostSeenOk s → step s = .next t →
    (t.attnN = true ↔
      t.hold = false ∧ t.hps.state.listening = true ∧ (t.cnu.notices ≠ [] ∨ t.keq.queue ≠ [])))

/-- Every step keeps each live cause present exactly while the state of its owner says so, with its condition
latched while it is: SENSOR_FAULT, WARM_TIMEOUT, SUPPLY_LOW, FAN_STALL, FILTER_CLOG, LOCKOUT, KEY_STUCK,
SUPPRESSED, whatever is acknowledged or reset (R4, R12, R44, R45, R57, R64, R125, R126, R167, R168, R170); and
a power-on pending exactly in POWERING's stage PENDING (R56). -/
def Obligations.LiveCauseInvariant : Prop :=
  ∀ s t : State, LiveCausesOk s → PowerOnPendingOk s → step s = .next t →
    LiveCausesOk t ∧ PowerOnPendingOk t

/-- A sample round in QUALIFYING tests admission on the values of that round: where every gating zone passes,
the supply is not low and a gating zone shows a temperature, a power-on becomes pending and HPS enters
POWERING, with ADMISSION(0, qualifying clock) and then HOST_STATE(2, 1) posted; otherwise the host stays as it
is (R54, R55, R56), and HOST_PWR_EN stays deasserted, whatever the order of the round's tasks. -/
def Obligations.SampleRoundAdmits : Prop :=
  ∀ (raw : PerFour Int) (supply : Int) (order : List RoundTask) (s : State),
    order.isPerm RoundTask.all = true → s.hold = false → s.hps.state = .qualifying →
    ∃ t, exec (.sampleRound raw supply order) s = .next t ∧
      t.settings = s.settings ∧ t.hsch = s.hsch ∧ t.afm = s.afm ∧ t.lnk = s.lnk ∧ t.hostPwrEn = false ∧
      (Admissible s.settings t.zmon.zones t.zmon.supplyLow →
        t.hps = { s.hps with
          state := .powering, prev := .qualifying, stage := .pending, stageTimer := none
          pendingOn := true } ∧
        ([⟨.admission, 0, s.hps.qualClock⟩, ⟨.hostState, 2, 1⟩].Sublist t.tmx.inbox ∨
          t.latched .eventsLost = true)) ∧
      (¬ Admissible s.settings t.zmon.zones t.zmon.supplyLow → t.hps = s.hps)

/-- At a boundary at which a power-on is pending, HPS asserts HOST_PWR_EN and waits for HOST_PWR_GOOD, or
goes on to RESET_HOLD at once where it is high already; with the supply-low cause present it withdraws
the power-on and re-enters QUALIFYING with the warm-up kept (R54, R57, R58, R59; that a boundary is taken once at
each end of slot 31 or of a reset is log entry 26). -/
def Obligations.BoundaryPowersTheHost : Prop :=
  ∀ (first : Bool) (s : State), s.hold = false → s.hsch.boundaryDue = true →
    s.hps.state = .powering → s.hps.stage = .pending → s.hps.pendingOn = true →
    ∃ t, exec (.climateBoundary first) s = .next t ∧
      t = { s with
        hps := t.hps, hsch := t.hsch, afm := t.afm, weu := t.weu, cpt := t.cpt, keq := t.keq
        tmx := t.tmx, cnu := t.cnu } ∧
      (s.live .supplyLow = false →
        t.hps = { s.hps with
          pendingOn := false
          stage := if s.powerGood then .resetHold else .waitGood
          stageTimer := some (if s.powerGood then s.settings.hostPower.resetPulse
            else s.settings.hostPower.powerGoodTimeout) } ∧
        t.hostPwrEn = true ∧ t.weu = s.weu ∧ t.cpt = s.cpt ∧ t.keq = s.keq ∧ t.tmx = s.tmx ∧
        t.cnu = s.cnu) ∧
      (s.live .supplyLow = true →
        t.hps = { s.hps with
          state := .qualifying, prev := .powering, stage := .noStage, stageTimer := none
          pendingOn := false } ∧
        t.hostPwrEn = false ∧ Posted ⟨.hostState, 1, 2⟩ s t ∧
        t.live .warmTimeout = (s.hps.warmTimeout || s.live .warmTimeout))

/-- The power-on sequence goes on: HOST_PWR_GOOD high ends WAIT_GOOD, and elsewhere only its level
changes; the end of RESET_HOLD and the end of RESETTING release the reset and enter BOOTING with the
watchdog's boot timer started (R59, R62, R79, R80). That the notice queue is empty then even where the
HOST_STATE event has met a full inbox is the model's choice (log entry 34). -/
def Obligations.PowerSequence : Prop :=
  (∀ s : State,
    exec .hostPwrGoodRise s = .next (
      if s.hps.state = .powering ∧ s.hps.stage = .waitGood then
        (s.setPowerGood true).setHps { s.hps with
          stage := .resetHold, stageTimer := some s.settings.hostPower.resetPulse }
      else s.setPowerGood true)) ∧
  (∀ (c : Instr) (s : State), s.powerGood = true → s.hps.stageTimer = some 0 →
    (c = .resetHoldExpiry ∧ s.hps.state = .powering ∧ s.hps.stage = .resetHold) ∨
      (c = .resettingExpiry ∧ s.hps.state = .resetting ∧ s.hps.stage = .noStage) →
    ∃ t, exec c s = .next t ∧
      t.hps = { s.hps with
        state := .booting, prev := s.hps.state, stage := .noStage, stageTimer := none
        pendingOn := false } ∧
      t.hostRstN = false ∧ t.hostPwrEn = true ∧
      t.weu = { s.weu with
        phase := if s.settings.watchdog.timeout = 0 then .off else .boot
        bootTimer := if s.settings.watchdog.timeout = 0 then none else some 0
        bootLimit := s.settings.watchdog.bootAllowance * 1000
        kickTimer := none, stable := .none } ∧
      t.cpt = { s.cpt with seen := .booting } ∧ t.keq = .initial .booting ∧
      t.cnu.seen = .booting ∧ t.cnu.notices = [] ∧ LatchesKept [] s t ∧
      Posted ⟨.hostState, 4, s.hps.state.num⟩ s t ∧ t.tmx.units = s.tmx.units ∧
      t.lnk = s.lnk ∧ OutsideKept s t)

/-- A POWER_FAIL in POWERING, BOOTING or RUNNING, and on entry to BOOTING, latches its condition and is
escalated as a CYCLE whatever the step's action: the ladder position, the newest record, the off time, the
emptied trace and the report that is due. On entry to BOOTING it is escalated from BOOTING (R59, R60, R62, R86,
R88, R89, R94, R96, R109, R186). -/
def Obligations.PowerFailCycles : Prop :=
  (∀ s : State, s.hps.state = .powering → s.hps.stage = .waitGood → s.hps.stageTimer = some 0 →
    ∃ t, exec .powerGoodTimeout s = .next t ∧ Escalated .powerFail none s t ∧ HostLost s t ∧
      t.latched .powerFail = true ∧ t.hostPwrEn = false ∧ t.lnk = { s.lnk with held := [] }) ∧
  (∀ s : State,
    (s.hps.state = .powering ∧ s.hps.stage = .resetHold) ∨ s.hps.state = .booting ∨
      s.hps.state = .running →
    ∃ t, exec .hostPwrGoodFall s = .next t ∧ Escalated .powerFail none (s.setPowerGood false) t ∧
      HostLost (s.setPowerGood false) t ∧ t.latched .powerFail = true ∧ t.hostPwrEn = false ∧
      t.lnk = { s.lnk with held := [] }) ∧
  (∀ (c : Instr) (s : State), s.powerGood = false → s.hps.stageTimer = some 0 →
    (c = .resetHoldExpiry ∧ s.hps.state = .powering ∧ s.hps.stage = .resetHold) ∨
      (c = .resettingExpiry ∧ s.hps.state = .resetting ∧ s.hps.stage = .noStage) →
    ∃ t, exec c s = .next t ∧
      Escalated .powerFail none (s.setHps { s.hps with state := .booting, prev := s.hps.state }) t ∧
      HostLost s t ∧ t.latched .powerFail = true ∧ t.hostPwrEn = false ∧
      Posted ⟨.hostState, 4, s.hps.state.num⟩ s t ∧ t.lnk = { s.lnk with held := [] })

/-- The host comes back by time: DRAIN ends at its timeout or when HOST_PWR_GOOD falls, with the off time
then begun; the end of the off time, of the lockout retry and of the wake time lead to QUALIFYING, the
retry with the ladder position at (0, 0) and LOCKOUT's live cause ended, the wake with the position kept
(R54, R63, R64, R71). -/
def Obligations.TimedReturns : Prop :=
  (∀ s : State, s.hps.state = .cycling → s.hps.stage = .drain →
    (s.hps.stageTimer = some 0 →
      exec .drainTimeout s = .next (s.setHps { s.hps with
        stage := .offTime, stageTimer := some (s.hps.offTime * 1000) })) ∧
    exec .hostPwrGoodFall s = .next ((s.setPowerGood false).setHps { s.hps with
      stage := .offTime, stageTimer := some (s.hps.offTime * 1000) })) ∧
  (∀ s : State, s.hps.state = .cycling → s.hps.stage = .offTime → s.hps.stageTimer = some 0 →
    s.live .warmTimeout = false →
    ∃ t, exec .offTimeExpiry s = .next t ∧ Requalified s t ∧ OutsideKept s t ∧ t.lnk = s.lnk ∧
      t.tmx.units = s.tmx.units ∧
      t.weu.step = s.weu.step ∧ t.weu.attempts = s.weu.attempts ∧ t.cpt.ring = s.cpt.ring ∧
      LatchesKept [] s t ∧ Posted ⟨.hostState, 1, 7⟩ s t) ∧
  (∀ s : State, s.hps.state = .lockedOut → s.hps.retryTimer = some 0 →
    ∃ t, exec .lockoutRetryExpiry s = .next t ∧ Requalified s t ∧ OutsideKept s t ∧ t.lnk = s.lnk ∧
      t.tmx.units = s.tmx.units ∧
      t.weu.step = 0 ∧ t.weu.attempts = 0 ∧ t.hps.retryTimer = none ∧ t.live .lockout = false ∧
      t.latched .lockout = s.latched .lockout ∧ Posted ⟨.hostState, 1, 9⟩ s t) ∧
  (∀ (at_ : Word32) (s : State), s.hps.state = .suspended → s.hps.wakeAt = some at_ →
    secondsTo at_ s.time.sec = 0 → s.live .warmTimeout = false →
    ∃ t, exec .wakeTime s = .next t ∧ Requalified s t ∧ OutsideKept s t ∧ t.lnk = s.lnk ∧
      t.tmx.units = s.tmx.units ∧
      t.weu.step = s.weu.step ∧ t.weu.attempts = s.weu.attempts ∧ t.hps.wakeAt = none ∧
      t.hps.wakeOnTrigger = false ∧ t.hps.preheat = false ∧ t.hps.stopCause = .none ∧
      t.hps.stopRequest = none ∧ LatchesKept [] s t ∧ Posted ⟨.hostState, 1, 8⟩ s t)

/-- A stop ends with its destination when its grace or its stop delay runs out, and every HELD request is
discarded (R67, R69, R71, R186). That the entry into OFF clears the stop's fields where the stop delay was
RUNNING's is log entry 14; that a stop_delay of 0 whose reply was cut ends at the expiry is log
entry 13. -/
def Obligations.StopsEndAtTheirDestination : Prop :=
  (∀ s : State, s.hps.state = .stopping → s.hps.stage = .grace → s.hps.stageTimer = some 0 →
    s.live .warmTimeout = false →
    ∃ t, exec .graceExpiry s = .next t ∧ StopEnded s t ∧ t.lnk = { s.lnk with held := [] } ∧
      t.weu.records = s.weu.records ∧ LatchesKept [] s t) ∧
  (∀ s : State, s.hps.state = .running ∨ s.hps.state = .stopping → s.hps.stage = .stopDelay →
    s.hps.stageTimer = some 0 → (∀ r, s.lnk.sending = some r → r.after ≠ .endStop) →
    s.live .warmTimeout = false →
    ∃ t, exec .stopDelayExpiry s = .next t ∧ StopEnded s t ∧ t.lnk = { s.lnk with held := [] } ∧
      t.weu.records = s.weu.records ∧ LatchesKept [] s t)

/-- REQUEST_STOP: refused in a state that is neither RUNNING nor STOPPING, busy in a stop delay, BAD_ARG
for a mode or a flag out of its set; else ACCEPTED, or CLAMPED with wake_delay limited to 604800 s, with
the request stored, the stop delay begun, and the destination set but in a THERMAL stop (R68, R69). That
wake_delay is read as unsigned, so that one with its top bit set is limited, is log entry 16. -/
def Obligations.RequestStop : Prop :=
  ∀ (tag mode d3 d2 d1 d0 flag : Byte) (s : State),
    Due s 0x15 tag [mode, d3, d2, d1, d0, flag] →
    let asked := (word32 d3 d2 d1 d0).toNat
    exec (.requestStop tag [mode, d3, d2, d1, d0, flag]) s = .next (
      if s.hps.state ≠ .running ∧ s.hps.state ≠ .stopping then
        s.setLnk (replying s 0x15 tag .refused [] .nothing)
      else if s.hps.stage = .stopDelay then s.setLnk (replying s 0x15 tag .busy [] .nothing)
      else if 1 < mode.toNat ∨ 1 < flag.toNat then
        s.setLnk (replying s 0x15 tag .badArg [] .nothing)
      else
        (s.setHps { s.hps with
          stopRequest := some ⟨mode = 1, min asked 604800, flag = 1⟩
          destination :=
            if s.hps.state = .stopping ∧ s.hps.stopCause ≠ .trigger then s.hps.destination
            else if mode = 1 then .suspended else .off
          stage := .stopDelay
          stageTimer := some (s.settings.hostPower.stopDelay * 1000) }).setLnk
        (replying s 0x15 tag (if asked ≤ 604800 then .accepted else .clamped)
          (u32 (min asked 604800))
          (if s.settings.hostPower.stopDelay = 0 then .endStop else .nothing)))

/-- What time alone brings: at warm_limit minutes of QUALIFYING, WARM_TIMEOUT is latched with its live cause and
ADMISSION(1, clock) posted (R57); a SUSPENDED host with a wake time computes its lead every 60 s, min(lead_max,
the largest lead_z of the gating zones) and 0 with none (R73), and begins the preheat when the time to wake has
come down to it (R74); a stable timer that reaches stable_time makes a PENDING newest record RECOVERED, sets the
ladder position to (0, 0), and is done (R91). The comparisons of R57, R74 and R91 are made where a second of the
clock or timer compared is complete (log entry 7). -/
def Obligations.WarmTimeoutPreheatAndStableTime : Prop :=
  (∀ s : State, s.hps.state = .qualifying → s.hps.warmTimeout = false → s.hps.qualMs = 0 →
    s.settings.hostPower.warmLimit * 60 ≤ s.hps.qualClock →
    ∃ t, exec .warmTimeout s = .next t ∧
      t.hps = { s.hps with warmTimeout := true } ∧ t.latched .warmTimeout = true ∧
      t.live .warmTimeout = true ∧ Posted ⟨.admission, 1, s.hps.qualClock⟩ s t ∧
      t = { s with hps := t.hps, cnu := t.cnu, tmx := t.tmx } ∧ t.tmx.units = s.tmx.units) ∧
  (∀ (at_ : Word32) (s : State), s.hps.state = .suspended → s.hps.wakeAt = some at_ →
    (s.hps.leadTimer = 0 →
      exec .leadComputation s = .next (s.setHps { s.hps with
        lead := leadOf s, leadTimer := 60, leadMs := 0 })) ∧
    (s.hps.preheat = false → s.hps.leadMs = 0 → secondsTo at_ s.time.sec ≤ s.hps.lead →
      exec .preheatBegin s = .next (s.setHps { s.hps with preheat := true }))) ∧
  (∀ (sec : Nat) (s : State), s.weu.stable = .counting sec 0 →
    s.settings.watchdog.stableTime ≤ sec →
    ∃ t, exec .stableTime s = .next t ∧
      t = s.setWeu { s.weu with
        step := 0, attempts := 0, stable := .done, records := t.weu.records } ∧
      t.weu.records =
        (match s.weu.records.getLast? with
         | some r =>
           if r.outcome = .pending then s.weu.records.dropLast ++ [{ r with outcome := .recovered }]
           else s.weu.records
         | none => []))

/-! ### Settings and the profile -/

/-- A write of ZONE, HEATER, BUDGET or FAN in its range becomes the working settings and is answered with
the effective values. A changed admission window restarts the zone's in-window timer; HSCH takes a HEATER
write at its next boundary; a FAN write aborts a learn (R7, R14, R20, R35, R36, R42, R48, R188, R191). -/
def Obligations.ClimateSettingsAreTaken : Prop :=
  (∀ (tag : Byte) (z : Zone) (fs : List Int) (c : ZoneSettings) (s : State), OnWire fs →
    zoneOf fs = some c → Due s 0x20 tag (1 :: BitVec.ofNat 8 z.num :: fs.flatMap i32) →
    exec (.writeZone tag (1 :: BitVec.ofNat 8 z.num :: fs.flatMap i32)) s = .next
      (((s.setSettings { s.settings with zone := s.settings.zone.set z c }).setZmon
        (if (s.settings.zone.get z).admitLow = c.admitLow ∧
            (s.settings.zone.get z).admitHigh = c.admitHigh then s.zmon
         else { s.zmon with
           zones := s.zmon.zones.set z { s.zmon.zones.get z with inWindow := 0 } })).setLnk
        (writeReply s tag 1 (BitVec.ofNat 8 z.num) fs c.fields .nothing))) ∧
  (∀ (tag : Byte) (h : Heater) (fs : List Int) (c : HeaterSettings) (s : State), OnWire fs →
    heaterOf fs = some c → Due s 0x20 tag (2 :: BitVec.ofNat 8 h.num :: fs.flatMap i32) →
    exec (.writeHeater tag (2 :: BitVec.ofNat 8 h.num :: fs.flatMap i32)) s = .next
      ((s.setSettings { s.settings with heater := s.settings.heater.set h c }).setLnk
        (writeReply s tag 2 (BitVec.ofNat 8 h.num) fs c.fields .nothing))) ∧
  (∀ (tag : Byte) (fs : List Int) (c : BudgetSettings) (s : State), OnWire fs →
    budgetOf fs = some c → Due s 0x20 tag (3 :: 0 :: fs.flatMap i32) →
    exec (.writeBudget tag (3 :: 0 :: fs.flatMap i32)) s = .next
      ((s.setSettings { s.settings with budget := c }).setLnk
        (writeReply s tag 3 0 fs c.fields .nothing))) ∧
  (∀ (tag : Byte) (fs : List Int) (c : FanSettings) (s : State), OnWire fs →
    fanOf fs = some c → Due s 0x20 tag (4 :: 0 :: fs.flatMap i32) →
    let stored := (s.setSettings { s.settings with fan := c }).setLnk
      (writeReply s tag 4 0 fs c.fields .nothing)
    exec (.writeFan tag (4 :: 0 :: fs.flatMap i32)) s = .next
      (if s.afm.learn = .idle then stored
       else notify (.operationDone .learn .aborted none)
         (stored.setAfm { s.afm with learn := .idle })))

/-- A write of WATCHDOG, LADDER or HOST_POWER with the policy lock clear becomes the working settings and
is answered with the effective values; the ladder position is adjusted to a new ladder (R75, R99, R100,
R188, R191). COMMIT_POLICY sets the lock, and a locked group answers LOCKED and keeps its settings
(R98). -/
def Obligations.PolicySettingsAndLock : Prop :=
  (∀ (tag : Byte) (fs : List Int) (c : WatchdogSettings) (s : State), OnWire fs →
    watchdogOf fs = some c → s.weu.policyLock = false → Due s 0x20 tag (5 :: 0 :: fs.flatMap i32) →
    exec (.writeWatchdog tag (5 :: 0 :: fs.flatMap i32)) s = .next
      ((s.setSettings { s.settings with watchdog := c }).setLnk
        (writeReply s tag 5 0 fs c.fields .nothing))) ∧
  (∀ (tag : Byte) (fs : List Int) (c : LadderSettings) (s : State), OnWire fs →
    ladderOf fs = some c → s.weu.policyLock = false → Due s 0x20 tag (6 :: 0 :: fs.flatMap i32) →
    exec (.writeLadder tag (6 :: 0 :: fs.flatMap i32)) s = .next
      (((s.setSettings { s.settings with ladder := c }).setWeu { s.weu with
        step := if c.stepCount ≤ s.weu.step then c.stepCount - 1 else s.weu.step
        attempts :=
          if c.stepCount ≤ s.weu.step then (c.step (c.stepCount - 1)).attempts
          else min s.weu.attempts (c.step s.weu.step).attempts }).setLnk
        (writeReply s tag 6 0 fs c.fields .nothing))) ∧
  (∀ (tag : Byte) (fs : List Int) (c : HostPowerSettings) (s : State), OnWire fs →
    hostPowerOf fs = some c → s.weu.policyLock = false → Due s 0x20 tag (7 :: 0 :: fs.flatMap i32) →
    exec (.writeHostPower tag (7 :: 0 :: fs.flatMap i32)) s = .next
      ((s.setSettings { s.settings with hostPower := c }).setLnk
        (writeReply s tag 7 0 fs c.fields .nothing))) ∧
  (∀ (tag : Byte) (s : State), Due s 0x17 tag [] →
    exec (.commitPolicy tag []) s = .next
      ((s.setWeu { s.weu with policyLock := true }).setLnk (replying s 0x17 tag .ok [] .nothing))) ∧
  (∀ (g n : Nat) (row : Byte → List Byte → Instr) (tag : Byte) (rest : List Byte) (s : State),
    (g, n, row) ∈ [(5, 7, Instr.writeWatchdog), (6, 13, .writeLadder), (7, 10, .writeHostPower)] →
    s.weu.policyLock = true → rest.length = 4 * n →
    Due s 0x20 tag (BitVec.ofNat 8 g :: 0 :: rest) →
    exec (row tag (BitVec.ofNat 8 g :: 0 :: rest)) s =
      .next (s.setLnk (replying s 0x20 tag .locked [] .nothing)))

/-- A write of KEYPAD, KEY, CHORD, TRIGGER, REPORT or LINK in its range becomes the working settings and
is answered with the effective values. A KEYPAD write handles the keys it no longer fits, and hands
nothing on where none of them was held or quarantined; a CHORD write restarts its chord; a TRIGGER write
gives the unit its initial state with fire count 0; the rate of a LINK write waits for the end of its
reply (R133, R134, R153, R159, R171, R180, R188, R191). That an unfitted key's raw count and delta become 0 is
log entry 31. -/
def Obligations.PadTriggerAndLinkSettingsAreTaken : Prop :=
  (∀ (tag : Byte) (fs : List Int) (c : KeypadSettings) (s : State), OnWire fs →
    keypadOf fs = some c → s.ksu.keys.length = 20 → Due s 0x20 tag (8 :: 0 :: fs.flatMap i32) →
    ∃ t, exec (.writeKeypad tag (8 :: 0 :: fs.flatMap i32)) s = .next t ∧
      t = { s with
        settings := { s.settings with keypad := c }, ksu := { s.ksu with keys := t.ksu.keys }
        keq := t.keq, tmx := t.tmx, cnu := t.cnu
        lnk := writeReply s tag 8 0 fs c.fields .nothing } ∧
      t.ksu.keys.length = 20 ∧
      (∀ k < 20,
        if k < c.keysFitted then t.ksu.key k = s.ksu.key k
        else (t.ksu.key k).state = .idle ∧ (t.ksu.key k).baseline = none ∧ (t.ksu.key k).raw = 0 ∧
          (t.ksu.key k).delta = 0 ∧
          ((s.ksu.key k).state.held = true → Told (releaseEvent s k) t)) ∧
      ((∀ k < 20, c.keysFitted ≤ k →
          (s.ksu.key k).state.held = false ∧ (s.ksu.key k).state ≠ .quarantined) →
        t.keq = s.keq ∧ t.tmx = s.tmx ∧ t.cnu = s.cnu)) ∧
  (∀ (tag index : Byte) (fs : List Int) (c : Bool) (s : State), OnWire fs → index.toNat < 20 →
    s.settings.keyRepeat.length = 20 →
    keyOf fs = some c → Due s 0x20 tag (9 :: index :: fs.flatMap i32) →
    exec (.writeKey tag (9 :: index :: fs.flatMap i32)) s = .next
      ((s.setSettings { s.settings with
        keyRepeat := s.settings.keyRepeat.set index.toNat c }).setLnk
        (writeReply s tag 9 index fs [if c then 1 else 0] .nothing))) ∧
  (∀ (tag : Byte) (i : Chord) (fs : List Int) (c : ChordSettings) (s : State), OnWire fs →
    chordOf fs = some c → Due s 0x20 tag (10 :: BitVec.ofNat 8 i.num :: fs.flatMap i32) →
    exec (.writeChord tag (10 :: BitVec.ofNat 8 i.num :: fs.flatMap i32)) s = .next
      (((s.setSettings { s.settings with chord := s.settings.chord.set i c }).setKsu
        { s.ksu with chords := s.ksu.chords.set i ⟨none, false⟩ }).setLnk
        (writeReply s tag 10 (BitVec.ofNat 8 i.num) fs c.fields .nothing))) ∧
  (∀ (tag : Byte) (u : TrigUnit) (fs : List Int) (c : TriggerSettings) (s : State), OnWire fs →
    triggerOf fs = some c → Due s 0x20 tag (11 :: BitVec.ofNat 8 u.num :: fs.flatMap i32) →
    exec (.writeTrigger tag (11 :: BitVec.ofNat 8 u.num :: fs.flatMap i32)) s = .next
      (if armingCycle (s.settings.trigger.set u c) u then
        s.setLnk (replying s 0x20 tag .badArg [] .nothing)
       else
        ((s.setSettings { s.settings with trigger := s.settings.trigger.set u c }).setTmx
          { s.tmx with
            units := s.tmx.units.set u
              ⟨if c.enabled = false then .disabled
               else if c.armBy.isSome then .waitingArm
               else if c.preset = 0 then .ready else .counting, c.preset, 0, none⟩ }).setLnk
          (writeReply s tag 11 (BitVec.ofNat 8 u.num) fs c.fields .nothing))) ∧
  (∀ (tag : Byte) (x : Int) (s : State), OnWire [x] → Due s 0x20 tag (12 :: 0 :: i32 x) →
    let c : Word32 := BitVec.ofInt 32 x &&& 0x3FFFFFFF#32
    exec (.writeReport tag (12 :: 0 :: i32 x)) s = .next
      ((s.setSettings { s.settings with report := c }).setLnk
        (writeReply s tag 12 0 [x] [c.toInt] .nothing))) ∧
  (∀ (tag : Byte) (c : LineRate) (s : State), Due s 0x20 tag (13 :: 0 :: i32 c.baud) →
    exec (.writeLink tag (13 :: 0 :: i32 c.baud)) s = .next
      ((s.setSettings { s.settings with link := c }).setLnk
        (writeReply s tag 13 0 [(c.baud : Int)] [(c.baud : Int)] .applyRate)))

/-- What a write's fields become, for every group: the effective settings are exactly the written fields, the
enumerated ones by their names and the numeric ones limited to their ranges and adjusted in the order of the
group's rule, and a write is refused where there are no such settings (R15, R35, R36, R42, R75, R99, R100, R133,
R134, R159, R171, R180, R188; negative fields, log entry 16). So settings in range are taken unchanged, and
effective settings written back are taken as they stand, on fields that fit the link (R190, R191). -/
def Obligations.EffectiveSettingsReadBack : Prop :=
  (∀ fs c, zoneOf fs = some c ↔ ZoneTaken fs c) ∧
  (∀ fs c, heaterOf fs = some c ↔ HeaterTaken fs c) ∧
  (∀ fs c, budgetOf fs = some c ↔ BudgetTaken fs c) ∧
  (∀ fs c, fanOf fs = some c ↔ FanTaken fs c) ∧
  (∀ fs c, watchdogOf fs = some c ↔ WatchdogTaken fs c) ∧
  (∀ fs c, ladderOf fs = some c ↔ LadderTaken fs c) ∧
  (∀ fs c, hostPowerOf fs = some c ↔ HostPowerTaken fs c) ∧
  (∀ fs c, keypadOf fs = some c ↔ KeypadTaken fs c) ∧
  (∀ fs c, keyOf fs = some c ↔ KeyTaken fs c) ∧
  (∀ fs c, chordOf fs = some c ↔ ChordTaken fs c) ∧
  (∀ fs c, triggerOf fs = some c ↔ TriggerTaken fs c) ∧
  (∀ fs c, reportOf fs = some c ↔ ReportTaken fs c) ∧
  (∀ fs c, linkOf fs = some c ↔ LinkTaken fs c) ∧
  (∀ c, ZoneSettingsOk c → zoneOf c.fields = some c) ∧
  (∀ c, HeaterSettingsOk c → heaterOf c.fields = some c) ∧
  (∀ b f, ClimateSettingsOk b f → budgetOf b.fields = some b ∧ fanOf f.fields = some f) ∧
  (∀ w l h, PolicySettingsOk w l h →
    watchdogOf w.fields = some w ∧ ladderOf l.fields = some l ∧ hostPowerOf h.fields = some h) ∧
  (∀ c, KeypadSettingsOk c → keypadOf c.fields = some c) ∧
  (∀ c, keyOf [ofBool c] = some c) ∧
  (∀ c, ChordSettingsOk c → chordOf c.fields = some c) ∧
  (∀ c, TriggerSettingsOk c → triggerOf c.fields = some c) ∧
  (∀ c, c &&& 0x3FFFFFFF#32 = c → reportOf [c.toInt] = some c) ∧
  (∀ c : LineRate, linkOf [(c.baud : Int)] = some c) ∧
  (∀ fs c, zoneOf fs = some c → zoneOf c.fields = some c ∧ OnWire c.fields) ∧
  (∀ fs c, heaterOf fs = some c → heaterOf c.fields = some c ∧ OnWire c.fields) ∧
  (∀ fs c, budgetOf fs = some c → budgetOf c.fields = some c ∧ OnWire c.fields) ∧
  (∀ fs c, fanOf fs = some c → fanOf c.fields = some c ∧ OnWire c.fields) ∧
  (∀ fs c, watchdogOf fs = some c → watchdogOf c.fields = some c ∧ OnWire c.fields) ∧
  (∀ fs c, ladderOf fs = some c → ladderOf c.fields = some c ∧ OnWire c.fields) ∧
  (∀ fs c, hostPowerOf fs = some c → hostPowerOf c.fields = some c ∧ OnWire c.fields) ∧
  (∀ fs c, keypadOf fs = some c → keypadOf c.fields = some c ∧ OnWire c.fields) ∧
  (∀ fs c, keyOf fs = some c → keyOf [ofBool c] = some c) ∧
  (∀ fs c, chordOf fs = some c → chordOf c.fields = some c ∧ OnWire c.fields) ∧
  (∀ fs c, triggerOf fs = some c → triggerOf c.fields = some c ∧ OnWire c.fields) ∧
  (∀ fs c, reportOf fs = some c → reportOf [c.toInt] = some c ∧ OnWire [c.toInt]) ∧
  (∀ fs c, linkOf fs = some c → linkOf [(c.baud : Int)] = some c ∧ OnWire [(c.baud : Int)])

/-- Every step keeps all thirteen groups of the settings, those of a VALID image and those of a snapshot in the
ranges that the clamping of their writes leaves, with no cycle of arming relations among the trigger units
(R15, R35, R36, R42, R75, R99, R100, R133, R134, R159, R171, R197). -/
def Obligations.SettingsInvariant : Prop :=
  ∀ s t : State, AllSettingsOk s → step s = .next t → AllSettingsOk t

/-- STORE_PROFILE takes a snapshot and makes the image INVALID, or is BUSY while a store is in progress;
the store's completion makes the snapshot the image, with its check, so that it is VALID and reads back as the
snapshot, or latches STORE_FAILED, the CONDITION notice first where it is newly latched and enabled, with
OPERATION_DONE handed to CNU in either case; nothing else changes (R168, R174, R196, R197; the bytes that the
check is computed over are log entry 18). -/
def Obligations.ProfileStore : Prop :=
  (∀ (tag : Byte) (s : State), Due s 0x22 tag [] →
    exec (.storeProfile tag []) s = .next (
      if s.pst.storing.isSome then s.setLnk (replying s 0x22 tag .busy [] .nothing)
      else (s.setPst { s.pst with image := none, storing := some ⟨s.settings, 300⟩ }).setLnk
        (replying s 0x22 tag .accepted [] .nothing))) ∧
  (∀ (x : Storing) (s : State), s.pst.storing = some x →
    (∃ t, exec (.storeComplete true) s = .next t ∧
      t = notify (.operationDone .store .ok none) (s.setPst t.pst) ∧
      t.pst.content? = some x.snapshot ∧ t.pst.cell = s.pst.cell ∧ t.pst.storing = none ∧
      ∀ i, t.pst.image = some i → i.content = x.snapshot ∧ i.check = imageCheck x.snapshot) ∧
    ∃ t, exec (.storeComplete false) s = .next t ∧
      t = { s with
        pst := { s.pst with image := none, storing := none }
        cnu := { s.cnu with
          latched := t.cnu.latched, notices := t.cnu.notices, overflow := t.cnu.overflow } } ∧
      t.latched .storeFailed = true ∧
      (∀ c : Cond, c ≠ .storeFailed → t.latched c = s.latched c) ∧
      (if s.hold = false ∧ s.cnu.seen.listening = true then
        let first :=
          if s.latched .storeFailed = false ∧ s.enabled .storeFailed = true then
            queueNotice s.cnu.notices ⟨s.time.sec, .condition .storeFailed⟩
          else (s.cnu.notices, false)
        let second := queueNotice first.1 ⟨s.time.sec, .operationDone .store .failed none⟩
        t.cnu.notices = second.1 ∧ t.cnu.overflow = (s.cnu.overflow || first.2 || second.2)
       else t.cnu.notices = s.cnu.notices ∧ t.cnu.overflow = s.cnu.overflow))

/-- REVERT_PROFILE and FACTORY_SETTINGS reload every group from the image or from the factory defaults, but
for the policy groups while the lock is set, with the owners' effects: chords restart, units take their
initial state, a learn ends, the ladder position is adjusted, keys that are no longer fitted become IDLE.
REVERT_PROFILE is BUSY during a store and REFUSED with an INVALID image, an image whose check is wrong among
them (R7, R48, R100, R133, R134, R160, R180, R196, R198). That the assembler returns to HUNTING after the reply
even where the rate stays is log entry 19; an unfitted key's raw count and delta are log entry 31; that a
KEY_RELEASE may find the inbox full, and latch EVENTS_LOST, is log entry 33. -/
def Obligations.ProfileReload : Prop :=
  (∀ (tag : Byte) (s : State), Due s 0x23 tag [] →
    (s.pst.storing.isSome = true →
      exec (.revertProfile tag []) s = .next (s.setLnk (replying s 0x23 tag .busy [] .nothing))) ∧
    (s.pst.storing = none →
      (∀ i, s.pst.image = some i → i.check ≠ imageCheck i.content) →
      exec (.revertProfile tag []) s =
        .next (s.setLnk (replying s 0x23 tag .refused [] .nothing)))) ∧
  (∀ (c : Instr) (kind tag : Byte) (src : Settings) (s : State),
    (c = .revertProfile tag [] ∧ kind = 0x23 ∧ s.pst.storing = none ∧
        s.pst.image = some ⟨src, imageCheck src⟩) ∨
      (c = .factorySettings tag [] ∧ kind = 0x24 ∧ src = Settings.factory) →
    Due s kind tag [] → s.settings.keyRepeat.length = 20 → src.keyRepeat.length = 20 →
    s.ksu.keys.length = 20 →
    ∃ t, exec c s = .next t ∧
      t = { s with
        settings := t.settings, zmon := { s.zmon with zones := t.zmon.zones }
        afm := { s.afm with learn := .idle }, weu := t.weu
        ksu := { s.ksu with keys := t.ksu.keys, chords := t.ksu.chords }, keq := t.keq
        tmx := t.tmx, cnu := t.cnu, lnk := replying s kind tag .ok [] .applyRate } ∧
      t.settings =
        (if s.weu.policyLock then
          { src with
            watchdog := s.settings.watchdog, ladder := s.settings.ladder
            hostPower := s.settings.hostPower }
         else src) ∧
      (∀ z : Zone, t.zmon.zones.get z =
        (if (s.settings.zone.get z).admitLow = (src.zone.get z).admitLow ∧
            (s.settings.zone.get z).admitHigh = (src.zone.get z).admitHigh then s.zmon.zones.get z
         else { s.zmon.zones.get z with inWindow := 0 })) ∧
      t.weu =
        (if s.weu.policyLock then s.weu
         else { s.weu with
           step := if src.ladder.stepCount ≤ s.weu.step then src.ladder.stepCount - 1 else s.weu.step
           attempts :=
             if src.ladder.stepCount ≤ s.weu.step then
               (src.ladder.step (src.ladder.stepCount - 1)).attempts
             else min s.weu.attempts (src.ladder.step s.weu.step).attempts }) ∧
      (∀ k < 20,
        if k < src.keypad.keysFitted then t.ksu.key k = s.ksu.key k
        else (t.ksu.key k).state = .idle ∧ (t.ksu.key k).baseline = none ∧ (t.ksu.key k).raw = 0 ∧
          (t.ksu.key k).delta = 0 ∧
          ((s.ksu.key k).state.held = true → Told (releaseEvent s k) t)) ∧
      ((∀ k < 20, src.keypad.keysFitted ≤ k →
          (s.ksu.key k).state.held = false ∧ (s.ksu.key k).state ≠ .quarantined) →
        t.keq = s.keq ∧ t.tmx.inbox = s.tmx.inbox ∧ (s.afm.learn = .idle → t.cnu = s.cnu)) ∧
      (∀ cond : Cond, cond ≠ .eventsLost → t.latched cond = s.latched cond) ∧
      (∀ cond : Cond, cond ≠ .keyStuck → t.live cond = s.live cond) ∧
      (∀ u : TrigUnit, t.tmx.units.get u = UnitRec.initial (src.trigger.get u) 0) ∧
      (∀ i : Chord, t.ksu.chords.get i = ⟨none, false⟩))

/-! ### Climate -/

/-- One sample round updates every zone record from its own sample: the validity and its runs, with
SENSOR_FAULT latched and its live cause present while the zone is INVALID (R4); the ring and the floor of its
mean (R5); the in-window, blind and crit timers (R7, R8, R11); and the alarm state, with its event (R9, R10),
whatever the order of what the round brings about (log entry 3). -/
def Obligations.SampleRoundUpdatesZones : Prop :=
  ∀ (raw : PerFour Int) (supply : Int) (order : List RoundTask) (s : State),
    order.isPerm RoundTask.all = true → s.hold = false →
    ∃ t, exec (.sampleRound raw supply order) s = .next t ∧
      t = { s with
        zmon := t.zmon, hps := t.hps, weu := t.weu, cpt := t.cpt, ksu := t.ksu, keq := t.keq
        tmx := { s.tmx with inbox := t.tmx.inbox }, cnu := t.cnu
        lnk := { s.lnk with held := t.lnk.held } } ∧
      ∀ z : Zone,
        let o := s.zmon.zones.get z
        let n := t.zmon.zones.get z
        let c := s.settings.zone.get z
        let x := raw.get z
        let ok : Prop := -550 ≤ x ∧ x ≤ 1250
        (o.valid = true → ok → n.valid = true ∧ n.invalidRun = 0) ∧
        (o.valid = true → ¬ ok →
          if o.invalidRun + 1 < 3 then n.valid = true ∧ n.invalidRun = o.invalidRun + 1
          else n.valid = false ∧ n.invalidRun = 0 ∧ n.validRun = 0) ∧
        (o.valid = false → ok →
          if o.validRun + 1 < 10 then n.valid = false ∧ n.validRun = o.validRun + 1
          else n.valid = true ∧ n.invalidRun = 0 ∧ n.validRun = 0) ∧
        (o.valid = false → ¬ ok → n.valid = false ∧ n.validRun = 0) ∧
        t.live (.sensorFault z) = !n.valid ∧
        t.latched (.sensorFault z) = (s.latched (.sensorFault z) || (o.valid && !n.valid)) ∧
        (n.valid = false → n.filtered = none) ∧
        (n.valid = true →
          n.ring =
            (if o.valid = false then [x]
             else if ok then
               (if o.ring.length < 4 then o.ring ++ [x] else o.ring.drop 1 ++ [x])
             else o.ring) ∧
          n.filtered =
            (if n.ring = [] then none else some (Int.fdiv n.ring.sum n.ring.length))) ∧
        n.inWindow =
          (match t.zoneTemp z with
           | some v => if c.admitLow ≤ v ∧ v ≤ c.admitHigh then satInc 65535 o.inWindow else 0
           | none => 0) ∧
        (let counts : Prop := ∀ h : Heater, h.num = z.num →
           (s.hsch.heaters.get h).enabled = true ∧ s.latched (.heaterFault h) = false ∧
             1 ≤ (s.hsch.heaters.get h).fallback
         (n.valid = true → n.blind = 0) ∧
         (n.valid = false → counts → n.blind = min 65535 (o.blind + 1)) ∧
         (n.valid = false → ¬ counts → n.blind = o.blind)) ∧
        (c.floor + 20 ≤ c.ceiling → n.alarm =
          (match t.zoneTemp z with
           | some v =>
             if v < c.floor then .low else if c.ceiling < v then .high
             else if c.floor + 10 ≤ v ∧ v ≤ c.ceiling - 10 then .normal else o.alarm
           | none => o.alarm)) ∧
        (n.alarm ≠ o.alarm →
          Told ⟨match n.alarm with | .low => .zoneLow | .high => .zoneHigh | .normal => .zoneNormal,
            BitVec.ofNat 8 z.num, (t.zoneTemp z).getD 0⟩ t) ∧
        n.critTimer =
          (match t.zoneTemp z with
           | some v => if c.crit < v then satInc 10 o.critTimer else 0
           | none => 0)

/-- In the same round the supply record follows its sample through the two thresholds, with SUPPLY_LOW's
live cause present exactly while the supply is LOW (R12). A zone whose crit timer reaches 10 is a crit
excursion (R11), and HPS acts on it by its state, row by row (R65, R66): a BOOTING or RUNNING host begins a
THERMAL stop; in a stop delay THERMAL_STOP is only latched; a TRIGGER stop becomes THERMAL, with its grace begun
again; a THERMAL stop goes on; POWERING and RESETTING are abandoned; elsewhere it is ignored. Two zones of one
round, and the tasks of the round, may fall in any order (log entry 3). -/
def Obligations.SampleRoundSupplyAndCrit : Prop :=
  ∀ (raw : PerFour Int) (supply : Int) (order : List RoundTask) (s : State),
    order.isPerm RoundTask.all = true → s.hold = false →
    ∃ t, exec (.sampleRound raw supply order) s = .next t ∧
      t.zmon.supply = (min supply 400).toNat ∧
      (let low := s.settings.budget.supplyLow
       let x := (min supply 400).toNat
       let counts : Prop := if s.zmon.supplyLow then low + 10 ≤ x else x < low
       (¬ counts → t.zmon.supplyLow = s.zmon.supplyLow ∧ t.zmon.supplyRun = 0) ∧
       (counts → s.zmon.supplyRun + 1 < 3 →
         t.zmon.supplyLow = s.zmon.supplyLow ∧ t.zmon.supplyRun = s.zmon.supplyRun + 1) ∧
       (counts → 3 ≤ s.zmon.supplyRun + 1 →
         t.zmon.supplyLow = (!s.zmon.supplyLow) ∧ t.zmon.supplyRun = 0 ∧
         Told ⟨.supply, if s.zmon.supplyLow then 1 else 0, (x : Nat)⟩ t) ∧
       t.live .supplyLow = t.zmon.supplyLow ∧
       t.latched .supplyLow = (s.latched .supplyLow || (!s.zmon.supplyLow && t.zmon.supplyLow))) ∧
      (let reached (z : Zone) : Prop :=
         (s.zmon.zones.get z).critTimer < 10 ∧ (t.zmon.zones.get z).critTimer = 10
       let grace := s.settings.hostPower.stopGrace
       let told : Prop := ∃ z : Zone, t.hps.stopZone = some z ∧ reached z ∧
         (s.cnu.seen.listening = true →
           ⟨s.time.sec, .shutdownRequest .thermal (some z) grace⟩ ∈ t.cnu.notices)
       let ignored : Prop := t.hps = s.hps ∧ t.weu = s.weu ∧ t.lnk = s.lnk ∧
         t.latched .thermalStop = s.latched .thermalStop
       let admitted := Admissible s.settings t.zmon.zones t.zmon.supplyLow
       ((∀ z, ¬ reached z) → s.hps.state ≠ .qualifying → ignored) ∧
       (s.hps.state = .off ∨ s.hps.state = .cycling ∨ s.hps.state = .suspended ∨
         s.hps.state = .lockedOut ∨ (s.hps.state = .qualifying ∧ ¬ admitted) ∨
         (s.hps.state = .stopping ∧ s.hps.stopCause = .thermal) → ignored) ∧
       ((∃ z, reached z) →
         (s.hps.state = .booting ∨ (s.hps.state = .running ∧ s.hps.stage ≠ .stopDelay) →
           t.hps.state = .stopping ∧ t.hps.prev = s.hps.state ∧ t.hps.stage = .grace ∧
           t.hps.stageTimer = some (grace * 1000) ∧ t.hps.stopCause = .thermal ∧
           t.hps.destination = .qualifying ∧ t.hps.stopRequest = none ∧ told ∧
           t.latched .thermalStop = true ∧ t.hostRstN = false ∧ t.hostPwrEn = true) ∧
         (s.hps.state = .running → s.hps.stage = .stopDelay →
           t.hps = s.hps ∧ t.weu = s.weu ∧ t.lnk = s.lnk ∧ t.latched .thermalStop = true) ∧
         (s.hps.state = .stopping → s.hps.stopCause = .trigger →
           t.hps = { s.hps with
             stopCause := .thermal, stopZone := t.hps.stopZone, destination := .qualifying
             stageTimer := if s.hps.stage = .grace then some (grace * 1000) else s.hps.stageTimer } ∧
           (∃ z : Zone, t.hps.stopZone = some z ∧ reached z) ∧ (s.hps.stage = .grace → told) ∧
           t.weu = s.weu ∧ t.lnk = s.lnk ∧ t.latched .thermalStop = true) ∧
         (s.hps.state = .powering ∨ s.hps.state = .resetting →
           (¬ admitted → t.hps.state = .qualifying ∧ t.hps.stage = .noStage ∧
             t.hps.pendingOn = false) ∧
           (admitted → t.hps.state = .powering ∧ t.hps.stage = .pending ∧ t.hps.pendingOn = true) ∧
           t.hps.qualClock = (if s.hps.state = .powering then s.hps.qualClock else 0) ∧
           t.hostPwrEn = false ∧ t.lnk.held = (if s.hostPwrEn then [] else s.lnk.held) ∧
           t.latched .thermalStop = true)))

/-- At a boundary HSCH copies the heater settings, gives every heater its target by the host state it
reads and its demand by the error, the fallback or a fault, computes the available budget, serves the
ranks in turn from it, and drives slot 0. What is granted and what is left make up the energy budget,
and no grant exceeds its demand. The runs of current readings restart where a current limit has changed; otherwise
they, and the last current, stand (R31, R18, R20, R21, R22, R23, R24, R25, R27, R28, R29; that the boundary is
taken once at each end of slot 31 or of a reset is log entry 26). -/
def Obligations.BoundaryServesHeatersWithinBudget : Prop :=
  ∀ (first : Bool) (s : State), s.hold = false → s.hsch.boundaryDue = true →
    s.hps.pendingOn = (s.hps.state == .powering && s.hps.stage == .pending) →
    ∃ t, exec (.climateBoundary first) s = .next t ∧
      (s.hps.pendingOn = false → t = { s with hsch := t.hsch, afm := t.afm }) ∧
      t.hsch.slot = 0 ∧ t.hsch.boundaryDue = false ∧
      (let read : HostState :=
         if first = true ∧ s.hps.pendingOn = true ∧ s.live .supplyLow = true then .qualifying
         else s.hps.state
       ∀ i : Heater,
         let h := t.hsch.heaters.get i
         let c := s.settings.heater.get i
         let zs := s.settings.zone.get (heatedZone i)
         let target : Int :=
           if read = .qualifying ∨ read = .cycling ∨ (read = .suspended ∧ s.hps.preheat = true) then
             zs.warmTarget
           else if read = .off ∨ read = .lockedOut ∨ read = .suspended then zs.idleTarget
           else zs.holdTarget
         h.enabled = c.enabled ∧ h.rating = c.rating ∧ h.rank = c.rank ∧ h.fallback = c.fallback ∧
         h.iMin = c.iMin ∧ h.iMax = c.iMax ∧ h.target = some target ∧
         (let o := s.hsch.heaters.get i
          let changed : Bool := o.iMin != c.iMin || o.iMax != c.iMax
          h.lowRun = (if changed then 0 else o.lowRun) ∧
          h.highRun = (if changed then 0 else o.highRun) ∧ h.lastCurrent = o.lastCurrent) ∧
         h.dem =
           (if c.enabled = false ∨ s.latched (.heaterFault i) = true then 0
            else
              match s.zoneTemp (heatedZone i) with
              | some x => min 32 ((target - x).toNat * zs.gain / 64)
              | none => c.fallback) ∧
         h.output = onInSlot i h.g 0) ∧
      t.hsch.shed = s.live .supplyLow ∧ t.hsch.fanReserve = decide (0 < t.afm.duty) ∧
      t.hsch.avail =
        (if s.live .supplyLow then 0
         else s.settings.budget.cabinetBudget -
           (if s.hostPwrEn || s.powerGood || s.hps.pendingOn then s.settings.budget.hostReserve else 0) -
           (if 0 < t.afm.duty then s.settings.budget.fanReserve else 0)) ∧
      t.hsch.energy = 32 * t.hsch.avail ∧
      (let hs := t.hsch.heaters.list
       let spent (r : Nat) : Nat :=
         (hs.map fun h => if 1 ≤ h.rank ∧ h.rank < r then h.g * h.rating else 0).sum
       let asked (r : Nat) : Nat := (hs.map fun h => if h.rank = r then h.dem * h.rating else 0).sum
       (∀ h ∈ hs, 1 ≤ h.rank → h.rank ≤ 3 →
         h.g = (if asked h.rank ≤ t.hsch.energy - spent h.rank then h.dem
                else h.dem * (t.hsch.energy - spent h.rank) / asked h.rank)) ∧
       (hs.map fun h => h.g * h.rating).sum + t.hsch.unspent = t.hsch.energy ∧
       (∀ h ∈ hs, h.g ≤ h.dem) ∧
       ((∀ i : Heater, (s.settings.heater.get i).fallback ≤ 32) → ∀ h ∈ hs, h.g ≤ 32))

/-- At a boundary AFM judges whether the fan runs, by Z3's temperature with 20 tenths of hysteresis, and
sets the duty by the first case that applies: learn, blind, boost, off, computed within min_duty and 100;
a WAITING learn begins measuring (R40, R41, R46; the boundary that is due, log entry 26). -/
def Obligations.BoundarySetsTheFanDuty : Prop :=
  ∀ (first : Bool) (s : State), s.hold = false → s.hsch.boundaryDue = true →
    ∃ t, exec (.climateBoundary first) s = .next t ∧
      let c := s.settings.fan
      let boost : Prop := ∃ (z : Zone) (x : Int), s.zoneTemp z = some x ∧ (s.settings.zone.get z).ceiling < x
      t.afm.running =
        (match s.zoneTemp .n3 with
         | some x => decide (c.fanOn ≤ x ∨ (s.afm.running = true ∧ c.fanOn - 20 ≤ x))
         | none => s.afm.running) ∧
      (s.afm.learn ≠ .idle → t.afm.duty = 100 ∧ t.afm.reason = .learn ∧ t.afm.learn = .measuring) ∧
      (s.afm.learn = .idle → t.afm.learn = .idle ∧
        match s.zoneTemp .n3 with
        | none => t.afm.duty = 100 ∧ t.afm.reason = .blind
        | some x =>
          (boost → t.afm.duty = 100 ∧ t.afm.reason = .boost) ∧
          (¬ boost → t.afm.running = false → t.afm.duty = 0 ∧ t.afm.reason = .off) ∧
          (¬ boost → t.afm.running = true → t.afm.reason = .computed ∧
            (t.afm.duty : Int) = max (c.minDuty : Int)
              (min (c.minDuty + Int.fdiv ((x - c.fanOn) * (100 - c.minDuty)) (c.fanFull - c.fanOn))
                100))) ∧
      t.afm = { s.afm with
        running := t.afm.running, duty := t.afm.duty, reason := t.afm.reason, learn := t.afm.learn }

/-- At the end of a slot each heater that was on has its reading tested: two low readings in a row fault
it as open, two high ones as short, switching it off with no grant left; the next slot is driven from the
placement, whatever the order of the faults (R18, R30, R31, R32; log entry 3). After slot 31 no other slot of
the old placement follows: the boundary is due (log entry 26). -/
def Obligations.SlotEndTestsCurrents : Prop :=
  ∀ (current : PerThree Int) (order : List Heater) (s : State),
    order.isPerm heaters = true → s.hold = false → s.hsch.boundaryDue = false →
    ∃ t, exec (.slotEnd current order) s = .next t ∧
      t.hsch = { s.hsch with
        slot := if s.hsch.slot < 31 then s.hsch.slot + 1 else s.hsch.slot
        boundaryDue := decide (31 ≤ s.hsch.slot), heaters := t.hsch.heaters } ∧
      t = { s with
        hsch := t.hsch, tmx := { s.tmx with inbox := t.tmx.inbox }
        cnu := { s.cnu with
          latched := t.cnu.latched, kinds := t.cnu.kinds, notices := t.cnu.notices
          overflow := t.cnu.overflow } } ∧
      ∀ i : Heater,
        let h := s.hsch.heaters.get i
        let n := t.hsch.heaters.get i
        let x := (min (current.get i) 5000).toNat
        let low := if x < h.iMin then h.lowRun + 1 else 0
        let high := if h.iMax < x then h.highRun + 1 else 0
        if h.output = true ∧ (2 ≤ low ∨ 2 ≤ high) then
          n = { h with output := false, g := 0, lowRun := 0, highRun := 0, lastCurrent := x } ∧
          t.latched (.heaterFault i) = true ∧
          t.cnu.kinds.get i = (if 2 ≤ low then .openLoad else .short) ∧
          (⟨.heater, BitVec.ofNat 8 i.num, if 2 ≤ low then 0 else 1⟩ ∈ t.tmx.inbox ∨
            t.latched .eventsLost = true)
        else
          n = { h with
            output := if s.hsch.slot < 31 then onInSlot i h.g (s.hsch.slot + 1) else h.output
            lowRun := if h.output then low else h.lowRun
            highRun := if h.output then high else h.highRun
            lastCurrent := if h.output then x else h.lastCurrent } ∧
          t.latched (.heaterFault i) = s.latched (.heaterFault i) ∧
          t.cnu.kinds.get i = s.cnu.kinds.get i

/-- Each fan measurement sets the speed from its pulses at every duty (R43), and moves the stall state:
five slow commanded measurements in a row stall the fan with FAN_STALL latched, five fast ones end it,
and a period at 0 % breaks both runs (R44). -/
def Obligations.FanMeasurementJudgesStall : Prop :=
  ∀ (pulses : Nat) (cellOk : Bool) (s : State), s.hold = false →
    ∃ t, exec (.fanMeasurement pulses cellOk) s = .next t ∧
      t = { s with
        afm := t.afm, pst := { s.pst with cell := t.pst.cell }
        tmx := { s.tmx with inbox := t.tmx.inbox }, cnu := t.cnu } ∧
      t.afm.running = s.afm.running ∧ t.afm.duty = s.afm.duty ∧ t.afm.reason = s.afm.reason ∧
      t.afm.speed = min 30000 (pulses * 30) ∧
      (let a := s.afm
       let b := t.afm
       let slow : Prop := b.speed < s.settings.fan.stallRpm
       (a.duty = 0 → b.stalled = a.stalled ∧ b.slowRun = 0 ∧ b.fastRun = 0) ∧
       (a.duty ≠ 0 → a.stalled = false → ¬ slow → b.stalled = false ∧ b.slowRun = 0) ∧
       (a.duty ≠ 0 → a.stalled = false → slow →
         if a.slowRun + 1 < 5 then b.stalled = false ∧ b.slowRun = a.slowRun + 1
         else b.stalled = true ∧ b.slowRun = 0 ∧ b.fastRun = 0 ∧
           Posted ⟨.airflow, 0, (b.speed : Nat)⟩ s t) ∧
       (a.duty ≠ 0 → a.stalled = true → slow → b.stalled = true ∧ b.fastRun = 0) ∧
       (a.duty ≠ 0 → a.stalled = true → ¬ slow →
         if a.fastRun + 1 < 5 then b.stalled = true ∧ b.fastRun = a.fastRun + 1
         else b.stalled = false ∧ b.slowRun = 0 ∧ b.fastRun = 0 ∧
           Posted ⟨.airflow, 2, (b.speed : Nat)⟩ s t) ∧
       t.live .fanStall = (if a.stalled = b.stalled then s.live .fanStall else b.stalled) ∧
       t.latched .fanStall = (s.latched .fanStall || (b.stalled && !a.stalled)))

/-- In the same measurement the full run counts the time at 100 %, a speed above the threshold after 30
such measurements clogs the filter, and a learn that measures takes its reading: a stall aborts it, and
the thirtieth reading makes the new reference, ends the clog, and is written to the cell or latches
STORE_FAILED (R45, R46, R47, R48). -/
def Obligations.FanMeasurementLearnsAndJudgesClog : Prop :=
  ∀ (pulses : Nat) (cellOk : Bool) (s : State), s.hold = false →
    ∃ t, exec (.fanMeasurement pulses cellOk) s = .next t ∧
      let a := s.afm
      let b := t.afm
      let full := if a.duty = 100 then satInc 65535 a.fullRun else 0
      let clogs : Prop := a.clogged = false ∧ a.learn = .idle ∧ 30 ≤ full ∧
        ∃ r, a.reference = some r ∧ r * (100 + s.settings.fan.clogPct) / 100 < b.speed
      let completes : Prop := a.learn = .measuring ∧ b.stalled = false ∧ 30 ≤ a.readings + 1
      (¬ completes → b.fullRun = full ∧ b.reference = a.reference ∧ t.pst.cell = s.pst.cell) ∧
      (clogs → b.clogged = true ∧ t.latched .filterClog = true ∧ t.live .filterClog = true) ∧
      (¬ clogs → ¬ completes → b.clogged = a.clogged ∧ t.live .filterClog = s.live .filterClog) ∧
      (a.learn ≠ .measuring → b.learn = a.learn ∧ b.readings = a.readings ∧ b.sum = a.sum) ∧
      (a.learn = .measuring → b.stalled = true → b.learn = .idle) ∧
      (a.learn = .measuring → b.stalled = false → a.readings + 1 < 30 →
        b.learn = .measuring ∧ b.readings = a.readings + 1 ∧ b.sum = a.sum + b.speed) ∧
      (completes → b.learn = .idle ∧ b.clogged = false ∧ b.fullRun = 0 ∧
        b.reference = some ((a.sum + b.speed) / 30) ∧
        t.pst.cell = (if cellOk then some ((a.sum + b.speed) / 30) else s.pst.cell) ∧
        (a.clogged = true → t.live .filterClog = false) ∧
        (cellOk = false → t.latched .storeFailed = true))

/-! ### Keypad and triggers -/

/-- Every step keeps the pad's twenty key records, no key held while suppression is active (R129), no key marked
due between scans (R118, R121), and an unfitted key IDLE with no baseline (R114, R133); and it keeps each
unit's count within its preset, and a unit DISABLED exactly when its enabled is no (R153). -/
def Obligations.PadAndUnitInvariant : Prop :=
  (∀ s t : State, PadOk s → step s = .next t → PadOk t) ∧
  (∀ s t : State, UnitsOk s → step s = .next t → UnitsOk t)

/-- What a scan makes of counts and baselines: each fitted key takes its raw count; a key with none takes it as
baseline; a re-take that is due, anti-touch, and the end of a quarantine set the baseline to the raw count; in
a pad that is quiet after the scan the baseline then drifts by a sixteenth of what separates it from the raw
count, or by one; and a key that is not fitted stays as it is. The re-take is made then, suppression active or
not (log entry 32), and is due afterwards only where the scan has ended suppression (R114, R115, R116, R117,
R119, R120, R125, R130). -/
def Obligations.ScanSetsBaselines : Prop :=
  ∀ (raws : List Nat) (s : State), countsOk raws = true → s.hold = false → PadOk s →
    ScanRanges s.settings.keypad →
    ∃ t, exec (.keyScan raws) s = .next t ∧ ScanReach s t ∧
      t.ksu.retake =
        (if s.ksu.suppressed = true ∧ t.ksu.suppressed = false then .allKeys else .none) ∧
      (∀ k < s.settings.keypad.keysFitted,
        let raw := raws.getD k 0
        let r := s.ksu.key k
        let n := t.ksu.key k
        let again (b : Nat) : Prop :=
          Retaken s.ksu.retake r.state ∨
          (r.state ≠ .pressed ∧ b + s.settings.keypad.touchThr < raw) ∨
          (r.state = .quarantined ∧ n.state = .idle)
        let quiet : Prop := t.ksu.suppressed = false ∧
          ∀ j < s.settings.keypad.keysFitted, (t.ksu.key j).state = .idle
        n.raw = raw ∧
        ∃ base drifted : Nat,
          (r.baseline = none → base = raw) ∧
          (∀ b, r.baseline = some b → (again b → base = raw) ∧ (¬ again b → base = b)) ∧
          n.delta = (base : Int) - raw ∧
          (let d : Int := (raw : Int) - base
           (drifted : Int) = base + (if d.tdiv 16 = 0 then d.sign else d.tdiv 16)) ∧
          (quiet → n.baseline = some drifted) ∧ (¬ quiet → n.baseline = some base)) ∧
      ∀ k, s.settings.keypad.keysFitted ≤ k → t.ksu.key k = s.ksu.key k

/-- A scan of a pad on which one fitted key is touched, the others idle and untouched, with no suppression
and no re-take due: the key whose press count is full becomes PRESSED, with KEY_PRESS posted and a PRESS
record offered (R114, R118, R121, R132, R140); and a held key whose release count is full returns to
IDLE, with KEY_RELEASE and a RELEASE record (R122). That a release run at or above release_count releases the
key, where R118 says equal, is log entry 15. -/
def Obligations.KeyScanPressesAndReleases : Prop :=
  ∀ (raws : List Nat) (k b : Nat) (s : State), countsOk raws = true → s.hold = false →
    s.ksu.keys.length = 20 → s.settings.keypad.keysFitted ≤ 20 → k < s.settings.keypad.keysFitted →
    s.ksu.suppressed = false → s.ksu.retake = .none → 1 ≤ s.settings.keypad.maxTouch →
    s.settings.keypad.releaseThr ≤ s.settings.keypad.touchThr →
    (∀ j < 20, j ≠ k → (s.ksu.key j).due = false) →
    (∀ j < s.settings.keypad.keysFitted, j ≠ k → (s.ksu.key j).state = .idle ∧
      ∃ bj, (s.ksu.key j).baseline = some bj ∧ bj < raws.getD j 0 + s.settings.keypad.touchThr ∧
        raws.getD j 0 ≤ bj + s.settings.keypad.touchThr) →
    (s.ksu.key k).baseline = some b →
    (((s.ksu.key k).state = .idle ∧ s.settings.keypad.pressCount ≤ 1 ∨
        (s.ksu.key k).state = .pendingPress ∧
          s.settings.keypad.pressCount ≤ (s.ksu.key k).pressRun + 1) →
      raws.getD k 0 + s.settings.keypad.touchThr ≤ b →
      ∃ t, exec (.keyScan raws) s = .next t ∧
        t = { s with ksu := t.ksu, keq := t.keq, tmx := t.tmx, cnu := t.cnu } ∧
        t.tmx.units = s.tmx.units ∧
        (t.ksu.key k).state = .pressed ∧ (t.ksu.key k).raw = raws.getD k 0 ∧
        (t.ksu.key k).pressTime = s.time.ms ∧
        (∀ j < s.settings.keypad.keysFitted, j ≠ k → (t.ksu.key j).state = .idle ∧
          (t.ksu.key j).raw = raws.getD j 0) ∧
        Posted ⟨.keyPress, BitVec.ofNat 8 k, 0⟩ s t ∧
        (s.keq.seen.takesKeys = true → s.keq.openKeys.length + 2 ≤ s.keq.free →
          (s.keq.queue ++ [⟨k, .press, s.time.ms.setWidth 16⟩]) <+: t.keq.queue ∧
          k ∈ t.keq.openKeys)) ∧
    (((s.ksu.key k).state = .pressed ∧ s.settings.keypad.releaseCount ≤ 1 ∨
        (s.ksu.key k).state = .pendingRelease ∧
          s.settings.keypad.releaseCount ≤ (s.ksu.key k).releaseRun + 1) →
      b < raws.getD k 0 + s.settings.keypad.releaseThr →
      raws.getD k 0 ≤ b + s.settings.keypad.touchThr →
      ∃ t, exec (.keyScan raws) s = .next t ∧
        t = { s with ksu := t.ksu, keq := t.keq, tmx := t.tmx, cnu := t.cnu } ∧
        t.tmx.units = s.tmx.units ∧
        (t.ksu.key k).state = .idle ∧ (t.ksu.key k).raw = raws.getD k 0 ∧
        (∀ j < s.settings.keypad.keysFitted, j ≠ k → (t.ksu.key j).state = .idle) ∧
        Posted ⟨.keyRelease, BitVec.ofNat 8 k,
          (min 65535 (elapsed s.time.ms (s.ksu.key k).pressTime) : Nat)⟩ s t ∧
        (s.keq.seen.takesKeys = true → k ∈ s.keq.openKeys →
          t.keq = { s.keq with
            queue := s.keq.queue ++ [⟨k, .release false false, s.time.ms.setWidth 16⟩]
            openKeys := s.keq.openKeys.erase k }))

/-- What a scan makes of held and quarantined keys, on any pad without suppression: a held key stays held until
its release run is complete, then becomes IDLE with KEY_RELEASE (R118, R122; the run at or above release_count,
log entry 15); held longer than stuck_time it is QUARANTINED, with KEY_RELEASE, a RELEASE record flagged STUCK,
and KEY_STUCK latched (R124); and where it repeats, it gives the HOLD that its held time has come to (R123). A
QUARANTINED key becomes IDLE, without event and without record, once its delta has been below release_thr for
1000 ms, with or without suppression (R125). -/
def Obligations.KeyScanHoldsAndQuarantines : Prop :=
  ∀ (raws : List Nat) (s : State), countsOk raws = true → s.hold = false → PadOk s → KeqOk s.keq →
    ScanRanges s.settings.keypad →
    ∃ t, exec (.keyScan raws) s = .next t ∧ ScanReach s t ∧
      ∀ k < s.settings.keypad.keysFitted, ∀ b, (s.ksu.key k).baseline = some b →
        let c := s.settings.keypad
        let raw := raws.getD k 0
        let r := s.ksu.key k
        let n := t.ksu.key k
        let now := s.time.ms
        let held := elapsed now r.pressTime
        let holds := if held < c.holdTime then 0 else 1 + (held - c.holdTime) / c.repeatPeriod
        let stuck : Prop := 0 < c.stuckTime ∧ c.stuckTime * 1000 < held
        (s.ksu.suppressed = false → coverCountOf raws s ≤ c.maxTouch → r.state.held = true →
          (¬ HeldOn c raw b r →
            n.state = .idle ∧ n.pressRun = 0 ∧ n.releaseRun = 0 ∧ Told (releaseEvent s k) t) ∧
          (HeldOn c raw b r → stuck →
            n.state = .quarantined ∧ n.pressRun = 0 ∧ n.releaseRun = 0 ∧ n.ordinal = 0 ∧
            n.quietStart = none ∧ Told (releaseEvent s k) t ∧
            t.latched .keyStuck = true ∧ t.live .keyStuck = true ∧
            (s.keq.seen.takesKeys = true → k ∈ s.keq.openKeys →
              ⟨k, .release false true, now.setWidth 16⟩ ∈ t.keq.queue ∧ k ∉ t.keq.openKeys)) ∧
          (HeldOn c raw b r → ¬ stuck →
            n.state = (if raw + c.releaseThr ≤ b then .pressed else .pendingRelease) ∧
            n.releaseRun =
              (if r.state = .pressed then if raw + c.releaseThr ≤ b then r.releaseRun else 1
               else if raw + c.releaseThr ≤ b then 0 else r.releaseRun + 1) ∧
            n.pressTime = r.pressTime ∧
            (if s.settings.keyRepeat.getD k false = true ∧ r.ordinal < holds then
               n.ordinal = min 65535 holds ∧
                 Told ⟨.keyHold, BitVec.ofNat 8 k, (min 65535 holds : Nat)⟩ t
             else n.ordinal = r.ordinal))) ∧
        (r.state = .quarantined →
          (∃ told, t.tmx.inbox = s.tmx.inbox ++ told ∧
            ∀ e ∈ told, e.cls = .keyPress ∨ e.cls = .keyRelease ∨ e.cls = .keyHold →
              e.index ≠ BitVec.ofNat 8 k) ∧
          t.keq.queue.filter (·.key == k) = s.keq.queue.filter (·.key == k) ∧
          if raw + c.releaseThr ≤ b then n.state = .quarantined ∧ n.quietStart = none
          else
            match r.quietStart with
            | none => n.state = .quarantined ∧ n.quietStart = some now
            | some q =>
              if 1000 ≤ elapsed now q then
                n.state = .idle ∧ n.baseline = some raw ∧ n.delta = 0 ∧ n.quietStart = none
              else n.state = .quarantined ∧ n.quietStart = some q)

/-- A round judges condensation and frost from Z0 and Z3 as it publishes them (R126). Where they begin
suppression, every held key is released and every pending press cleared (R128); where they end it, an ALL_KEYS
re-take is due (R130); while it is active throughout, the keys stand; and while it is inactive, the
recalibration test moves the reference, and a step above recal_step makes an IDLE_KEYS re-take due (R119). Of
two causes of one round the lower index is told. The round's tasks may fall in any order (log entry 3). That the
round which starts suppression makes no recalibration test, and so keeps the reference and the re-take, is the
model's choice (log entry 22), the manual not ordering the test and the judgement within that round. -/
def Obligations.RoundJudgesSuppression : Prop :=
  ∀ (raw : PerFour Int) (supply : Int) (order : List RoundTask) (s : State),
    order.isPerm RoundTask.all = true → s.hold = false → PadOk s → KeqOk s.keq →
    ∃ t, exec (.sampleRound raw supply order) s = .next t ∧
      let c := s.settings.keypad
      t.ksu.condensation =
        (match t.zoneTemp .n0, t.zoneTemp .n3 with
         | some glass, some air => decide (0 < c.condMargin ∧ glass < air - c.condMargin)
         | _, _ => false) ∧
      t.ksu.frost =
        (match t.zoneTemp .n0 with
         | some glass => decide (glass < c.frostFloor)
         | none => false) ∧
      t.ksu.cover = s.ksu.cover ∧ t.ksu.coverFall = s.ksu.coverFall ∧
      (s.ksu.suppressed = false → t.ksu.suppressed = true →
        SuppressionStarted (if t.ksu.condensation then 0 else 1) s t ∧
        t.ksu.retake = s.ksu.retake) ∧
      (s.ksu.suppressed = true → t.ksu.suppressed = false →
        SuppressionEnded (if s.ksu.condensation then 0 else 1) s t ∧
        t.ksu.keys = s.ksu.keys ∧ t.ksu.chords = s.ksu.chords) ∧
      (s.ksu.suppressed = t.ksu.suppressed →
        t.ksu.keys = s.ksu.keys ∧ t.ksu.chords = s.ksu.chords ∧
        t.live .suppressed = s.live .suppressed ∧ t.latched .suppressed = s.latched .suppressed ∧
        (t.ksu.suppressed = true →
          t.ksu.recalRef = s.ksu.recalRef ∧ t.ksu.retake = s.ksu.retake) ∧
        (t.ksu.suppressed = false →
          match t.zoneTemp .n0, s.ksu.recalRef with
          | none, _ => t.ksu.recalRef = s.ksu.recalRef ∧ t.ksu.retake = s.ksu.retake
          | some glass, none => t.ksu.recalRef = some glass ∧ t.ksu.retake = s.ksu.retake
          | some glass, some ref =>
            if glass - ref ≤ c.recalStep ∧ ref - glass ≤ c.recalStep then
              t.ksu.recalRef = some ref ∧ t.ksu.retake = s.ksu.retake
            else
              t.ksu.recalRef = some glass ∧
              t.ksu.retake = (if s.ksu.retake = .allKeys then .allKeys else .idleKeys)))

/-- A scan judges cover by the number of keys that are pending or pressed (R127): above max_touch cover becomes
present, or keeps its fall time away, and starts suppression where no other cause has (R128); at or below it
the fall time is set, and once cover_hold has passed cover ends, and with it suppression where no other cause
is present (R130). -/
def Obligations.KeyScanJudgesCover : Prop :=
  ∀ (raws : List Nat) (s : State), countsOk raws = true → s.hold = false → PadOk s → KeqOk s.keq →
    ScanRanges s.settings.keypad →
    ∃ t, exec (.keyScan raws) s = .next t ∧ ScanReach s t ∧
      t.ksu.condensation = s.ksu.condensation ∧ t.ksu.frost = s.ksu.frost ∧
      let many : Prop := s.settings.keypad.maxTouch < coverCountOf raws s
      (s.ksu.cover = false → ¬ many → t.ksu.cover = false ∧ t.ksu.coverFall = s.ksu.coverFall) ∧
      (s.ksu.cover = false → many → t.ksu.cover = true ∧ t.ksu.coverFall = s.ksu.coverFall ∧
        (s.ksu.suppressed = false → SuppressionStarted 2 s t)) ∧
      (s.ksu.cover = true → many → t.ksu.cover = true ∧ t.ksu.coverFall = none) ∧
      (s.ksu.cover = true → ¬ many → s.ksu.coverFall = none →
        t.ksu.cover = true ∧ t.ksu.coverFall = some s.time.ms) ∧
      (∀ fall, s.ksu.cover = true → ¬ many → s.ksu.coverFall = some fall →
        if s.settings.keypad.coverHold ≤ elapsed s.time.ms fall then
          t.ksu.cover = false ∧ t.ksu.coverFall = none ∧
          (s.ksu.condensation = false → s.ksu.frost = false → SuppressionEnded 2 s t)
        else t.ksu.cover = true ∧ t.ksu.coverFall = some fall)

/-- A scan tests every chord with a key set against the keys as the scan leaves them (R131): held exactly, its
time starts, and once hold has passed CHORD(c, hold) is posted and the chord is spent; not held exactly, its
time stops; a spent chord waits until a key of its set is released, so that one unbroken holding gives one
CHORD. A chord without a key set is never tested. -/
def Obligations.ChordsFireOncePerHolding : Prop :=
  ∀ (raws : List Nat) (s : State), countsOk raws = true → s.hold = false → PadOk s →
    ∃ t, exec (.keyScan raws) s = .next t ∧
      ∀ i : Chord,
        let c := s.settings.chord.get i
        let r := s.ksu.chords.get i
        let n := t.ksu.chords.get i
        let isHeld (k : Nat) : Prop := (t.ksu.key k).state.held = true
        let exact : Prop := (∀ k ∈ c.keys, k < s.settings.keypad.keysFitted ∧ isHeld k) ∧
          ∀ k < s.settings.keypad.keysFitted, isHeld k → k ∈ c.keys
        (c.keys = [] → n.spent = r.spent ∧ (n.start = r.start ∨ n.start = none)) ∧
        (c.keys ≠ [] → exact → r.spent = true → n = r) ∧
        (c.keys ≠ [] → exact → r.spent = false →
          match r.start with
          | none => n = ⟨some s.time.ms, false⟩
          | some start =>
            if c.hold ≤ elapsed s.time.ms start then
              n = ⟨none, true⟩ ∧ Told ⟨.chord, BitVec.ofNat 8 i.num, (c.hold : Nat)⟩ t
            else n = r) ∧
        (c.keys ≠ [] → ¬ exact → r.spent = false → n = ⟨none, false⟩) ∧
        (c.keys ≠ [] → ¬ exact → r.spent = true →
          (n.spent = false ↔ ∃ k ∈ c.keys, ¬ isHeld k) ∧ (r.start = none → n.start = none))

/-- TRIGGER_CONTROL: ENABLE gives a DISABLED unit its initial state and leaves any other, DISABLE disables
it, REARM gives an enabled unit its initial state and is REFUSED of a DISABLED one; the fire count is
kept, and every OK reply carries the unit's state, count and fire count. A unit above 5 or an operation
out of the set gets BAD_ARG (R163); that any of the three rows answers the latter is the model's choice,
log entry 4. -/
def Obligations.TriggerControl : Prop :=
  (∀ (op : Nat) (row : Byte → List Byte → Instr) (tag ub ob : Byte) (s : State),
    (op, row) ∈ [(0, Instr.triggerControlEnable), (1, .triggerControlDisable),
      (2, .triggerControlRearm)] →
    (ob.toNat = op ∧ 5 < ub.toNat) ∨ 2 < ob.toNat → Due s 0x30 tag [ub, ob] →
    exec (row tag [ub, ob]) s = .next (s.setLnk (replying s 0x30 tag .badArg [] .nothing))) ∧
  (∀ (tag : Byte) (u : TrigUnit) (s : State),
    let ub : Byte := BitVec.ofNat 8 u.num
    let c := s.settings.trigger.get u
    let r := s.tmx.units.get u
    let fresh : UnitRec :=
      ⟨if c.armBy.isSome then .waitingArm else if c.preset = 0 then .ready else .counting,
        c.preset, r.fires, none⟩
    let put (c : TriggerSettings) (r : UnitRec) : State :=
      (s.setSettings { s.settings with trigger := s.settings.trigger.set u c }).setTmx
        { s.tmx with units := s.tmx.units.set u r }
    let reply (r : UnitRec) : Lnk :=
      replying s 0x30 tag .ok
        ([BitVec.ofNat 8 r.state.num, BitVec.ofNat 8 r.count] ++ u16 r.fires) .nothing
    (Due s 0x30 tag [ub, 0] →
      exec (.triggerControlEnable tag [ub, 0]) s = .next (
        if r.state = .disabled then (put { c with enabled := true } fresh).setLnk (reply fresh)
        else s.setLnk (reply r))) ∧
    (Due s 0x30 tag [ub, 1] →
      exec (.triggerControlDisable tag [ub, 1]) s = .next (
        if r.state = .disabled then s.setLnk (reply r)
        else (put { c with enabled := false } ⟨.disabled, c.preset, r.fires, none⟩).setLnk
          (reply ⟨.disabled, c.preset, r.fires, none⟩))) ∧
    (Due s 0x30 tag [ub, 2] →
      exec (.triggerControlRearm tag [ub, 2]) s = .next (
        if r.state = .disabled then s.setLnk (replying s 0x30 tag .refused [] .nothing)
        else (s.setTmx { s.tmx with units := s.tmx.units.set u fresh }).setLnk (reply fresh))))

/-- Taking an event removes the oldest and settles every unit: a READY unit that it matches fires, a
COUNTING one counts, no unit is offered its own TRIGGER event, and a unit whose arming unit fires is
armed afresh instead of being offered the event, an arming unit that is READY without firing leaving it as
any other; what stood behind the event stays in front of what is posted (R150, R154, R155, R156, R157). `fires`
is the set of units that fire, as R154 gives it along arming relations that form no cycle (R159). -/
def Obligations.EventTakeSettlesUnits : Prop :=
  ∀ s : State,
    (s.hold = true ∨ s.tmx.inbox = [] → exec .eventTake s = .next s) ∧
    (∀ (e : Event) (rest : List Event) (fires : TrigUnit → Prop), s.hold = false →
      s.tmx.inbox = e :: rest → (∀ u : TrigUnit, armingCycle s.settings.trigger u = false) →
      (∀ v : TrigUnit, fires v ↔
        (s.tmx.units.get v).state = .ready ∧ ¬ (e.cls = .trigger ∧ e.index = BitVec.ofNat 8 v.num) ∧
        unitMatches (s.settings.trigger.get v) e = true ∧
        ∀ a, (s.settings.trigger.get v).armBy = some a → ¬ fires a) →
      ∃ t, exec .eventTake s = .next t ∧ rest <+: t.tmx.inbox ∧ t.settings = s.settings ∧
        ∀ u : TrigUnit,
          let c := s.settings.trigger.get u
          let r := s.tmx.units.get u
          let n := t.tmx.units.get u
          let own : Prop := e.cls = .trigger ∧ e.index = BitVec.ofNat 8 u.num
          let counts : Prop := r.state = .counting ∧ ¬ own ∧ unitMatches c e = true
          let isArmed : Prop := ∃ a, c.armBy = some a ∧ fires a
          (fires u →
            n.fires = satInc 65535 r.fires ∧ n.count = c.preset ∧
            n.state =
              (if c.rearm = false then .fired
               else if c.armBy.isSome then .waitingArm
               else if c.preset = 0 then .ready else .counting) ∧
            n.window = (if c.rearm = true ∧ c.armBy = none then r.window else none) ∧
            Told ⟨.trigger, BitVec.ofNat 8 u.num, n.fires⟩ t) ∧
          (¬ fires u → ¬ isArmed → counts →
            n = { r with
              count := r.count - 1, state := if r.count ≤ 1 then .ready else .counting }) ∧
          (¬ fires u → ¬ isArmed → ¬ counts → n = r) ∧
          (isArmed →
            n =
              (if r.state = .disabled ∨ r.state = .fired then r
               else { r with
                 state := if c.preset = 0 then .ready else .counting
                 count := c.preset
                 window := if c.armWindow = 0 then none else some c.armWindow })))

/-- The action of the one unit that fires on an event is done by its owner: NOTIFY latches the unit's
condition, FREEZE freezes a RECORDING trace, RESTART escalates in BOOTING and RUNNING, POWER_ON starts a
host that is OFF, LOCKED_OUT or SUSPENDED with wake on trigger, SHUTDOWN begins a TRIGGER stop, SIGNAL
starts the SVC pulse, FILTER_LEARN starts a learn; in any other state RESTART, POWER_ON and SHUTDOWN
change nothing at the host (R46, R64, R66, R71, R72, R86, R87, R107, R161, R173). -/
def Obligations.TriggerActions : Prop :=
  ∀ (u : TrigUnit) (e : Event) (rest : List Event) (s : State), s.hold = false →
    s.tmx.inbox = e :: rest →
    (∀ v : TrigUnit, unitFires s.settings.trigger s.tmx.units e v = decide (v = u)) →
    ∃ t, exec .eventTake s = .next t ∧
      let act := (s.settings.trigger.get u).action
      (act ≠ .filterLearn → OutsideKept s t) ∧
      (act ≠ .restart → act ≠ .powerOn → act ≠ .shutdown →
        t.hps = s.hps ∧ t.weu = s.weu ∧ t.lnk = s.lnk) ∧
      (act = .notify → t.latched (.triggerT u) = true ∧ t.cpt = s.cpt) ∧
      (act = .freeze → t.cpt =
        (if s.cpt.frozen then s.cpt
         else { s.cpt with frozen := true, frozenAt := some s.time.ms })) ∧
      (act = .signal → t.cnu.svcTimer = some 1000 ∧ t.svc = true) ∧
      (act = .filterLearn → t.afm =
        (if s.afm.learn = .idle then { s.afm with learn := .waiting, readings := 0, sum := 0 }
         else s.afm)) ∧
      (act = .restart →
        if s.hps.state = .booting ∨ s.hps.state = .running then
          Escalated .trigger (some u) s t ∧ t.hostRstN = true ∧ t.lnk = { s.lnk with held := [] }
        else t.hps = s.hps ∧ t.weu = s.weu ∧ t.lnk = s.lnk) ∧
      (act = .powerOn →
        if s.hps.state = .off ∨ s.hps.state = .lockedOut ∨
            (s.hps.state = .suspended ∧ s.hps.wakeOnTrigger = true) then
          Requalified s t ∧ t.weu.step = 0 ∧ t.weu.attempts = 0 ∧ t.lnk = s.lnk ∧
            (s.hps.state = .lockedOut → t.live .lockout = false ∧ t.hps.retryTimer = none)
        else t.hps = s.hps ∧ t.weu = s.weu ∧ t.lnk = s.lnk) ∧
      (act = .shutdown →
        if s.hps.state = .booting ∨ (s.hps.state = .running ∧ s.hps.stage = .noStage) then
          t.hps = { s.hps with
            state := .stopping, prev := s.hps.state, stage := .grace
            stageTimer := some (s.settings.hostPower.stopGrace * 1000), pendingOn := false
            stopCause := .trigger, stopZone := none, stopRequest := none, destination := .off } ∧
          t.hostRstN = false ∧ t.lnk = s.lnk
        else t.hps = s.hps ∧ t.weu = s.weu ∧ t.lnk = s.lnk)

/-- An arm window that runs out returns its unit to WAITING_ARM with its count at the preset (R158); the
SVC timer that runs out drives SVC low (R173); FILTER_SERVICED starts a learn where none is under way,
and is BUSY otherwise (R46). That an expiry before its time changes nothing is log entry 11. -/
def Obligations.WindowsPulsesAndLearnStarts : Prop :=
  (∀ (u : TrigUnit) (s : State),
    let r := s.tmx.units.get u
    exec (.armWindowExpiry u) s = .next (
      if (r.state = .counting ∨ r.state = .ready) ∧ r.window = some 0 then
        s.setTmx { s.tmx with
          units := s.tmx.units.set u
            { r with
              state := .waitingArm, count := (s.settings.trigger.get u).preset, window := none } }
      else s)) ∧
  (∀ s : State, s.cnu.svcTimer = some 0 →
    exec .svcTimerExpiry s = .next (s.setCnu { s.cnu with svcTimer := none })) ∧
  (∀ (tag : Byte) (s : State), Due s 0x31 tag [] →
    exec (.filterServiced tag []) s = .next (
      if s.afm.learn = .idle then
        (s.setAfm { s.afm with learn := .waiting, readings := 0, sum := 0 }).setLnk
          (replying s 0x31 tag .accepted [] .nothing)
      else s.setLnk (replying s 0x31 tag .busy [] .nothing)))

end
end

