-- ==== Sys2Proof/Laws/State.lean ====
section
/-! SUPPORT. What each setter of `State` does to each field, one lemma per field and setter, and how
setters of one field and of two compose. -/

namespace Sys2Proof.Machine.State

@[simp] theorem setTime_time (s : State) (x : Timebase) : (s.setTime x).time = x := rfl
@[simp] theorem setTime_settings (s : State) (x : Timebase) : (s.setTime x).settings = s.settings := rfl
@[simp] theorem setTime_zmon (s : State) (x : Timebase) : (s.setTime x).zmon = s.zmon := rfl
@[simp] theorem setTime_hsch (s : State) (x : Timebase) : (s.setTime x).hsch = s.hsch := rfl
@[simp] theorem setTime_afm (s : State) (x : Timebase) : (s.setTime x).afm = s.afm := rfl
@[simp] theorem setTime_hps (s : State) (x : Timebase) : (s.setTime x).hps = s.hps := rfl
@[simp] theorem setTime_weu (s : State) (x : Timebase) : (s.setTime x).weu = s.weu := rfl
@[simp] theorem setTime_cpt (s : State) (x : Timebase) : (s.setTime x).cpt = s.cpt := rfl
@[simp] theorem setTime_ksu (s : State) (x : Timebase) : (s.setTime x).ksu = s.ksu := rfl
@[simp] theorem setTime_keq (s : State) (x : Timebase) : (s.setTime x).keq = s.keq := rfl
@[simp] theorem setTime_tmx (s : State) (x : Timebase) : (s.setTime x).tmx = s.tmx := rfl
@[simp] theorem setTime_cnu (s : State) (x : Timebase) : (s.setTime x).cnu = s.cnu := rfl
@[simp] theorem setTime_lnk (s : State) (x : Timebase) : (s.setTime x).lnk = s.lnk := rfl
@[simp] theorem setTime_pst (s : State) (x : Timebase) : (s.setTime x).pst = s.pst := rfl
@[simp] theorem setTime_hold (s : State) (x : Timebase) : (s.setTime x).hold = s.hold := rfl
@[simp] theorem setTime_powerGood (s : State) (x : Timebase) : (s.setTime x).powerGood = s.powerGood := rfl
@[simp] theorem setTime_lastSent (s : State) (x : Timebase) : (s.setTime x).lastSent = s.lastSent := rfl
@[simp] theorem setTime_pending (s : State) (x : Timebase) : (s.setTime x).pending = s.pending := rfl
@[simp] theorem setTime_setTime (s : State) (x y : Timebase) : (s.setTime x).setTime y = s.setTime y := rfl
@[simp] theorem setTime_self (s : State) : s.setTime s.time = s := rfl

@[simp] theorem setSettings_time (s : State) (x : Settings) : (s.setSettings x).time = s.time := rfl
@[simp] theorem setSettings_settings (s : State) (x : Settings) : (s.setSettings x).settings = x := rfl
@[simp] theorem setSettings_zmon (s : State) (x : Settings) : (s.setSettings x).zmon = s.zmon := rfl
@[simp] theorem setSettings_hsch (s : State) (x : Settings) : (s.setSettings x).hsch = s.hsch := rfl
@[simp] theorem setSettings_afm (s : State) (x : Settings) : (s.setSettings x).afm = s.afm := rfl
@[simp] theorem setSettings_hps (s : State) (x : Settings) : (s.setSettings x).hps = s.hps := rfl
@[simp] theorem setSettings_weu (s : State) (x : Settings) : (s.setSettings x).weu = s.weu := rfl
@[simp] theorem setSettings_cpt (s : State) (x : Settings) : (s.setSettings x).cpt = s.cpt := rfl
@[simp] theorem setSettings_ksu (s : State) (x : Settings) : (s.setSettings x).ksu = s.ksu := rfl
@[simp] theorem setSettings_keq (s : State) (x : Settings) : (s.setSettings x).keq = s.keq := rfl
@[simp] theorem setSettings_tmx (s : State) (x : Settings) : (s.setSettings x).tmx = s.tmx := rfl
@[simp] theorem setSettings_cnu (s : State) (x : Settings) : (s.setSettings x).cnu = s.cnu := rfl
@[simp] theorem setSettings_lnk (s : State) (x : Settings) : (s.setSettings x).lnk = s.lnk := rfl
@[simp] theorem setSettings_pst (s : State) (x : Settings) : (s.setSettings x).pst = s.pst := rfl
@[simp] theorem setSettings_hold (s : State) (x : Settings) : (s.setSettings x).hold = s.hold := rfl
@[simp] theorem setSettings_powerGood (s : State) (x : Settings) : (s.setSettings x).powerGood = s.powerGood := rfl
@[simp] theorem setSettings_lastSent (s : State) (x : Settings) : (s.setSettings x).lastSent = s.lastSent := rfl
@[simp] theorem setSettings_pending (s : State) (x : Settings) : (s.setSettings x).pending = s.pending := rfl
@[simp] theorem setSettings_setSettings (s : State) (x y : Settings) : (s.setSettings x).setSettings y = s.setSettings y := rfl
@[simp] theorem setSettings_self (s : State) : s.setSettings s.settings = s := rfl

@[simp] theorem setZmon_time (s : State) (x : Zmon) : (s.setZmon x).time = s.time := rfl
@[simp] theorem setZmon_settings (s : State) (x : Zmon) : (s.setZmon x).settings = s.settings := rfl
@[simp] theorem setZmon_zmon (s : State) (x : Zmon) : (s.setZmon x).zmon = x := rfl
@[simp] theorem setZmon_hsch (s : State) (x : Zmon) : (s.setZmon x).hsch = s.hsch := rfl
@[simp] theorem setZmon_afm (s : State) (x : Zmon) : (s.setZmon x).afm = s.afm := rfl
@[simp] theorem setZmon_hps (s : State) (x : Zmon) : (s.setZmon x).hps = s.hps := rfl
@[simp] theorem setZmon_weu (s : State) (x : Zmon) : (s.setZmon x).weu = s.weu := rfl
@[simp] theorem setZmon_cpt (s : State) (x : Zmon) : (s.setZmon x).cpt = s.cpt := rfl
@[simp] theorem setZmon_ksu (s : State) (x : Zmon) : (s.setZmon x).ksu = s.ksu := rfl
@[simp] theorem setZmon_keq (s : State) (x : Zmon) : (s.setZmon x).keq = s.keq := rfl
@[simp] theorem setZmon_tmx (s : State) (x : Zmon) : (s.setZmon x).tmx = s.tmx := rfl
@[simp] theorem setZmon_cnu (s : State) (x : Zmon) : (s.setZmon x).cnu = s.cnu := rfl
@[simp] theorem setZmon_lnk (s : State) (x : Zmon) : (s.setZmon x).lnk = s.lnk := rfl
@[simp] theorem setZmon_pst (s : State) (x : Zmon) : (s.setZmon x).pst = s.pst := rfl
@[simp] theorem setZmon_hold (s : State) (x : Zmon) : (s.setZmon x).hold = s.hold := rfl
@[simp] theorem setZmon_powerGood (s : State) (x : Zmon) : (s.setZmon x).powerGood = s.powerGood := rfl
@[simp] theorem setZmon_lastSent (s : State) (x : Zmon) : (s.setZmon x).lastSent = s.lastSent := rfl
@[simp] theorem setZmon_pending (s : State) (x : Zmon) : (s.setZmon x).pending = s.pending := rfl
@[simp] theorem setZmon_setZmon (s : State) (x y : Zmon) : (s.setZmon x).setZmon y = s.setZmon y := rfl
@[simp] theorem setZmon_self (s : State) : s.setZmon s.zmon = s := rfl

@[simp] theorem setHsch_time (s : State) (x : Hsch) : (s.setHsch x).time = s.time := rfl
@[simp] theorem setHsch_settings (s : State) (x : Hsch) : (s.setHsch x).settings = s.settings := rfl
@[simp] theorem setHsch_zmon (s : State) (x : Hsch) : (s.setHsch x).zmon = s.zmon := rfl
@[simp] theorem setHsch_hsch (s : State) (x : Hsch) : (s.setHsch x).hsch = x := rfl
@[simp] theorem setHsch_afm (s : State) (x : Hsch) : (s.setHsch x).afm = s.afm := rfl
@[simp] theorem setHsch_hps (s : State) (x : Hsch) : (s.setHsch x).hps = s.hps := rfl
@[simp] theorem setHsch_weu (s : State) (x : Hsch) : (s.setHsch x).weu = s.weu := rfl
@[simp] theorem setHsch_cpt (s : State) (x : Hsch) : (s.setHsch x).cpt = s.cpt := rfl
@[simp] theorem setHsch_ksu (s : State) (x : Hsch) : (s.setHsch x).ksu = s.ksu := rfl
@[simp] theorem setHsch_keq (s : State) (x : Hsch) : (s.setHsch x).keq = s.keq := rfl
@[simp] theorem setHsch_tmx (s : State) (x : Hsch) : (s.setHsch x).tmx = s.tmx := rfl
@[simp] theorem setHsch_cnu (s : State) (x : Hsch) : (s.setHsch x).cnu = s.cnu := rfl
@[simp] theorem setHsch_lnk (s : State) (x : Hsch) : (s.setHsch x).lnk = s.lnk := rfl
@[simp] theorem setHsch_pst (s : State) (x : Hsch) : (s.setHsch x).pst = s.pst := rfl
@[simp] theorem setHsch_hold (s : State) (x : Hsch) : (s.setHsch x).hold = s.hold := rfl
@[simp] theorem setHsch_powerGood (s : State) (x : Hsch) : (s.setHsch x).powerGood = s.powerGood := rfl
@[simp] theorem setHsch_lastSent (s : State) (x : Hsch) : (s.setHsch x).lastSent = s.lastSent := rfl
@[simp] theorem setHsch_pending (s : State) (x : Hsch) : (s.setHsch x).pending = s.pending := rfl
@[simp] theorem setHsch_setHsch (s : State) (x y : Hsch) : (s.setHsch x).setHsch y = s.setHsch y := rfl
@[simp] theorem setHsch_self (s : State) : s.setHsch s.hsch = s := rfl

@[simp] theorem setAfm_time (s : State) (x : Afm) : (s.setAfm x).time = s.time := rfl
@[simp] theorem setAfm_settings (s : State) (x : Afm) : (s.setAfm x).settings = s.settings := rfl
@[simp] theorem setAfm_zmon (s : State) (x : Afm) : (s.setAfm x).zmon = s.zmon := rfl
@[simp] theorem setAfm_hsch (s : State) (x : Afm) : (s.setAfm x).hsch = s.hsch := rfl
@[simp] theorem setAfm_afm (s : State) (x : Afm) : (s.setAfm x).afm = x := rfl
@[simp] theorem setAfm_hps (s : State) (x : Afm) : (s.setAfm x).hps = s.hps := rfl
@[simp] theorem setAfm_weu (s : State) (x : Afm) : (s.setAfm x).weu = s.weu := rfl
@[simp] theorem setAfm_cpt (s : State) (x : Afm) : (s.setAfm x).cpt = s.cpt := rfl
@[simp] theorem setAfm_ksu (s : State) (x : Afm) : (s.setAfm x).ksu = s.ksu := rfl
@[simp] theorem setAfm_keq (s : State) (x : Afm) : (s.setAfm x).keq = s.keq := rfl
@[simp] theorem setAfm_tmx (s : State) (x : Afm) : (s.setAfm x).tmx = s.tmx := rfl
@[simp] theorem setAfm_cnu (s : State) (x : Afm) : (s.setAfm x).cnu = s.cnu := rfl
@[simp] theorem setAfm_lnk (s : State) (x : Afm) : (s.setAfm x).lnk = s.lnk := rfl
@[simp] theorem setAfm_pst (s : State) (x : Afm) : (s.setAfm x).pst = s.pst := rfl
@[simp] theorem setAfm_hold (s : State) (x : Afm) : (s.setAfm x).hold = s.hold := rfl
@[simp] theorem setAfm_powerGood (s : State) (x : Afm) : (s.setAfm x).powerGood = s.powerGood := rfl
@[simp] theorem setAfm_lastSent (s : State) (x : Afm) : (s.setAfm x).lastSent = s.lastSent := rfl
@[simp] theorem setAfm_pending (s : State) (x : Afm) : (s.setAfm x).pending = s.pending := rfl
@[simp] theorem setAfm_setAfm (s : State) (x y : Afm) : (s.setAfm x).setAfm y = s.setAfm y := rfl
@[simp] theorem setAfm_self (s : State) : s.setAfm s.afm = s := rfl

@[simp] theorem setHps_time (s : State) (x : Hps) : (s.setHps x).time = s.time := rfl
@[simp] theorem setHps_settings (s : State) (x : Hps) : (s.setHps x).settings = s.settings := rfl
@[simp] theorem setHps_zmon (s : State) (x : Hps) : (s.setHps x).zmon = s.zmon := rfl
@[simp] theorem setHps_hsch (s : State) (x : Hps) : (s.setHps x).hsch = s.hsch := rfl
@[simp] theorem setHps_afm (s : State) (x : Hps) : (s.setHps x).afm = s.afm := rfl
@[simp] theorem setHps_hps (s : State) (x : Hps) : (s.setHps x).hps = x := rfl
@[simp] theorem setHps_weu (s : State) (x : Hps) : (s.setHps x).weu = s.weu := rfl
@[simp] theorem setHps_cpt (s : State) (x : Hps) : (s.setHps x).cpt = s.cpt := rfl
@[simp] theorem setHps_ksu (s : State) (x : Hps) : (s.setHps x).ksu = s.ksu := rfl
@[simp] theorem setHps_keq (s : State) (x : Hps) : (s.setHps x).keq = s.keq := rfl
@[simp] theorem setHps_tmx (s : State) (x : Hps) : (s.setHps x).tmx = s.tmx := rfl
@[simp] theorem setHps_cnu (s : State) (x : Hps) : (s.setHps x).cnu = s.cnu := rfl
@[simp] theorem setHps_lnk (s : State) (x : Hps) : (s.setHps x).lnk = s.lnk := rfl
@[simp] theorem setHps_pst (s : State) (x : Hps) : (s.setHps x).pst = s.pst := rfl
@[simp] theorem setHps_hold (s : State) (x : Hps) : (s.setHps x).hold = s.hold := rfl
@[simp] theorem setHps_powerGood (s : State) (x : Hps) : (s.setHps x).powerGood = s.powerGood := rfl
@[simp] theorem setHps_lastSent (s : State) (x : Hps) : (s.setHps x).lastSent = s.lastSent := rfl
@[simp] theorem setHps_pending (s : State) (x : Hps) : (s.setHps x).pending = s.pending := rfl
@[simp] theorem setHps_setHps (s : State) (x y : Hps) : (s.setHps x).setHps y = s.setHps y := rfl
@[simp] theorem setHps_self (s : State) : s.setHps s.hps = s := rfl

@[simp] theorem setWeu_time (s : State) (x : Weu) : (s.setWeu x).time = s.time := rfl
@[simp] theorem setWeu_settings (s : State) (x : Weu) : (s.setWeu x).settings = s.settings := rfl
@[simp] theorem setWeu_zmon (s : State) (x : Weu) : (s.setWeu x).zmon = s.zmon := rfl
@[simp] theorem setWeu_hsch (s : State) (x : Weu) : (s.setWeu x).hsch = s.hsch := rfl
@[simp] theorem setWeu_afm (s : State) (x : Weu) : (s.setWeu x).afm = s.afm := rfl
@[simp] theorem setWeu_hps (s : State) (x : Weu) : (s.setWeu x).hps = s.hps := rfl
@[simp] theorem setWeu_weu (s : State) (x : Weu) : (s.setWeu x).weu = x := rfl
@[simp] theorem setWeu_cpt (s : State) (x : Weu) : (s.setWeu x).cpt = s.cpt := rfl
@[simp] theorem setWeu_ksu (s : State) (x : Weu) : (s.setWeu x).ksu = s.ksu := rfl
@[simp] theorem setWeu_keq (s : State) (x : Weu) : (s.setWeu x).keq = s.keq := rfl
@[simp] theorem setWeu_tmx (s : State) (x : Weu) : (s.setWeu x).tmx = s.tmx := rfl
@[simp] theorem setWeu_cnu (s : State) (x : Weu) : (s.setWeu x).cnu = s.cnu := rfl
@[simp] theorem setWeu_lnk (s : State) (x : Weu) : (s.setWeu x).lnk = s.lnk := rfl
@[simp] theorem setWeu_pst (s : State) (x : Weu) : (s.setWeu x).pst = s.pst := rfl
@[simp] theorem setWeu_hold (s : State) (x : Weu) : (s.setWeu x).hold = s.hold := rfl
@[simp] theorem setWeu_powerGood (s : State) (x : Weu) : (s.setWeu x).powerGood = s.powerGood := rfl
@[simp] theorem setWeu_lastSent (s : State) (x : Weu) : (s.setWeu x).lastSent = s.lastSent := rfl
@[simp] theorem setWeu_pending (s : State) (x : Weu) : (s.setWeu x).pending = s.pending := rfl
@[simp] theorem setWeu_setWeu (s : State) (x y : Weu) : (s.setWeu x).setWeu y = s.setWeu y := rfl
@[simp] theorem setWeu_self (s : State) : s.setWeu s.weu = s := rfl

@[simp] theorem setCpt_time (s : State) (x : Cpt) : (s.setCpt x).time = s.time := rfl
@[simp] theorem setCpt_settings (s : State) (x : Cpt) : (s.setCpt x).settings = s.settings := rfl
@[simp] theorem setCpt_zmon (s : State) (x : Cpt) : (s.setCpt x).zmon = s.zmon := rfl
@[simp] theorem setCpt_hsch (s : State) (x : Cpt) : (s.setCpt x).hsch = s.hsch := rfl
@[simp] theorem setCpt_afm (s : State) (x : Cpt) : (s.setCpt x).afm = s.afm := rfl
@[simp] theorem setCpt_hps (s : State) (x : Cpt) : (s.setCpt x).hps = s.hps := rfl
@[simp] theorem setCpt_weu (s : State) (x : Cpt) : (s.setCpt x).weu = s.weu := rfl
@[simp] theorem setCpt_cpt (s : State) (x : Cpt) : (s.setCpt x).cpt = x := rfl
@[simp] theorem setCpt_ksu (s : State) (x : Cpt) : (s.setCpt x).ksu = s.ksu := rfl
@[simp] theorem setCpt_keq (s : State) (x : Cpt) : (s.setCpt x).keq = s.keq := rfl
@[simp] theorem setCpt_tmx (s : State) (x : Cpt) : (s.setCpt x).tmx = s.tmx := rfl
@[simp] theorem setCpt_cnu (s : State) (x : Cpt) : (s.setCpt x).cnu = s.cnu := rfl
@[simp] theorem setCpt_lnk (s : State) (x : Cpt) : (s.setCpt x).lnk = s.lnk := rfl
@[simp] theorem setCpt_pst (s : State) (x : Cpt) : (s.setCpt x).pst = s.pst := rfl
@[simp] theorem setCpt_hold (s : State) (x : Cpt) : (s.setCpt x).hold = s.hold := rfl
@[simp] theorem setCpt_powerGood (s : State) (x : Cpt) : (s.setCpt x).powerGood = s.powerGood := rfl
@[simp] theorem setCpt_lastSent (s : State) (x : Cpt) : (s.setCpt x).lastSent = s.lastSent := rfl
@[simp] theorem setCpt_pending (s : State) (x : Cpt) : (s.setCpt x).pending = s.pending := rfl
@[simp] theorem setCpt_setCpt (s : State) (x y : Cpt) : (s.setCpt x).setCpt y = s.setCpt y := rfl
@[simp] theorem setCpt_self (s : State) : s.setCpt s.cpt = s := rfl

@[simp] theorem setKsu_time (s : State) (x : Ksu) : (s.setKsu x).time = s.time := rfl
@[simp] theorem setKsu_settings (s : State) (x : Ksu) : (s.setKsu x).settings = s.settings := rfl
@[simp] theorem setKsu_zmon (s : State) (x : Ksu) : (s.setKsu x).zmon = s.zmon := rfl
@[simp] theorem setKsu_hsch (s : State) (x : Ksu) : (s.setKsu x).hsch = s.hsch := rfl
@[simp] theorem setKsu_afm (s : State) (x : Ksu) : (s.setKsu x).afm = s.afm := rfl
@[simp] theorem setKsu_hps (s : State) (x : Ksu) : (s.setKsu x).hps = s.hps := rfl
@[simp] theorem setKsu_weu (s : State) (x : Ksu) : (s.setKsu x).weu = s.weu := rfl
@[simp] theorem setKsu_cpt (s : State) (x : Ksu) : (s.setKsu x).cpt = s.cpt := rfl
@[simp] theorem setKsu_ksu (s : State) (x : Ksu) : (s.setKsu x).ksu = x := rfl
@[simp] theorem setKsu_keq (s : State) (x : Ksu) : (s.setKsu x).keq = s.keq := rfl
@[simp] theorem setKsu_tmx (s : State) (x : Ksu) : (s.setKsu x).tmx = s.tmx := rfl
@[simp] theorem setKsu_cnu (s : State) (x : Ksu) : (s.setKsu x).cnu = s.cnu := rfl
@[simp] theorem setKsu_lnk (s : State) (x : Ksu) : (s.setKsu x).lnk = s.lnk := rfl
@[simp] theorem setKsu_pst (s : State) (x : Ksu) : (s.setKsu x).pst = s.pst := rfl
@[simp] theorem setKsu_hold (s : State) (x : Ksu) : (s.setKsu x).hold = s.hold := rfl
@[simp] theorem setKsu_powerGood (s : State) (x : Ksu) : (s.setKsu x).powerGood = s.powerGood := rfl
@[simp] theorem setKsu_lastSent (s : State) (x : Ksu) : (s.setKsu x).lastSent = s.lastSent := rfl
@[simp] theorem setKsu_pending (s : State) (x : Ksu) : (s.setKsu x).pending = s.pending := rfl
@[simp] theorem setKsu_setKsu (s : State) (x y : Ksu) : (s.setKsu x).setKsu y = s.setKsu y := rfl
@[simp] theorem setKsu_self (s : State) : s.setKsu s.ksu = s := rfl

@[simp] theorem setKeq_time (s : State) (x : Keq) : (s.setKeq x).time = s.time := rfl
@[simp] theorem setKeq_settings (s : State) (x : Keq) : (s.setKeq x).settings = s.settings := rfl
@[simp] theorem setKeq_zmon (s : State) (x : Keq) : (s.setKeq x).zmon = s.zmon := rfl
@[simp] theorem setKeq_hsch (s : State) (x : Keq) : (s.setKeq x).hsch = s.hsch := rfl
@[simp] theorem setKeq_afm (s : State) (x : Keq) : (s.setKeq x).afm = s.afm := rfl
@[simp] theorem setKeq_hps (s : State) (x : Keq) : (s.setKeq x).hps = s.hps := rfl
@[simp] theorem setKeq_weu (s : State) (x : Keq) : (s.setKeq x).weu = s.weu := rfl
@[simp] theorem setKeq_cpt (s : State) (x : Keq) : (s.setKeq x).cpt = s.cpt := rfl
@[simp] theorem setKeq_ksu (s : State) (x : Keq) : (s.setKeq x).ksu = s.ksu := rfl
@[simp] theorem setKeq_keq (s : State) (x : Keq) : (s.setKeq x).keq = x := rfl
@[simp] theorem setKeq_tmx (s : State) (x : Keq) : (s.setKeq x).tmx = s.tmx := rfl
@[simp] theorem setKeq_cnu (s : State) (x : Keq) : (s.setKeq x).cnu = s.cnu := rfl
@[simp] theorem setKeq_lnk (s : State) (x : Keq) : (s.setKeq x).lnk = s.lnk := rfl
@[simp] theorem setKeq_pst (s : State) (x : Keq) : (s.setKeq x).pst = s.pst := rfl
@[simp] theorem setKeq_hold (s : State) (x : Keq) : (s.setKeq x).hold = s.hold := rfl
@[simp] theorem setKeq_powerGood (s : State) (x : Keq) : (s.setKeq x).powerGood = s.powerGood := rfl
@[simp] theorem setKeq_lastSent (s : State) (x : Keq) : (s.setKeq x).lastSent = s.lastSent := rfl
@[simp] theorem setKeq_pending (s : State) (x : Keq) : (s.setKeq x).pending = s.pending := rfl
@[simp] theorem setKeq_setKeq (s : State) (x y : Keq) : (s.setKeq x).setKeq y = s.setKeq y := rfl
@[simp] theorem setKeq_self (s : State) : s.setKeq s.keq = s := rfl

@[simp] theorem setTmx_time (s : State) (x : Tmx) : (s.setTmx x).time = s.time := rfl
@[simp] theorem setTmx_settings (s : State) (x : Tmx) : (s.setTmx x).settings = s.settings := rfl
@[simp] theorem setTmx_zmon (s : State) (x : Tmx) : (s.setTmx x).zmon = s.zmon := rfl
@[simp] theorem setTmx_hsch (s : State) (x : Tmx) : (s.setTmx x).hsch = s.hsch := rfl
@[simp] theorem setTmx_afm (s : State) (x : Tmx) : (s.setTmx x).afm = s.afm := rfl
@[simp] theorem setTmx_hps (s : State) (x : Tmx) : (s.setTmx x).hps = s.hps := rfl
@[simp] theorem setTmx_weu (s : State) (x : Tmx) : (s.setTmx x).weu = s.weu := rfl
@[simp] theorem setTmx_cpt (s : State) (x : Tmx) : (s.setTmx x).cpt = s.cpt := rfl
@[simp] theorem setTmx_ksu (s : State) (x : Tmx) : (s.setTmx x).ksu = s.ksu := rfl
@[simp] theorem setTmx_keq (s : State) (x : Tmx) : (s.setTmx x).keq = s.keq := rfl
@[simp] theorem setTmx_tmx (s : State) (x : Tmx) : (s.setTmx x).tmx = x := rfl
@[simp] theorem setTmx_cnu (s : State) (x : Tmx) : (s.setTmx x).cnu = s.cnu := rfl
@[simp] theorem setTmx_lnk (s : State) (x : Tmx) : (s.setTmx x).lnk = s.lnk := rfl
@[simp] theorem setTmx_pst (s : State) (x : Tmx) : (s.setTmx x).pst = s.pst := rfl
@[simp] theorem setTmx_hold (s : State) (x : Tmx) : (s.setTmx x).hold = s.hold := rfl
@[simp] theorem setTmx_powerGood (s : State) (x : Tmx) : (s.setTmx x).powerGood = s.powerGood := rfl
@[simp] theorem setTmx_lastSent (s : State) (x : Tmx) : (s.setTmx x).lastSent = s.lastSent := rfl
@[simp] theorem setTmx_pending (s : State) (x : Tmx) : (s.setTmx x).pending = s.pending := rfl
@[simp] theorem setTmx_setTmx (s : State) (x y : Tmx) : (s.setTmx x).setTmx y = s.setTmx y := rfl
@[simp] theorem setTmx_self (s : State) : s.setTmx s.tmx = s := rfl

@[simp] theorem setCnu_time (s : State) (x : Cnu) : (s.setCnu x).time = s.time := rfl
@[simp] theorem setCnu_settings (s : State) (x : Cnu) : (s.setCnu x).settings = s.settings := rfl
@[simp] theorem setCnu_zmon (s : State) (x : Cnu) : (s.setCnu x).zmon = s.zmon := rfl
@[simp] theorem setCnu_hsch (s : State) (x : Cnu) : (s.setCnu x).hsch = s.hsch := rfl
@[simp] theorem setCnu_afm (s : State) (x : Cnu) : (s.setCnu x).afm = s.afm := rfl
@[simp] theorem setCnu_hps (s : State) (x : Cnu) : (s.setCnu x).hps = s.hps := rfl
@[simp] theorem setCnu_weu (s : State) (x : Cnu) : (s.setCnu x).weu = s.weu := rfl
@[simp] theorem setCnu_cpt (s : State) (x : Cnu) : (s.setCnu x).cpt = s.cpt := rfl
@[simp] theorem setCnu_ksu (s : State) (x : Cnu) : (s.setCnu x).ksu = s.ksu := rfl
@[simp] theorem setCnu_keq (s : State) (x : Cnu) : (s.setCnu x).keq = s.keq := rfl
@[simp] theorem setCnu_tmx (s : State) (x : Cnu) : (s.setCnu x).tmx = s.tmx := rfl
@[simp] theorem setCnu_cnu (s : State) (x : Cnu) : (s.setCnu x).cnu = x := rfl
@[simp] theorem setCnu_lnk (s : State) (x : Cnu) : (s.setCnu x).lnk = s.lnk := rfl
@[simp] theorem setCnu_pst (s : State) (x : Cnu) : (s.setCnu x).pst = s.pst := rfl
@[simp] theorem setCnu_hold (s : State) (x : Cnu) : (s.setCnu x).hold = s.hold := rfl
@[simp] theorem setCnu_powerGood (s : State) (x : Cnu) : (s.setCnu x).powerGood = s.powerGood := rfl
@[simp] theorem setCnu_lastSent (s : State) (x : Cnu) : (s.setCnu x).lastSent = s.lastSent := rfl
@[simp] theorem setCnu_pending (s : State) (x : Cnu) : (s.setCnu x).pending = s.pending := rfl
@[simp] theorem setCnu_setCnu (s : State) (x y : Cnu) : (s.setCnu x).setCnu y = s.setCnu y := rfl
@[simp] theorem setCnu_self (s : State) : s.setCnu s.cnu = s := rfl

@[simp] theorem setLnk_time (s : State) (x : Lnk) : (s.setLnk x).time = s.time := rfl
@[simp] theorem setLnk_settings (s : State) (x : Lnk) : (s.setLnk x).settings = s.settings := rfl
@[simp] theorem setLnk_zmon (s : State) (x : Lnk) : (s.setLnk x).zmon = s.zmon := rfl
@[simp] theorem setLnk_hsch (s : State) (x : Lnk) : (s.setLnk x).hsch = s.hsch := rfl
@[simp] theorem setLnk_afm (s : State) (x : Lnk) : (s.setLnk x).afm = s.afm := rfl
@[simp] theorem setLnk_hps (s : State) (x : Lnk) : (s.setLnk x).hps = s.hps := rfl
@[simp] theorem setLnk_weu (s : State) (x : Lnk) : (s.setLnk x).weu = s.weu := rfl
@[simp] theorem setLnk_cpt (s : State) (x : Lnk) : (s.setLnk x).cpt = s.cpt := rfl
@[simp] theorem setLnk_ksu (s : State) (x : Lnk) : (s.setLnk x).ksu = s.ksu := rfl
@[simp] theorem setLnk_keq (s : State) (x : Lnk) : (s.setLnk x).keq = s.keq := rfl
@[simp] theorem setLnk_tmx (s : State) (x : Lnk) : (s.setLnk x).tmx = s.tmx := rfl
@[simp] theorem setLnk_cnu (s : State) (x : Lnk) : (s.setLnk x).cnu = s.cnu := rfl
@[simp] theorem setLnk_lnk (s : State) (x : Lnk) : (s.setLnk x).lnk = x := rfl
@[simp] theorem setLnk_pst (s : State) (x : Lnk) : (s.setLnk x).pst = s.pst := rfl
@[simp] theorem setLnk_hold (s : State) (x : Lnk) : (s.setLnk x).hold = s.hold := rfl
@[simp] theorem setLnk_powerGood (s : State) (x : Lnk) : (s.setLnk x).powerGood = s.powerGood := rfl
@[simp] theorem setLnk_lastSent (s : State) (x : Lnk) : (s.setLnk x).lastSent = s.lastSent := rfl
@[simp] theorem setLnk_pending (s : State) (x : Lnk) : (s.setLnk x).pending = s.pending := rfl
@[simp] theorem setLnk_setLnk (s : State) (x y : Lnk) : (s.setLnk x).setLnk y = s.setLnk y := rfl
@[simp] theorem setLnk_self (s : State) : s.setLnk s.lnk = s := rfl

@[simp] theorem setPst_time (s : State) (x : Pst) : (s.setPst x).time = s.time := rfl
@[simp] theorem setPst_settings (s : State) (x : Pst) : (s.setPst x).settings = s.settings := rfl
@[simp] theorem setPst_zmon (s : State) (x : Pst) : (s.setPst x).zmon = s.zmon := rfl
@[simp] theorem setPst_hsch (s : State) (x : Pst) : (s.setPst x).hsch = s.hsch := rfl
@[simp] theorem setPst_afm (s : State) (x : Pst) : (s.setPst x).afm = s.afm := rfl
@[simp] theorem setPst_hps (s : State) (x : Pst) : (s.setPst x).hps = s.hps := rfl
@[simp] theorem setPst_weu (s : State) (x : Pst) : (s.setPst x).weu = s.weu := rfl
@[simp] theorem setPst_cpt (s : State) (x : Pst) : (s.setPst x).cpt = s.cpt := rfl
@[simp] theorem setPst_ksu (s : State) (x : Pst) : (s.setPst x).ksu = s.ksu := rfl
@[simp] theorem setPst_keq (s : State) (x : Pst) : (s.setPst x).keq = s.keq := rfl
@[simp] theorem setPst_tmx (s : State) (x : Pst) : (s.setPst x).tmx = s.tmx := rfl
@[simp] theorem setPst_cnu (s : State) (x : Pst) : (s.setPst x).cnu = s.cnu := rfl
@[simp] theorem setPst_lnk (s : State) (x : Pst) : (s.setPst x).lnk = s.lnk := rfl
@[simp] theorem setPst_pst (s : State) (x : Pst) : (s.setPst x).pst = x := rfl
@[simp] theorem setPst_hold (s : State) (x : Pst) : (s.setPst x).hold = s.hold := rfl
@[simp] theorem setPst_powerGood (s : State) (x : Pst) : (s.setPst x).powerGood = s.powerGood := rfl
@[simp] theorem setPst_lastSent (s : State) (x : Pst) : (s.setPst x).lastSent = s.lastSent := rfl
@[simp] theorem setPst_pending (s : State) (x : Pst) : (s.setPst x).pending = s.pending := rfl
@[simp] theorem setPst_setPst (s : State) (x y : Pst) : (s.setPst x).setPst y = s.setPst y := rfl
@[simp] theorem setPst_self (s : State) : s.setPst s.pst = s := rfl

@[simp] theorem setHold_time (s : State) (x : Bool) : (s.setHold x).time = s.time := rfl
@[simp] theorem setHold_settings (s : State) (x : Bool) : (s.setHold x).settings = s.settings := rfl
@[simp] theorem setHold_zmon (s : State) (x : Bool) : (s.setHold x).zmon = s.zmon := rfl
@[simp] theorem setHold_hsch (s : State) (x : Bool) : (s.setHold x).hsch = s.hsch := rfl
@[simp] theorem setHold_afm (s : State) (x : Bool) : (s.setHold x).afm = s.afm := rfl
@[simp] theorem setHold_hps (s : State) (x : Bool) : (s.setHold x).hps = s.hps := rfl
@[simp] theorem setHold_weu (s : State) (x : Bool) : (s.setHold x).weu = s.weu := rfl
@[simp] theorem setHold_cpt (s : State) (x : Bool) : (s.setHold x).cpt = s.cpt := rfl
@[simp] theorem setHold_ksu (s : State) (x : Bool) : (s.setHold x).ksu = s.ksu := rfl
@[simp] theorem setHold_keq (s : State) (x : Bool) : (s.setHold x).keq = s.keq := rfl
@[simp] theorem setHold_tmx (s : State) (x : Bool) : (s.setHold x).tmx = s.tmx := rfl
@[simp] theorem setHold_cnu (s : State) (x : Bool) : (s.setHold x).cnu = s.cnu := rfl
@[simp] theorem setHold_lnk (s : State) (x : Bool) : (s.setHold x).lnk = s.lnk := rfl
@[simp] theorem setHold_pst (s : State) (x : Bool) : (s.setHold x).pst = s.pst := rfl
@[simp] theorem setHold_hold (s : State) (x : Bool) : (s.setHold x).hold = x := rfl
@[simp] theorem setHold_powerGood (s : State) (x : Bool) : (s.setHold x).powerGood = s.powerGood := rfl
@[simp] theorem setHold_lastSent (s : State) (x : Bool) : (s.setHold x).lastSent = s.lastSent := rfl
@[simp] theorem setHold_pending (s : State) (x : Bool) : (s.setHold x).pending = s.pending := rfl
@[simp] theorem setHold_setHold (s : State) (x y : Bool) : (s.setHold x).setHold y = s.setHold y := rfl
@[simp] theorem setHold_self (s : State) : s.setHold s.hold = s := rfl

@[simp] theorem setPowerGood_time (s : State) (x : Bool) : (s.setPowerGood x).time = s.time := rfl
@[simp] theorem setPowerGood_settings (s : State) (x : Bool) : (s.setPowerGood x).settings = s.settings := rfl
@[simp] theorem setPowerGood_zmon (s : State) (x : Bool) : (s.setPowerGood x).zmon = s.zmon := rfl
@[simp] theorem setPowerGood_hsch (s : State) (x : Bool) : (s.setPowerGood x).hsch = s.hsch := rfl
@[simp] theorem setPowerGood_afm (s : State) (x : Bool) : (s.setPowerGood x).afm = s.afm := rfl
@[simp] theorem setPowerGood_hps (s : State) (x : Bool) : (s.setPowerGood x).hps = s.hps := rfl
@[simp] theorem setPowerGood_weu (s : State) (x : Bool) : (s.setPowerGood x).weu = s.weu := rfl
@[simp] theorem setPowerGood_cpt (s : State) (x : Bool) : (s.setPowerGood x).cpt = s.cpt := rfl
@[simp] theorem setPowerGood_ksu (s : State) (x : Bool) : (s.setPowerGood x).ksu = s.ksu := rfl
@[simp] theorem setPowerGood_keq (s : State) (x : Bool) : (s.setPowerGood x).keq = s.keq := rfl
@[simp] theorem setPowerGood_tmx (s : State) (x : Bool) : (s.setPowerGood x).tmx = s.tmx := rfl
@[simp] theorem setPowerGood_cnu (s : State) (x : Bool) : (s.setPowerGood x).cnu = s.cnu := rfl
@[simp] theorem setPowerGood_lnk (s : State) (x : Bool) : (s.setPowerGood x).lnk = s.lnk := rfl
@[simp] theorem setPowerGood_pst (s : State) (x : Bool) : (s.setPowerGood x).pst = s.pst := rfl
@[simp] theorem setPowerGood_hold (s : State) (x : Bool) : (s.setPowerGood x).hold = s.hold := rfl
@[simp] theorem setPowerGood_powerGood (s : State) (x : Bool) : (s.setPowerGood x).powerGood = x := rfl
@[simp] theorem setPowerGood_lastSent (s : State) (x : Bool) : (s.setPowerGood x).lastSent = s.lastSent := rfl
@[simp] theorem setPowerGood_pending (s : State) (x : Bool) : (s.setPowerGood x).pending = s.pending := rfl
@[simp] theorem setPowerGood_setPowerGood (s : State) (x y : Bool) : (s.setPowerGood x).setPowerGood y = s.setPowerGood y := rfl
@[simp] theorem setPowerGood_self (s : State) : s.setPowerGood s.powerGood = s := rfl

@[simp] theorem setLastSent_time (s : State) (x : List Byte) : (s.setLastSent x).time = s.time := rfl
@[simp] theorem setLastSent_settings (s : State) (x : List Byte) : (s.setLastSent x).settings = s.settings := rfl
@[simp] theorem setLastSent_zmon (s : State) (x : List Byte) : (s.setLastSent x).zmon = s.zmon := rfl
@[simp] theorem setLastSent_hsch (s : State) (x : List Byte) : (s.setLastSent x).hsch = s.hsch := rfl
@[simp] theorem setLastSent_afm (s : State) (x : List Byte) : (s.setLastSent x).afm = s.afm := rfl
@[simp] theorem setLastSent_hps (s : State) (x : List Byte) : (s.setLastSent x).hps = s.hps := rfl
@[simp] theorem setLastSent_weu (s : State) (x : List Byte) : (s.setLastSent x).weu = s.weu := rfl
@[simp] theorem setLastSent_cpt (s : State) (x : List Byte) : (s.setLastSent x).cpt = s.cpt := rfl
@[simp] theorem setLastSent_ksu (s : State) (x : List Byte) : (s.setLastSent x).ksu = s.ksu := rfl
@[simp] theorem setLastSent_keq (s : State) (x : List Byte) : (s.setLastSent x).keq = s.keq := rfl
@[simp] theorem setLastSent_tmx (s : State) (x : List Byte) : (s.setLastSent x).tmx = s.tmx := rfl
@[simp] theorem setLastSent_cnu (s : State) (x : List Byte) : (s.setLastSent x).cnu = s.cnu := rfl
@[simp] theorem setLastSent_lnk (s : State) (x : List Byte) : (s.setLastSent x).lnk = s.lnk := rfl
@[simp] theorem setLastSent_pst (s : State) (x : List Byte) : (s.setLastSent x).pst = s.pst := rfl
@[simp] theorem setLastSent_hold (s : State) (x : List Byte) : (s.setLastSent x).hold = s.hold := rfl
@[simp] theorem setLastSent_powerGood (s : State) (x : List Byte) : (s.setLastSent x).powerGood = s.powerGood := rfl
@[simp] theorem setLastSent_lastSent (s : State) (x : List Byte) : (s.setLastSent x).lastSent = x := rfl
@[simp] theorem setLastSent_pending (s : State) (x : List Byte) : (s.setLastSent x).pending = s.pending := rfl
@[simp] theorem setLastSent_setLastSent (s : State) (x y : List Byte) : (s.setLastSent x).setLastSent y = s.setLastSent y := rfl
@[simp] theorem setLastSent_self (s : State) : s.setLastSent s.lastSent = s := rfl

@[simp] theorem setPending_time (s : State) (x : List Instr) : (s.setPending x).time = s.time := rfl
@[simp] theorem setPending_settings (s : State) (x : List Instr) : (s.setPending x).settings = s.settings := rfl
@[simp] theorem setPending_zmon (s : State) (x : List Instr) : (s.setPending x).zmon = s.zmon := rfl
@[simp] theorem setPending_hsch (s : State) (x : List Instr) : (s.setPending x).hsch = s.hsch := rfl
@[simp] theorem setPending_afm (s : State) (x : List Instr) : (s.setPending x).afm = s.afm := rfl
@[simp] theorem setPending_hps (s : State) (x : List Instr) : (s.setPending x).hps = s.hps := rfl
@[simp] theorem setPending_weu (s : State) (x : List Instr) : (s.setPending x).weu = s.weu := rfl
@[simp] theorem setPending_cpt (s : State) (x : List Instr) : (s.setPending x).cpt = s.cpt := rfl
@[simp] theorem setPending_ksu (s : State) (x : List Instr) : (s.setPending x).ksu = s.ksu := rfl
@[simp] theorem setPending_keq (s : State) (x : List Instr) : (s.setPending x).keq = s.keq := rfl
@[simp] theorem setPending_tmx (s : State) (x : List Instr) : (s.setPending x).tmx = s.tmx := rfl
@[simp] theorem setPending_cnu (s : State) (x : List Instr) : (s.setPending x).cnu = s.cnu := rfl
@[simp] theorem setPending_lnk (s : State) (x : List Instr) : (s.setPending x).lnk = s.lnk := rfl
@[simp] theorem setPending_pst (s : State) (x : List Instr) : (s.setPending x).pst = s.pst := rfl
@[simp] theorem setPending_hold (s : State) (x : List Instr) : (s.setPending x).hold = s.hold := rfl
@[simp] theorem setPending_powerGood (s : State) (x : List Instr) : (s.setPending x).powerGood = s.powerGood := rfl
@[simp] theorem setPending_lastSent (s : State) (x : List Instr) : (s.setPending x).lastSent = s.lastSent := rfl
@[simp] theorem setPending_pending (s : State) (x : List Instr) : (s.setPending x).pending = x := rfl
@[simp] theorem setPending_setPending (s : State) (x y : List Instr) : (s.setPending x).setPending y = s.setPending y := rfl
@[simp] theorem setPending_self (s : State) : s.setPending s.pending = s := rfl

end Sys2Proof.Machine.State
end

