-- ==== Sys2Proof/Laws/Ops.lean ====
section
/-! SUPPORT. What the operations of Machine/Ops.lean can do: which blocks they touch, and what they make
of a latch, the inbox and the queues. -/

namespace Sys2Proof.Machine

open Sys2Proof.Safety

/-! ### Sets of conditions -/

theorem Cond.id_lt (c : Cond) : c.id < 30 := by
  cases c with
  | sensorFault z => cases z <;> decide
  | heaterFault h => cases h <;> decide
  | triggerT u => cases u <;> decide
  | _ => decide

theorem Cond.id_injective : Function.Injective Cond.id := by
  intro a b h
  cases a <;> cases b <;> simp only [Cond.id] at h <;>
    first
      | rfl
      | (rename_i x y; cases x <;> cases y <;> simp_all [Four.num, Three.num, Six.num])
      | (rename_i x; cases x <;> simp [Four.num, Three.num, Six.num] at h)
      | simp at h

theorem condIn_or (a b : Word32) (c : Cond) : condIn (a ||| b) c = (condIn a c || condIn b c) := by
  simp [condIn]

theorem condIn_bit (c d : Cond) : condIn c.bit d = decide (c = d) := by
  have h := Cond.id_lt c
  have h2 := Cond.id_lt d
  simp only [condIn, Cond.bit, BitVec.getLsbD_twoPow]
  by_cases e : c = d
  · subst e; simp; omega
  · simp only [e, decide_false, Bool.and_eq_false_iff, decide_eq_false_iff_not]
    exact Or.inr fun he => e (Cond.id_injective he)

theorem condIn_and_not_bit (a : Word32) (c d : Cond) :
    condIn (a &&& ~~~c.bit) d = (condIn a d && !decide (c = d)) := by
  have h := condIn_bit c d
  have h2 := Cond.id_lt d
  have h3 : d.id < 32 := by omega
  simp only [condIn] at h ⊢
  rw [← h]; simp [h3]

/-! ### CNU -/

/-- A notice changes CNU only, and of CNU the queue and the overflow flag. -/
theorem notify_eq (b : NoticeBody) (s : State) :
    notify b s = s.setCnu { s.cnu with
      notices := (notify b s).cnu.notices, overflow := (notify b s).cnu.overflow } := by
  unfold notify; split <;> rfl

/-- A latch changes CNU only. -/
theorem setLatch_eq (c : Cond) (s : State) : setLatch c s = s.setCnu (setLatch c s).cnu := rfl

/-- A raise changes CNU only. -/
theorem raise_eq (c : Cond) (s : State) : raise c s = s.setCnu (raise c s).cnu := by
  unfold raise
  split
  · rw [notify_eq]; rfl
  · rfl

/-- A live cause made present or absent changes CNU only. -/
theorem setCause_eq (c : Cond) (b : Bool) (s : State) :
    setCause c b s = s.setCnu { s.cnu with live := (setCause c b s).cnu.live } := rfl

@[simp] theorem setCause_latched (c : Cond) (b : Bool) (s : State) :
    (setCause c b s).cnu.latched = s.cnu.latched := rfl
@[simp] theorem setCause_notices (c : Cond) (b : Bool) (s : State) :
    (setCause c b s).cnu.notices = s.cnu.notices := rfl
@[simp] theorem setCause_kinds (c : Cond) (b : Bool) (s : State) :
    (setCause c b s).cnu.kinds = s.cnu.kinds := rfl
@[simp] theorem setCause_seen (c : Cond) (b : Bool) (s : State) :
    (setCause c b s).cnu.seen = s.cnu.seen := rfl
@[simp] theorem setCause_zmon (c : Cond) (b : Bool) (s : State) : (setCause c b s).zmon = s.zmon := rfl

/-- A live cause is what its owner made it, and no other changes (R168). -/
theorem setCause_live (c d : Cond) (b : Bool) (s : State) :
    (setCause c b s).live d = if c = d then b else s.live d := by
  cases b <;> by_cases h : c = d <;>
    simp [State.live, setCause, condIn_or, condIn_and_not_bit, condIn_bit, h]

/-- The end of a live cause changes CNU only. -/
theorem endCause_eq (c : Cond) (s : State) : endCause c s = s.setCnu (endCause c s).cnu := rfl

@[simp] theorem notify_latched (b : NoticeBody) (s : State) :
    (notify b s).cnu.latched = s.cnu.latched := by rw [notify_eq]; rfl
@[simp] theorem notify_live (b : NoticeBody) (s : State) : (notify b s).cnu.live = s.cnu.live := by
  rw [notify_eq]; rfl
@[simp] theorem notify_kinds (b : NoticeBody) (s : State) : (notify b s).cnu.kinds = s.cnu.kinds := by
  rw [notify_eq]; rfl
@[simp] theorem notify_seen (b : NoticeBody) (s : State) : (notify b s).cnu.seen = s.cnu.seen := by
  rw [notify_eq]; rfl
@[simp] theorem notify_svcTimer (b : NoticeBody) (s : State) :
    (notify b s).cnu.svcTimer = s.cnu.svcTimer := by rw [notify_eq]; rfl

/-- A raise latches its condition, and no other (R168). -/
@[simp] theorem raise_latched (c : Cond) (s : State) :
    (raise c s).cnu.latched = s.cnu.latched ||| c.bit := by
  unfold raise; split
  · rw [notify_latched]; rfl
  · rfl

/-- A raise makes the live cause of a live condition present, and no other (R168). -/
@[simp] theorem raise_live (c : Cond) (s : State) :
    (raise c s).cnu.live = if c.isLive then s.cnu.live ||| c.bit else s.cnu.live := by
  unfold raise; split
  · rw [notify_live]; rfl
  · rfl

@[simp] theorem raise_kinds (c : Cond) (s : State) : (raise c s).cnu.kinds = s.cnu.kinds := by
  unfold raise; split
  · rw [notify_kinds]; rfl
  · rfl
@[simp] theorem raise_seen (c : Cond) (s : State) : (raise c s).cnu.seen = s.cnu.seen := by
  unfold raise; split
  · rw [notify_seen]; rfl
  · rfl
@[simp] theorem raise_svcTimer (c : Cond) (s : State) : (raise c s).cnu.svcTimer = s.cnu.svcTimer := by
  unfold raise; split
  · rw [notify_svcTimer]; rfl
  · rfl

theorem raise_is_latched (c d : Cond) (s : State) :
    (raise c s).latched d = (s.latched d || decide (c = d)) := by
  simp [State.latched, condIn_or, condIn_bit]

theorem endCause_live (c d : Cond) (s : State) :
    (endCause c s).live d = (s.live d && !decide (c = d)) := by
  rw [endCause, setCause_live]
  by_cases h : c = d <;> simp [h]

/-- A raise of a condition already latched hands no notice to the queue (R168). -/
theorem raise_of_latched (c : Cond) (s : State) (h : s.latched c = true) :
    raise c s = setLatch c s := by
  simp [raise, h]

@[simp] theorem notify_time (b : NoticeBody) (s : State) : (notify b s).time = s.time := by
  rw [notify_eq]; rfl
@[simp] theorem raise_time (c : Cond) (s : State) : (raise c s).time = s.time := by rw [raise_eq]; rfl
@[simp] theorem endCause_time (c : Cond) (s : State) : (endCause c s).time = s.time := rfl
@[simp] theorem notify_settings (b : NoticeBody) (s : State) : (notify b s).settings = s.settings := by
  rw [notify_eq]; rfl
@[simp] theorem raise_settings (c : Cond) (s : State) : (raise c s).settings = s.settings := by rw [raise_eq]; rfl
@[simp] theorem endCause_settings (c : Cond) (s : State) : (endCause c s).settings = s.settings := rfl
@[simp] theorem notify_zmon (b : NoticeBody) (s : State) : (notify b s).zmon = s.zmon := by
  rw [notify_eq]; rfl
@[simp] theorem raise_zmon (c : Cond) (s : State) : (raise c s).zmon = s.zmon := by rw [raise_eq]; rfl
@[simp] theorem endCause_zmon (c : Cond) (s : State) : (endCause c s).zmon = s.zmon := rfl
@[simp] theorem notify_hsch (b : NoticeBody) (s : State) : (notify b s).hsch = s.hsch := by
  rw [notify_eq]; rfl
@[simp] theorem raise_hsch (c : Cond) (s : State) : (raise c s).hsch = s.hsch := by rw [raise_eq]; rfl
@[simp] theorem endCause_hsch (c : Cond) (s : State) : (endCause c s).hsch = s.hsch := rfl
@[simp] theorem notify_afm (b : NoticeBody) (s : State) : (notify b s).afm = s.afm := by
  rw [notify_eq]; rfl
@[simp] theorem raise_afm (c : Cond) (s : State) : (raise c s).afm = s.afm := by rw [raise_eq]; rfl
@[simp] theorem endCause_afm (c : Cond) (s : State) : (endCause c s).afm = s.afm := rfl
@[simp] theorem notify_hps (b : NoticeBody) (s : State) : (notify b s).hps = s.hps := by
  rw [notify_eq]; rfl
@[simp] theorem raise_hps (c : Cond) (s : State) : (raise c s).hps = s.hps := by rw [raise_eq]; rfl
@[simp] theorem endCause_hps (c : Cond) (s : State) : (endCause c s).hps = s.hps := rfl
@[simp] theorem notify_weu (b : NoticeBody) (s : State) : (notify b s).weu = s.weu := by
  rw [notify_eq]; rfl
@[simp] theorem raise_weu (c : Cond) (s : State) : (raise c s).weu = s.weu := by rw [raise_eq]; rfl
@[simp] theorem endCause_weu (c : Cond) (s : State) : (endCause c s).weu = s.weu := rfl
@[simp] theorem notify_cpt (b : NoticeBody) (s : State) : (notify b s).cpt = s.cpt := by
  rw [notify_eq]; rfl
@[simp] theorem raise_cpt (c : Cond) (s : State) : (raise c s).cpt = s.cpt := by rw [raise_eq]; rfl
@[simp] theorem endCause_cpt (c : Cond) (s : State) : (endCause c s).cpt = s.cpt := rfl
@[simp] theorem notify_ksu (b : NoticeBody) (s : State) : (notify b s).ksu = s.ksu := by
  rw [notify_eq]; rfl
@[simp] theorem raise_ksu (c : Cond) (s : State) : (raise c s).ksu = s.ksu := by rw [raise_eq]; rfl
@[simp] theorem endCause_ksu (c : Cond) (s : State) : (endCause c s).ksu = s.ksu := rfl
@[simp] theorem notify_keq (b : NoticeBody) (s : State) : (notify b s).keq = s.keq := by
  rw [notify_eq]; rfl
@[simp] theorem raise_keq (c : Cond) (s : State) : (raise c s).keq = s.keq := by rw [raise_eq]; rfl
@[simp] theorem endCause_keq (c : Cond) (s : State) : (endCause c s).keq = s.keq := rfl
@[simp] theorem notify_tmx (b : NoticeBody) (s : State) : (notify b s).tmx = s.tmx := by
  rw [notify_eq]; rfl
@[simp] theorem raise_tmx (c : Cond) (s : State) : (raise c s).tmx = s.tmx := by rw [raise_eq]; rfl
@[simp] theorem endCause_tmx (c : Cond) (s : State) : (endCause c s).tmx = s.tmx := rfl
@[simp] theorem notify_lnk (b : NoticeBody) (s : State) : (notify b s).lnk = s.lnk := by
  rw [notify_eq]; rfl
@[simp] theorem raise_lnk (c : Cond) (s : State) : (raise c s).lnk = s.lnk := by rw [raise_eq]; rfl
@[simp] theorem endCause_lnk (c : Cond) (s : State) : (endCause c s).lnk = s.lnk := rfl
@[simp] theorem notify_pst (b : NoticeBody) (s : State) : (notify b s).pst = s.pst := by
  rw [notify_eq]; rfl
@[simp] theorem raise_pst (c : Cond) (s : State) : (raise c s).pst = s.pst := by rw [raise_eq]; rfl
@[simp] theorem endCause_pst (c : Cond) (s : State) : (endCause c s).pst = s.pst := rfl
@[simp] theorem notify_hold (b : NoticeBody) (s : State) : (notify b s).hold = s.hold := by
  rw [notify_eq]; rfl
@[simp] theorem raise_hold (c : Cond) (s : State) : (raise c s).hold = s.hold := by rw [raise_eq]; rfl
@[simp] theorem endCause_hold (c : Cond) (s : State) : (endCause c s).hold = s.hold := rfl
@[simp] theorem notify_powerGood (b : NoticeBody) (s : State) : (notify b s).powerGood = s.powerGood := by
  rw [notify_eq]; rfl
@[simp] theorem raise_powerGood (c : Cond) (s : State) : (raise c s).powerGood = s.powerGood := by rw [raise_eq]; rfl
@[simp] theorem endCause_powerGood (c : Cond) (s : State) : (endCause c s).powerGood = s.powerGood := rfl
@[simp] theorem notify_lastSent (b : NoticeBody) (s : State) : (notify b s).lastSent = s.lastSent := by
  rw [notify_eq]; rfl
@[simp] theorem raise_lastSent (c : Cond) (s : State) : (raise c s).lastSent = s.lastSent := by rw [raise_eq]; rfl
@[simp] theorem endCause_lastSent (c : Cond) (s : State) : (endCause c s).lastSent = s.lastSent := rfl
@[simp] theorem notify_pending (b : NoticeBody) (s : State) : (notify b s).pending = s.pending := by
  rw [notify_eq]; rfl
@[simp] theorem raise_pending (c : Cond) (s : State) : (raise c s).pending = s.pending := by rw [raise_eq]; rfl
@[simp] theorem endCause_pending (c : Cond) (s : State) : (endCause c s).pending = s.pending := rfl

/-! ### The inbox -/

/-- Posting changes TMX's inbox and CNU only. -/
theorem post_eq (e : Event) (s : State) :
    post e s = (s.setTmx { s.tmx with inbox := (post e s).tmx.inbox }).setCnu (post e s).cnu := by
  unfold post; split
  · rfl
  · rw [raise_eq]; rfl

@[simp] theorem post_time (e : Event) (s : State) : (post e s).time = s.time := by rw [post_eq]; rfl
@[simp] theorem post_settings (e : Event) (s : State) : (post e s).settings = s.settings := by rw [post_eq]; rfl
@[simp] theorem post_zmon (e : Event) (s : State) : (post e s).zmon = s.zmon := by rw [post_eq]; rfl
@[simp] theorem post_hsch (e : Event) (s : State) : (post e s).hsch = s.hsch := by rw [post_eq]; rfl
@[simp] theorem post_afm (e : Event) (s : State) : (post e s).afm = s.afm := by rw [post_eq]; rfl
@[simp] theorem post_hps (e : Event) (s : State) : (post e s).hps = s.hps := by rw [post_eq]; rfl
@[simp] theorem post_weu (e : Event) (s : State) : (post e s).weu = s.weu := by rw [post_eq]; rfl
@[simp] theorem post_cpt (e : Event) (s : State) : (post e s).cpt = s.cpt := by rw [post_eq]; rfl
@[simp] theorem post_ksu (e : Event) (s : State) : (post e s).ksu = s.ksu := by rw [post_eq]; rfl
@[simp] theorem post_keq (e : Event) (s : State) : (post e s).keq = s.keq := by rw [post_eq]; rfl
@[simp] theorem post_lnk (e : Event) (s : State) : (post e s).lnk = s.lnk := by rw [post_eq]; rfl
@[simp] theorem post_pst (e : Event) (s : State) : (post e s).pst = s.pst := by rw [post_eq]; rfl
@[simp] theorem post_hold (e : Event) (s : State) : (post e s).hold = s.hold := by rw [post_eq]; rfl
@[simp] theorem post_powerGood (e : Event) (s : State) : (post e s).powerGood = s.powerGood := by rw [post_eq]; rfl
@[simp] theorem post_lastSent (e : Event) (s : State) : (post e s).lastSent = s.lastSent := by rw [post_eq]; rfl
@[simp] theorem post_pending (e : Event) (s : State) : (post e s).pending = s.pending := by rw [post_eq]; rfl
@[simp] theorem post_units (e : Event) (s : State) : (post e s).tmx.units = s.tmx.units := by
  rw [post_eq]; rfl

/-- An event joins an inbox with room as the newest (R149). -/
theorem post_of_room (e : Event) (s : State) (h : s.tmx.inbox.length < Config.inboxSize) :
    post e s = s.setTmx { s.tmx with inbox := s.tmx.inbox ++ [e] } := by
  unfold post; rw [if_pos h]

/-- An event is dropped at a full inbox, and EVENTS_LOST latched (R149). -/
theorem post_of_full (e : Event) (s : State) (h : ¬ s.tmx.inbox.length < Config.inboxSize) :
    post e s = raise .eventsLost s := by
  unfold post; rw [if_neg h]

/-- An inbox of at most 16 events stays one (R149). -/
theorem post_bounded (e : Event) (s : State) (h : s.tmx.inbox.length ≤ Config.inboxSize) :
    (post e s).tmx.inbox.length ≤ Config.inboxSize := by
  unfold post; split
  · rename_i h'; simp only [State.setTmx_tmx, List.length_append, List.length_singleton]; omega
  · rw [raise_eq]; exact h

/-! ### A round's records (R1) -/

/-- The records of a round are published with their live causes, in CNU alone. -/
theorem publishRound_eq (m : Zmon) (s : State) :
    publishRound m s = (s.setZmon m).setCnu { s.cnu with live := (publishRound m s).cnu.live } := rfl

@[simp] theorem publishRound_zmon (m : Zmon) (s : State) : (publishRound m s).zmon = m := rfl

/-- The live causes that follow ZMON's records are those of the round, the others as they were (R4, R12). -/
theorem publishRound_live (m : Zmon) (s : State) (c : Cond) :
    (publishRound m s).live c =
      match c with
      | .supplyLow => m.supplyLow
      | .sensorFault z => !(m.zones.get z).valid
      | c => s.live c := by
  simp only [publishRound, setCause_live, Four.all, List.foldl]
  cases c with
  | sensorFault z => cases z <;> simp
  | _ => simp <;> rfl

/-! ### The image (R196) -/

/-- An image stored with its check is VALID, and read back as what was stored (R196, R197). -/
theorem content_of_stored (c : Settings) (cell : Option Nat) (x : Option Storing) :
    Pst.content? ⟨some ⟨c, imageCheck c⟩, cell, x⟩ = some c := by
  simp [Pst.content?, Image.valid]

/-- An image whose check is not that of its content is INVALID (R196). -/
theorem content_of_wrong_check (c : Settings) (check : Word16) (cell : Option Nat) (x : Option Storing)
    (h : check ≠ imageCheck c) : Pst.content? ⟨some ⟨c, check⟩, cell, x⟩ = none := by
  simp [Pst.content?, Image.valid, h]

/-! ### KEQ and emits -/

/-- An offer changes KEQ and CNU only. -/
theorem offer_eq (r : KeyEvent) (s : State) :
    offer r s = (s.setKeq (offer r s).keq).setCnu (offer r s).cnu := by
  unfold offer
  split
  · dsimp only; split
    · rw [raise_eq]; rfl
    · rfl
  · rfl

/-- Handing on one thing changes TMX's inbox, KEQ and CNU only. -/
theorem emit_eq (e : Emit) (s : State) :
    emit e s = ((s.setTmx { s.tmx with inbox := (emit e s).tmx.inbox }).setKeq (emit e s).keq).setCnu
      (emit e s).cnu := by
  cases e with
  | post e => simp only [emit]; rw [post_keq]; exact post_eq e s
  | offer r =>
    have h : (offer r s).tmx = s.tmx := by rw [offer_eq]; rfl
    simp only [emit]; rw [h]; exact offer_eq r s
  | raise c => simp only [emit]; rw [raise_keq, raise_tmx]; exact raise_eq c s
  | endCause c => rfl
  | notify b =>
    simp only [emit]; rw [notify_keq, notify_tmx]
    conv_lhs => rw [notify_eq]
    conv_rhs => rw [notify_eq]
    rfl

/-- Handing on a list changes TMX's inbox, KEQ and CNU only. -/
theorem emitAll_eq (es : List Emit) (s : State) :
    emitAll es s = ((s.setTmx { s.tmx with inbox := (emitAll es s).tmx.inbox }).setKeq
      (emitAll es s).keq).setCnu (emitAll es s).cnu := by
  induction es generalizing s with
  | nil => rfl
  | cons e es ih =>
    have h : emitAll (e :: es) s = emitAll es (emit e s) := rfl
    rw [h, ih (emit e s)]
    have h1 := emit_eq e s
    generalize emit e s = t at *
    rw [h1]; rfl

@[simp] theorem emitAll_time (es : List Emit) (s : State) : (emitAll es s).time = s.time := by
  rw [emitAll_eq]; rfl
@[simp] theorem emitAll_settings (es : List Emit) (s : State) : (emitAll es s).settings = s.settings := by
  rw [emitAll_eq]; rfl
@[simp] theorem emitAll_zmon (es : List Emit) (s : State) : (emitAll es s).zmon = s.zmon := by
  rw [emitAll_eq]; rfl
@[simp] theorem emitAll_hsch (es : List Emit) (s : State) : (emitAll es s).hsch = s.hsch := by
  rw [emitAll_eq]; rfl
@[simp] theorem emitAll_afm (es : List Emit) (s : State) : (emitAll es s).afm = s.afm := by
  rw [emitAll_eq]; rfl
@[simp] theorem emitAll_hps (es : List Emit) (s : State) : (emitAll es s).hps = s.hps := by
  rw [emitAll_eq]; rfl
@[simp] theorem emitAll_weu (es : List Emit) (s : State) : (emitAll es s).weu = s.weu := by
  rw [emitAll_eq]; rfl
@[simp] theorem emitAll_cpt (es : List Emit) (s : State) : (emitAll es s).cpt = s.cpt := by
  rw [emitAll_eq]; rfl
@[simp] theorem emitAll_ksu (es : List Emit) (s : State) : (emitAll es s).ksu = s.ksu := by
  rw [emitAll_eq]; rfl
@[simp] theorem emitAll_lnk (es : List Emit) (s : State) : (emitAll es s).lnk = s.lnk := by
  rw [emitAll_eq]; rfl
@[simp] theorem emitAll_pst (es : List Emit) (s : State) : (emitAll es s).pst = s.pst := by
  rw [emitAll_eq]; rfl
@[simp] theorem emitAll_hold (es : List Emit) (s : State) : (emitAll es s).hold = s.hold := by
  rw [emitAll_eq]; rfl
@[simp] theorem emitAll_powerGood (es : List Emit) (s : State) : (emitAll es s).powerGood = s.powerGood := by
  rw [emitAll_eq]; rfl
@[simp] theorem emitAll_lastSent (es : List Emit) (s : State) : (emitAll es s).lastSent = s.lastSent := by
  rw [emitAll_eq]; rfl
@[simp] theorem emitAll_pending (es : List Emit) (s : State) : (emitAll es s).pending = s.pending := by
  rw [emitAll_eq]; rfl

end Sys2Proof.Machine
end

