-- ==== Sys2Proof/Laws/Host.lean ====
section
/-! SUPPORT. Which blocks the operations of Machine/Host.lean touch: each leaves all but HPS, WEU, CPT,
KEQ, TMX, CNU and LNK's held requests as they are. -/

namespace Sys2Proof.Machine

open Sys2Proof.Safety

/-- Of LNK nothing differs but its HELD requests (R186). -/
def LinkKept (s t : State) : Prop :=
  t.lnk = { s.lnk with held := t.lnk.held }

/-- The reach of the host operations (Sys2Proof.Safety). -/
structure HostReach (s t : State) : Prop where
  kept : OutsideKept s t
  link : LinkKept s t
  units : t.tmx.units = s.tmx.units
  lock : t.weu.policyLock = s.weu.policyLock

theorem HostReach.refl (s : State) : HostReach s s :=
  ⟨⟨rfl, rfl, rfl, rfl, rfl, rfl, rfl, rfl, rfl, rfl, rfl⟩, rfl, rfl, rfl⟩

theorem HostReach.trans {s t u : State} (h : HostReach s t) (k : HostReach t u) : HostReach s u :=
  ⟨⟨k.kept.time.trans h.kept.time, k.kept.settings.trans h.kept.settings,
    k.kept.zmon.trans h.kept.zmon, k.kept.hsch.trans h.kept.hsch, k.kept.afm.trans h.kept.afm,
    k.kept.ksu.trans h.kept.ksu, k.kept.pst.trans h.kept.pst, k.kept.hold.trans h.kept.hold,
    k.kept.powerGood.trans h.kept.powerGood, k.kept.lastSent.trans h.kept.lastSent,
    k.kept.pending.trans h.kept.pending⟩,
   by have h1 := h.link; have h2 := k.link; unfold LinkKept at *; rw [h2, h1],
   k.units.trans h.units, k.lock.trans h.lock⟩

theorem HostReach.setHps (s : State) (x : Hps) : HostReach s (s.setHps x) :=
  ⟨⟨rfl, rfl, rfl, rfl, rfl, rfl, rfl, rfl, rfl, rfl, rfl⟩, rfl, rfl, rfl⟩

theorem HostReach.setCpt (s : State) (x : Cpt) : HostReach s (s.setCpt x) :=
  ⟨⟨rfl, rfl, rfl, rfl, rfl, rfl, rfl, rfl, rfl, rfl, rfl⟩, rfl, rfl, rfl⟩

theorem HostReach.setKeq (s : State) (x : Keq) : HostReach s (s.setKeq x) :=
  ⟨⟨rfl, rfl, rfl, rfl, rfl, rfl, rfl, rfl, rfl, rfl, rfl⟩, rfl, rfl, rfl⟩

theorem HostReach.setCnu (s : State) (x : Cnu) : HostReach s (s.setCnu x) :=
  ⟨⟨rfl, rfl, rfl, rfl, rfl, rfl, rfl, rfl, rfl, rfl, rfl⟩, rfl, rfl, rfl⟩

theorem HostReach.setWeu (s : State) (x : Weu) (h : x.policyLock = s.weu.policyLock) :
    HostReach s (s.setWeu x) :=
  ⟨⟨rfl, rfl, rfl, rfl, rfl, rfl, rfl, rfl, rfl, rfl, rfl⟩, rfl, rfl, h⟩

theorem HostReach.discardHeld (s : State) : HostReach s (discardHeld s) :=
  ⟨⟨rfl, rfl, rfl, rfl, rfl, rfl, rfl, rfl, rfl, rfl, rfl⟩, rfl, rfl, rfl⟩

theorem HostReach.notify (b : NoticeBody) (s : State) : HostReach s (notify b s) := by
  rw [notify_eq]; exact HostReach.setCnu s _

theorem HostReach.raise (c : Cond) (s : State) : HostReach s (raise c s) := by
  rw [raise_eq]; exact HostReach.setCnu s _

theorem HostReach.endCause (c : Cond) (s : State) : HostReach s (endCause c s) :=
  HostReach.setCnu s _

theorem HostReach.post (e : Event) (s : State) : HostReach s (post e s) := by
  rw [post_eq]
  exact ⟨⟨rfl, rfl, rfl, rfl, rfl, rfl, rfl, rfl, rfl, rfl, rfl⟩, rfl, rfl, rfl⟩

/-- The closing step of the lemmas below: follow one operation after another. -/
theorem HostReach.step {s t u : State} (k : HostReach t u) (h : HostReach s t) : HostReach s u :=
  h.trans k

theorem takeCode_reach (code : Word16) (s : State) : HostReach s (takeCode code s).1 :=
  (HostReach.post _ _).step (HostReach.setCpt _ _)

theorem writeRecord_reach (reason : Reason) (unit : Option TrigUnit) (action : RecordAction)
    (off : Option Nat) (o : RecordOutcome) (s : State) :
    HostReach s (writeRecord reason unit action off o s) :=
  (HostReach.setWeu _ _ (by rfl)).step (HostReach.setCpt _ _)

theorem failPending_reach (s : State) : HostReach s (failPending s) := HostReach.setWeu _ _ (by rfl)

theorem weuOnEntry_lock (new old : HostState) (c : WatchdogSettings) (w : Weu) :
    (weuOnEntry new old c w).policyLock = w.policyLock := by
  cases new with
  | stopping => by_cases h : old = .running <;> simp [weuOnEntry, h]
  | _ => rfl

theorem restartReport_reach (s : State) : HostReach s (restartReport s) := by
  unfold restartReport
  split
  · dsimp only; split
    · exact (HostReach.notify _ _).step (HostReach.setWeu _ _ (by rfl))
    · exact HostReach.setWeu _ _ (by rfl)
  · exact HostReach.refl s

theorem reportEntry_reach (new old : HostState) (s : State) : HostReach s (reportEntry new old s) := by
  unfold reportEntry
  refine (HostReach.setCnu _ _).step ((HostReach.setKeq _ _).step ((HostReach.setCpt _ _).step ?_))
  have h : HostReach s (s.setWeu (weuOnEntry new old s.settings.watchdog s.weu)) :=
    HostReach.setWeu _ _ (weuOnEntry_lock _ _ _ _)
  split
  · exact (restartReport_reach _).step h
  · exact h

theorem leaveCauses_reach (old new : HostState) (s : State) : HostReach s (leaveCauses old new s) := by
  unfold leaveCauses
  dsimp only
  split <;> split <;>
    first
      | exact (HostReach.endCause _ _).step (HostReach.endCause _ _)
      | exact HostReach.endCause _ _
      | exact HostReach.refl s

/-- An entry into a host state (R53) reaches no further than its reports. -/
theorem enterState_reach (new : HostState) (stage : Stage) (timer : Option Nat) (s : State) :
    HostReach s (enterState new stage timer s) := by
  unfold enterState
  refine (reportEntry_reach _ _ _).step ((HostReach.post _ _).step ((leaveCauses_reach _ _ _).step ?_))
  dsimp only
  split
  · exact (HostReach.discardHeld _).step (HostReach.setHps _ _)
  · exact HostReach.setHps _ _

theorem testAdmission_reach (s : State) : HostReach s (testAdmission s) := by
  unfold testAdmission admitHost
  split
  · exact (enterState_reach _ _ _ _).step (HostReach.post _ _)
  · exact HostReach.refl s

theorem enterQualifying_reach (s : State) : HostReach s (enterQualifying s) := by
  have h0 : HostReach s (startWarmUp s) := by
    unfold startWarmUp; split
    · exact HostReach.refl s
    · exact HostReach.setHps _ _
  have h : HostReach s (enterState .qualifying .noStage none (startWarmUp s)) :=
    (enterState_reach _ _ _ _).step h0
  unfold enterQualifying
  refine (testAdmission_reach _).step ?_
  split
  · exact (HostReach.raise _ _).step h
  · exact h

theorem setUpWake_reach (s : State) : HostReach s (setUpWake s) := by
  unfold setUpWake
  dsimp only
  split
  · exact (HostReach.setHps _ _).step (HostReach.setHps _ _)
  · exact HostReach.setHps _ _

/-- The end of a stop (R67) reaches no further. -/
theorem endStop_reach (s : State) : HostReach s (endStop s) := by
  unfold endStop clearStop
  split
  · exact (enterState_reach _ _ _ _).step (HostReach.setHps _ _)
  · exact (enterQualifying_reach _).step (HostReach.setHps _ _)
  · exact (setUpWake_reach _).step (enterState_reach _ _ _ _)

theorem wake_reach (s : State) : HostReach s (wake s) :=
  (enterQualifying_reach _).step (HostReach.setHps _ _)

theorem perform_reach (o : Order) (s : State) : HostReach s (perform o s) := by
  unfold perform toOffTime
  cases o with
  | reset => exact (enterState_reach _ _ _ _).step (HostReach.setHps _ _)
  | cycle t =>
    have h : HostReach s (enterState .cycling .drain (some Config.drainMs)
        ((s.setHps { s.hps with stopRequest := none }).setHps
          { (s.setHps { s.hps with stopRequest := none }).hps with offTime := t })) :=
      (enterState_reach _ _ _ _).step ((HostReach.setHps _ _).step (HostReach.setHps _ _))
    dsimp only
    split
    · exact h
    · exact (HostReach.setHps _ _).step h
  | lockout =>
    exact (HostReach.raise _ _).step ((enterState_reach _ _ _ _).step
      ((HostReach.setHps _ _).step (HostReach.setHps _ _)))

/-- The handling of an escalated failure (R88) reaches no further. -/
theorem escalate_reach (reason : Reason) (unit : Option TrigUnit) (s : State) :
    HostReach s (escalate reason unit s) := by
  unfold escalate
  dsimp only
  split
  · exact (perform_reach _ _).step ((writeRecord_reach _ _ _ _ _ _).step
      ((HostReach.setWeu _ _ (by rfl)).step (failPending_reach s)))
  · exact (perform_reach _ _).step ((writeRecord_reach _ _ _ _ _ _).step (failPending_reach s))

theorem powerFail_reach (s : State) : HostReach s (powerFail s) :=
  (escalate_reach _ _ _).step (HostReach.raise _ _)

theorem recordInStop_reach (reason : Reason) (s : State) : HostReach s (recordInStop reason s) :=
  (writeRecord_reach _ _ _ _ _ _).step (failPending_reach s)

theorem enterBooting_reach (s : State) : HostReach s (enterBooting s) := by
  unfold enterBooting
  dsimp only
  split
  · exact enterState_reach _ _ _ _
  · exact (powerFail_reach _).step (enterState_reach _ _ _ _)

theorem beginStop_reach (cause : StopCause) (zone : Option Zone) (d : Destination) (s : State) :
    HostReach s (beginStop cause zone d s) :=
  (HostReach.notify _ _).step ((enterState_reach _ _ _ _).step (HostReach.setHps _ _))

/-- A crit excursion (R65) reaches no further. -/
theorem critExcursion_reach (z : Zone) (s : State) : HostReach s (critExcursion z s) := by
  unfold critExcursion
  split
  · exact (beginStop_reach _ _ _ _).step (HostReach.raise _ _)
  · split
    · exact HostReach.raise _ _
    · exact (beginStop_reach _ _ _ _).step (HostReach.raise _ _)
  · split
    · dsimp only
      split
      · exact (HostReach.notify _ _).step ((HostReach.setHps _ _).step
          ((HostReach.raise _ _).step (HostReach.setHps _ _)))
      · exact (HostReach.raise _ _).step (HostReach.setHps _ _)
    · exact HostReach.refl s
  all_goals first
    | exact (enterQualifying_reach _).step (HostReach.raise _ _)
    | exact HostReach.refl s

theorem resetLadder_reach (s : State) : HostReach s (resetLadder s) := HostReach.setWeu _ _ (by rfl)

theorem releaseLockout_reach (s : State) : HostReach s (releaseLockout s) :=
  (enterQualifying_reach _).step ((HostReach.setHps _ _).step (resetLadder_reach s))

theorem triggerPowerOn_reach (s : State) : HostReach s (triggerPowerOn s) := by
  unfold triggerPowerOn
  split
  · exact (enterQualifying_reach _).step (resetLadder_reach s)
  · exact releaseLockout_reach s
  · split
    · exact (wake_reach _).step (resetLadder_reach s)
    · exact HostReach.refl s
  all_goals exact HostReach.refl s

theorem triggerShutdown_reach (s : State) : HostReach s (triggerShutdown s) := by
  unfold triggerShutdown
  split
  · exact beginStop_reach _ _ _ _
  · split
    · exact beginStop_reach _ _ _ _
    · exact HostReach.refl s
  all_goals exact HostReach.refl s

theorem triggerRestart_reach (u : TrigUnit) (s : State) : HostReach s (triggerRestart u s) := by
  unfold triggerRestart
  split <;> first | exact escalate_reach _ _ _ | exact HostReach.refl s

end Sys2Proof.Machine
end

