-- ==== Sys2Proof/Tests/Slice0.lean ====
section
/-! SUPPORT. Tests of the model: the smoke test of the well-formedness checks, the manual's own worked
examples, and a witness for the hypotheses of every statement. Expected results come from the manual;
each test names its source. -/

namespace Sys2Proof.Tests

-- The checks below are elaborated one after another: checked all at once they need more threads than the memory limit allows.
set_option Elab.async false

open Sys2Proof Sys2Proof.Machine Sys2Proof.Safety

/-! ### Helpers -/

/-- A state in which the request waits and is the next to be dispatched. -/
def asked (kind tag : Byte) (payload : List Byte) (s : State) : State :=
  s.setLnk { s.lnk with held := [⟨kind, tag, payload⟩], sending := none }

theorem due_asked (kind tag : Byte) (payload : List Byte) (s : State) :
    Due (asked kind tag payload s) kind tag payload := ⟨rfl, rfl⟩

/-- The state after reset, but for the host state, its stage and the stage timer. -/
def hostIn (state : HostState) (stage : Stage) (timer : Option Nat) : State :=
  State.reset.setHps { State.reset.hps with state := state, stage := stage, stageTimer := timer }

/-- The host RUNNING or STOPPING, or BOOTING, with the watchdog in this phase and its kick timer here. -/
def kicked (state : HostState) (stage : Stage) (phase : WdPhase) (kick : Nat) : State :=
  (hostIn state stage none).setWeu { State.reset.weu with
    phase := phase, kickTimer := some kick, timeoutInForce := 200, windowInForce := 50 }

/-- One field of the state that a command leaves, where it leaves one. -/
def after {α : Type} (c : Instr) (s : State) (f : State → α) : Option α :=
  match exec c s with
  | .next t => some (f t)
  | _ => none

/-- The command is no command of its row. -/
def stops (c : Instr) (s : State) : Bool :=
  match exec c s with
  | .fault .illFormed => true
  | _ => false

/-- The fields of a settings group as the state holds them. -/
def fieldsIn (g i : Nat) : List Int := (State.reset.settings.group g i).getD []

/-! ### Terms that are no command of their row (log entry 12) -/

theorem test_badKind_of_the_catalogue_is_ill_formed :
    stops (.badKind 0x01 0 []) State.reset = true := by decide +kernel
theorem test_write_of_another_group_is_ill_formed :
    (writeRows.all fun r =>
      let other : Byte := if r.1 = 4 then 5 else 4
      stops (r.2 0 [other, 0]) State.reset) = true := by decide +kernel
theorem test_control_of_another_operation_is_ill_formed :
    stops (.triggerControlEnable 0 [0, 1]) State.reset = true ∧
    stops (.triggerControlDisable 0 [0, 2]) State.reset = true ∧
    stops (.triggerControlRearm 0 [0, 0]) State.reset = true := by decide +kernel
theorem test_round_that_forgets_a_task_is_ill_formed :
    stops (.sampleRound ⟨0, 0, 0, 0⟩ 240 (RoundTask.all.drop 1)) State.reset = true := by decide +kernel
theorem test_slot_order_with_a_heater_twice_is_ill_formed :
    stops (.slotEnd ⟨0, 0, 0⟩ [.n0, .n0, .n2]) State.reset = true := by decide +kernel
theorem test_scan_of_nineteen_pads_or_a_count_above_4095_is_ill_formed :
    stops (.keyScan (List.replicate 19 0)) State.reset = true ∧
    stops (.keyScan (4096 :: List.replicate 19 0)) State.reset = true := by decide +kernel

/-! ### The manual's worked examples -/

/-- R181: the nine bytes 0x31 to 0x39 give 0x29B1. -/
theorem test_crc_of_the_manual :
    crc16 [0x31, 0x32, 0x33, 0x34, 0x35, 0x36, 0x37, 0x38, 0x39] = 0x29B1#16 := by decide +kernel

/-- 01, worked case: rings of sums −809 and −802 give −203 and −201. -/
theorem test_ring_mean_is_floored :
    ringMean [-205, -203, -201, -200] = some (-203) ∧ ringMean [-203, -201, -200, -198] = some (-201) := by
  decide +kernel

/-- 02, worked cases 1 and 2: the grants of the three heaters and what is left unspent. -/
theorem test_allocation_of_the_worked_cases :
    let h (dem rating rank : Nat) : HeaterRec :=
      { HeaterRec.initial Settings.factory.heater.v0 with dem := dem, rating := rating, rank := rank }
    let grants (e : Nat) (hs : PerThree HeaterRec) :=
      ((allocate e hs).1.list.map (·.g), (allocate e hs).2)
    grants 1920 ⟨h 32 40 1, h 32 25 2, h 32 15 2⟩ = ([32, 16, 16], 0) ∧
    grants 1120 ⟨h 20 40 1, h 12 25 2, h 32 15 2⟩ = ([20, 4, 13], 25) ∧
    grants 1120 ⟨h 32 40 1, h 8 25 2, h 0 15 2⟩ = ([28, 0, 0], 0) := by decide +kernel

/-- 02, worked cases: 390 × 24 / 64, 54 × 24 / 64 and 25 × 32 / 64. -/
theorem test_demand_of_the_worked_cases :
    demandFor 24 390 = 32 ∧ demandFor 24 54 = 20 ∧ demandFor 32 25 = 12 := by decide +kernel

/-- 02, worked case 1: H1 in slots 11–26, H2 in slots 0–5 and 22–31. -/
theorem test_placement_of_the_worked_case :
    (List.range 32).filter (onInSlot .n1 16) = (List.range 16).map (· + 11) ∧
    (List.range 32).filter (onInSlot .n2 16) = List.range 6 ++ (List.range 10).map (· + 22) := by
  decide +kernel

/-- 03, duty table: 340, 360, 420, 510, 340 and 329 tenths in turn. -/
theorem test_fan_duty_table :
    let run (was : Bool) (t : Int) : Bool × Nat :=
      let r := nextRunning Settings.factory.fan was (some t)
      (r, if r then computedDuty Settings.factory.fan t else 0)
    run false 340 = (false, 0) ∧ run false 360 = (true, 34) ∧ run true 420 = (true, 62) ∧
    run true 510 = (true, 100) ∧ run true 340 = (true, 30) ∧ run true 329 = (false, 0) := by
  decide +kernel

/-- 04, worked case: the leads of Z0 to Z2 at entry, and Z2's after the night has grown colder. -/
theorem test_leads_of_the_worked_case :
    let lead (z : Zone) (x : Int) : Nat :=
      zoneLead (Settings.factory.zone.get z) 1800 { ZoneRec.initial with filtered := some x }
    lead .n0 (-310) = 2040 ∧ lead .n1 (-320) = 3180 ∧ lead .n2 (-300) = 3900 ∧
    lead .n2 (-330) = 4440 ∧
    (let at_ (z : Zone) (x : Int) : ZoneRec :=
       { State.reset.zmon.zones.get z with filtered := some x }
     leadOf (State.reset.setZmon { State.reset.zmon with
       zones := ⟨at_ .n0 (-310), at_ .n1 (-320), at_ .n2 (-300), at_ .n3 (-300)⟩ }) = 3900) := by
  decide +kernel

/-- 07: a baseline of 2040 with a raw count of 2000 becomes 2038, one of 2400 with 2405 becomes 2401. -/
theorem test_baseline_drift :
    driftBaseline 2040 2000 = 2038 ∧ driftBaseline 2400 2405 = 2401 := by decide +kernel

/-- 09: class 4, index mask 254 and the window −550..−300; and the wrapped window of class 9. -/
theorem test_matches_of_the_manual :
    let unit (cls : Nat) (mask : Byte) (lo hi : Int) : TriggerSettings :=
      { Settings.factory.trigger.v2 with
        cls := cls, indexValue := 0, indexMask := mask, argLo := lo, argHi := hi }
    unitMatches (unit 4 254 (-550) (-300)) ⟨.zoneLow, 1, -300⟩ = true ∧
    unitMatches (unit 4 254 (-550) (-300)) ⟨.zoneLow, 2, -300⟩ = false ∧
    unitMatches (unit 4 254 (-550) (-300)) ⟨.zoneLow, 0, -299⟩ = false ∧
    unitMatches (unit 9 0 0xF000 0x00FF) ⟨.checkpoint, 0, 0x00FF⟩ = true ∧
    unitMatches (unit 9 0 0xF000 0x00FF) ⟨.checkpoint, 0, 0xF000⟩ = true ∧
    unitMatches (unit 9 0 0xF000 0x00FF) ⟨.checkpoint, 0, 0x0100⟩ = false := by decide +kernel

/-- 08, R140: a PRESS needs two entries more than the open keys owe; with 0 free and none open it does
not fit. -/
theorem test_press_needs_its_reserve :
    let full (n : Nat) : Keq := ⟨List.replicate n ⟨0, .press, 0⟩, [], 0, .running⟩
    (offerOpen ⟨1, .press, 0⟩ (full 32)).1.queue.length = 32 ∧
    (offerOpen ⟨1, .press, 0⟩ (full 31)).1.queue.length = 31 ∧
    (offerOpen ⟨1, .press, 0⟩ (full 30)).1.queue.length = 31 := by decide +kernel

/-! ### Page lengths and reset -/

/-- 11, section on status pages: the lengths of the pages after page and part. -/
theorem test_page_lengths :
    (statusPage 0 0 State.reset).map List.length = some 43 ∧
    (statusPage 1 0 State.reset).map List.length = some 60 ∧
    (statusPage 2 0 State.reset).map List.length = some 41 ∧
    (statusPage 2 1 State.reset).map List.length = some 39 ∧
    (statusPage 2 6 State.reset).map List.length = some 30 := by decide +kernel

/-- R199: power-on with nothing stored gives the state after reset, whatever went before. -/
theorem test_power_on_of_a_blank_part :
    after .powerOnReset (hostIn .running .noStage none) id = some State.reset := by decide +kernel

/-- R180, R185, R194: a PING frame is taken off the line, answered, and its reply sent. -/
theorem test_ping_from_line_to_line :
    let bytes := (frame [0x01, 0x55]).map (⟨·, true⟩)
    let s := State.reset.setPending [.frameReceived bytes, .ping 0x55 [], .replySent]
    (match step s with
     | .next s1 => match step s1 with
       | .next s2 => match step s2 with
         | .next s3 => s3.lastSent
         | _ => []
       | _ => []
     | _ => []) =
      frame [0x81, 0x55, 0x00, 0x0C, 0x3A, 0x02, 0x16, 0x01, 0, 0, 0, 0, 0] := by decide +kernel

/-! ### Witnesses: the hypotheses of each statement hold together -/

theorem test_StepRunsFrontCommand_hyp :
    (State.reset.setPending [.eventTake]).pending = .eventTake :: [] := rfl

theorem test_EmptyQueueIsOneMillisecond_hyp :
    State.reset.pending = [] ∧
    (match step (State.reset.setHps { State.reset.hps with qualMs := 999 }) with
     | .next t => (t.hps.qualClock, t.hps.qualMs)
     | _ => (9, 9)) = (1, 0) ∧
    (match step ((hostIn .lockedOut .noStage none).setHps { (hostIn .lockedOut .noStage none).hps with
       retryTimer := some 60, retryMs := 998 }) with
     | .next t => (t.hps.retryTimer, t.hps.retryMs)
     | _ => (none, 9)) = (some 60, 999) ∧
    (match step ((hostIn .suspended .noStage none).setHps { (hostIn .suspended .noStage none).hps with
       wakeAt := some 100, leadTimer := 60, leadMs := 999 }) with
     | .next t => (t.hps.leadTimer, t.hps.leadMs)
     | _ => (9, 9)) = (59, 0) := by decide +kernel

theorem test_WellFormedCommandsComplete_hyp :
    (Instr.ping 0 []).wf = true ∧ (Instr.badKind 0x01 0 []).wf = false := by decide +kernel

theorem test_CommandsWaitForTheirCause_hyp :
    (Instr.ping 7 []).wf = true ∧ requestOf (.ping 7 []) = some ⟨0x01, 7, []⟩ ∧
    ¬ Due State.reset 0x01 7 [] ∧
    State.reset.stageOver .powering .waitGood = false ∧
    (State.reset.cnu.svcTimer == some 0) = false ∧ State.reset.pst.storing.isSome = false ∧
    (!(State.reset.setHold true).hold && State.reset.hsch.boundaryDue) = false ∧
    State.reset.hsch.boundaryDue = true ∧ heaters.isPerm heaters = true :=
  ⟨by decide, rfl, (fun h => nomatch h.2), by decide, by decide, by decide, by decide, rfl, by decide⟩

theorem test_MalformedRequestsChangeNothing_hyp :
    ((Instr.ping 7 [0]).wf = true ∧ requestOf (.ping 7 [0]) = some ⟨0x01, 7, [0]⟩ ∧
      Config.catalogue.contains 0x01 = true ∧
      Due (asked 0x01 7 [0] State.reset) 0x01 7 [0] ∧ [(0 : Byte)].length ∉ allowedLengths 0x01) ∧
    (Config.catalogue.contains 0x7F = false ∧ Due (asked 0x7F 7 [] State.reset) 0x7F 7 []) ∧
    Config.catalogue.contains 0x80 = false ∧
    (writesGroup 1 [1, 4] = true ∧ State.reset.settings.group 1 4 = none ∧
      Due (asked 0x20 7 [1, 4] State.reset) 0x20 7 [1, 4]) ∧
    (State.reset.settings.group 13 0 = some [115200] ∧ taken 13 [9601] = false ∧
      Due (asked 0x20 7 (13 :: 0 :: i32 9601) State.reset) 0x20 7 (13 :: 0 :: i32 9601)) ∧
    ((13, Instr.writeLink) ∈ writeRows ∧ (1, Instr.writeZone) ∈ writeRows) :=
  ⟨⟨by decide, rfl, by decide, due_asked .., by decide⟩, ⟨by decide, due_asked ..⟩, by decide,
   ⟨by decide, by decide +kernel, due_asked ..⟩, ⟨by decide +kernel, by decide, due_asked ..⟩,
   by simp [writeRows]⟩

theorem test_SupervisorReset_hyp :
    State.reset.hold = false ∧ (State.reset.setHold true).hold = true ∧
    Due (asked 0x3F 7 [] State.reset) 0x3F 7 [] ∧
    after (.supervisorReset 7 [] true) (asked 0x3F 7 [] State.reset) (fun t =>
      (t.hold, t.lnk.lastReset)) = some (true, .powerOn) := ⟨rfl, rfl, due_asked .., by decide +kernel⟩

theorem test_FramesAreReceivedWhole_hyp :
    (List.replicate 62 (0 : Byte)).length ≤ 62 ∧ State.reset.hold = false ∧
    State.reset.lnk.inBreak = false ∧ State.reset.lnk.rx = .hunting := by decide +kernel

theorem test_ReceiverErrorsAndLinkReset_hyp :
    let s := State.reset.setLnk { State.reset.lnk with rx := .lenExpected }
    ((List.replicate 64 (0 : Byte)).length ≤ 64 ∧ 2 ≤ [(1 : Byte), 0].length ∧
      [(0 : Byte), 0] ≠ bytes16 (check [1, 0])) ∧
    ((1 : Byte).toNat < 2 ∧ 64 < (65 : Byte).toNat ∧ 64 < (0xA6 : Byte).toNat) ∧
    (s.hold = false ∧ s.lnk.inBreak = false ∧ s.lnk.rx ≠ .hunting) ∧
    State.reset.lnk.rx = .hunting ∧ State.reset.lnk.inBreak = false ∧
    (State.reset.setLnk { State.reset.lnk with inBreak := true }).lnk.inBreak = true := by decide +kernel

theorem test_ReplySentFreesTheSlot_hyp :
    let sending (a : AfterReply) := State.reset.setLnk { State.reset.lnk with sending := some ⟨[0x81], a⟩ }
    State.reset.lnk.sending = none ∧
    (sending .nothing).lnk.sending = some ⟨[0x81], .nothing⟩ ∧
    (sending .applyRate).lnk.sending = some ⟨[0x81], .applyRate⟩ ∧
    (let s := (hostIn .running .stopDelay (some 0)).setLnk { State.reset.lnk with
       sending := some ⟨[0x95], .endStop⟩ }
     s.lnk.sending = some ⟨[0x95], .endStop⟩ ∧ s.hps.stage = .stopDelay ∧
       s.hps.stageTimer = some 0) := by decide +kernel

theorem test_ReadRequestsAnswered_hyp :
    Due (asked 0x01 7 [] State.reset) 0x01 7 [] ∧ Due (asked 0x02 7 [2, 6] State.reset) 0x02 7 [2, 6] ∧
    Due (asked 0x03 7 [] State.reset) 0x03 7 [] ∧ Due (asked 0x12 7 [1] State.reset) 0x12 7 [1] ∧
    Due (asked 0x14 7 [7, 2] State.reset) 0x14 7 [7, 2] ∧
    Due (asked 0x21 7 [13, 0] State.reset) 0x21 7 [13, 0] :=
  ⟨due_asked .., due_asked .., due_asked .., due_asked .., due_asked .., due_asked ..⟩

theorem test_NoticesAndKeys_hyp :
    Due (asked 0x04 7 [0xFF, 0xFF, 0xFF, 0xFF] State.reset) 0x04 7 [0xFF, 0xFF, 0xFF, 0xFF] ∧
    Due (asked 0x05 7 [] State.reset) 0x05 7 [] ∧ Due (asked 0x06 7 [] State.reset) 0x06 7 [] :=
  ⟨due_asked .., due_asked .., due_asked ..⟩

theorem test_notices_of_reset_are_ok : NoticesOk State.reset.cnu.notices :=
  ⟨by decide, by decide, fun c => Nat.zero_le 1⟩

theorem test_slots_inbox_keys_of_reset_are_ok :
    KeqOk State.reset.keq ∧ InboxBounded State.reset ∧ SlotsOk State.reset.lnk :=
  ⟨⟨by decide, by decide, List.nodup_nil⟩, (by decide : State.reset.tmx.inbox.length ≤ 16), Nat.zero_le 2⟩

theorem test_HostSeenOk_of_reset : HostSeenOk State.reset :=
  ⟨rfl, rfl, rfl, (fun _ _ => ⟨rfl, rfl, rfl⟩), (fun _ => ⟨rfl, rfl⟩)⟩

/-! The watchdog's statements. -/

theorem test_KickMovesBootingToRunning_hyp :
    let s := asked 0x10 7 [0x12, 0x34] (kicked .booting .noStage .boot 0)
    Due s 0x10 7 [0x12, 0x34] ∧ kickCode? [0x12, 0x34] = some (some 0x1234) ∧
    kickCode? [] = some none ∧ s.hps.state = .booting ∧ s.tmx.inbox.length + 2 ≤ 16 ∧ s.hold = false ∧
    (s.setCnu { s.cnu with seen := .booting }).cnu.seen = .booting :=
  ⟨due_asked .., by decide +kernel, rfl, rfl, by decide, rfl, rfl⟩

theorem test_KickByStateAndWindow_hyp :
    (let s := asked 0x10 7 [] (kicked .running .noStage .windowed 50)
     Due s 0x10 7 [] ∧ kickCode? [] = some none ∧ s.hps.state = .running ∧ s.weu.phase = .windowed ∧
       s.weu.kickTimer = some 50 ∧ s.weu.windowInForce ≤ 50) ∧
    (let s := asked 0x10 7 [] (kicked .running .noStage .off 0)
     Due s 0x10 7 [] ∧ s.weu.phase = .off) ∧
    (let s := asked 0x10 7 [] (kicked .stopping .grace .windowed 49)
     Due s 0x10 7 [] ∧ s.hps.state = .stopping ∧ s.weu.phase = .windowed ∧
       s.weu.kickTimer = some 49 ∧ 49 < s.weu.windowInForce) ∧
    (let s := asked 0x10 7 [] State.reset
     Due s 0x10 7 [] ∧ s.hps.state ≠ .booting ∧ s.hps.state ≠ .running ∧ s.hps.state ≠ .stopping) :=
  ⟨⟨due_asked .., rfl, rfl, rfl, rfl, by decide⟩, ⟨due_asked .., rfl⟩,
   ⟨due_asked .., rfl, rfl, rfl, by decide⟩, ⟨due_asked .., by decide, by decide, by decide⟩⟩

theorem test_EarlyKickEscalates_hyp :
    let s := asked 0x10 7 [] ((kicked .running .noStage .windowed 49).setSettings
      { Settings.factory with watchdog := { Settings.factory.watchdog with earlyPolicy := .restart } })
    Due s 0x10 7 [] ∧ kickCode? [] = some none ∧ s.hps.state = .running ∧ s.weu.phase = .windowed ∧
    s.weu.kickTimer = some 49 ∧ 49 < s.weu.windowInForce ∧
    s.settings.watchdog.earlyPolicy = .restart :=
  ⟨due_asked .., rfl, rfl, rfl, rfl, by decide, rfl⟩

theorem test_CheckpointIsTaken_hyp :
    let s (st : HostState) (frozen : Bool) (ring : List TraceEntry) :=
      asked 0x11 7 [0, 5] (State.reset.setCpt ⟨ring, frozen, none, 0, st⟩)
    (Due (s .running false []) 0x11 7 [0, 5] ∧
      Due (asked 0x11 7 [0] State.reset) 0x11 7 [0] ∧ [(0 : Byte)].length ≠ 2) ∧
    (s .off false []).cpt.seen.listening = false ∧
    ((s .running true []).cpt.seen.listening = true ∧ (s .running true []).cpt.frozen = true) ∧
    ((s .running false [⟨5, 0, 255⟩]).cpt.frozen = false ∧
      (s .running false [⟨5, 0, 255⟩]).cpt.ring.getLast? = some ⟨5, 0, 255⟩) ∧
    ((s .running false []).cpt.ring.getLast? = none ∧
      (s .running false (List.replicate 16 ⟨4, 0, 1⟩)).cpt.ring.getLast? = some ⟨4, 0, 1⟩) :=
  ⟨⟨due_asked .., due_asked .., by decide⟩, by decide +kernel, by decide +kernel, by decide +kernel,
   by decide +kernel⟩

theorem test_ThawTrace_hyp : Due (asked 0x13 7 [] State.reset) 0x13 7 [] := due_asked ..

theorem test_RestartBookInvariant_hyp :
    (RingOk State.reset.cpt.ring ∧ (∀ r ∈ State.reset.weu.records, RingOk r.trace)) ∧
    RecordsOk State.reset.weu.records ∧
    (State.reset.setCpt { State.reset.cpt with frozen := true }).cpt.frozen = true :=
  ⟨⟨⟨by decide, List.isChain_nil⟩, fun _ h => nomatch h⟩, ⟨by decide, fun _ h => nomatch h⟩, rfl⟩

theorem test_RequestRestart_hyp :
    Due (asked 0x16 7 [] State.reset) 0x16 7 [] ∧
    (asked 0x16 7 [] State.reset).hps.state ≠ .running ∧
    (asked 0x16 7 [] (hostIn .running .noStage none)).hps.state = .running :=
  ⟨due_asked .., by decide, rfl⟩

theorem test_WatchdogExpiry_hyp :
    (let s := kicked .running .noStage .windowed 200
     s.hps.state = .running ∧ s.weu.phase = .windowed ∧ s.weu.kickTimer = some 200 ∧
       s.weu.timeoutInForce ≤ 200) ∧
    (let s := (hostIn .booting .noStage none).setWeu { State.reset.weu with
       phase := .boot, bootTimer := some 1000, bootLimit := 1000 }
     s.hps.state = .booting ∧ s.weu.phase = .boot ∧ s.weu.bootTimer = some 1000 ∧
       s.weu.bootLimit ≤ 1000) ∧
    (let s := kicked .stopping .grace .windowed 200
     s.hps.state = .stopping ∧ s.weu.phase = .windowed ∧ s.weu.kickTimer = some 200 ∧
       s.weu.timeoutInForce ≤ 200) := by decide +kernel

theorem test_PositionOk_of_reset : PositionOk State.reset :=
  ⟨⟨by decide, by decide, by intro i; cases i <;> decide⟩, (fun _ h => nomatch h),
   (fun _ h => nomatch h), by decide, by decide⟩

/-! Host power. -/

theorem test_PinTransitions_hyp :
    let s := (hostIn .powering .pending none).setHps { (hostIn .powering .pending none).hps with
      pendingOn := true }
    let t := hostIn .cycling .drain (some 5)
    (s.hostPwrEn = false ∧
      after (.climateBoundary true) s State.hostPwrEn = some true) ∧
    ((t.setHps { t.hps with state := .running, stage := .noStage }).hostRstN = false ∧
      t.hostRstN = true) ∧
    (State.reset.latched .profileDefaulted = true ∧
      after (.ackConditions 7 [0xFF, 0xFF, 0xFF, 0xFF])
        (asked 0x04 7 [0xFF, 0xFF, 0xFF, 0xFF] State.reset) (·.latched .profileDefaulted) = some false) := by
  decide +kernel

theorem test_LiveCausesOk_of_reset : LiveCausesOk State.reset := by
  have none_live : ∀ c : Cond, State.reset.live c = false := fun c => by
    show (0#32).getLsbD c.id = false; simp
  refine ⟨fun z => ?_, none_live _, none_live _, none_live _, none_live _, none_live _, ?_, none_live _,
    fun c _ => none_live c, fun c h => ?_⟩
  · cases z <;> exact none_live _
  · rw [none_live]; decide +kernel
  · rw [none_live c] at h; exact nomatch h

theorem test_PowerOnPendingOk_of_reset : PowerOnPendingOk State.reset := rfl

/-- R54 to R56: zones in their windows long enough let the host on; at reset they do not. -/
theorem test_SampleRoundAdmits_hyp :
    let zone : ZoneRec := { ZoneRec.initial with filtered := some 300, ring := [300], inWindow := 300 }
    let s := State.reset.setZmon { State.reset.zmon with zones := ⟨zone, zone, zone, zone⟩ }
    let round : Instr := .sampleRound ⟨300, 300, 300, 300⟩ 240 RoundTask.all
    RoundTask.all.isPerm RoundTask.all = true ∧ s.hold = false ∧ s.hps.state = .qualifying ∧
    after round s (·.hps.state) = some .powering ∧
    after round State.reset (·.hps.state) = some .qualifying := by decide +kernel

theorem test_BoundaryPowersTheHost_hyp :
    let s := (hostIn .powering .pending none).setHps { (hostIn .powering .pending none).hps with
      pendingOn := true }
    s.hold = false ∧ s.hsch.boundaryDue = true ∧ s.hps.state = .powering ∧ s.hps.stage = .pending ∧
    s.hps.pendingOn = true ∧ s.live .supplyLow = false ∧
    (raise .supplyLow (s.setCnu { s.cnu with live := Cond.bit .supplyLow })).live .supplyLow = true := by
  decide +kernel

theorem test_PowerSequence_hyp :
    (let s := (hostIn .powering .resetHold (some 0)).setPowerGood true
     s.powerGood = true ∧ s.hps.stageTimer = some 0 ∧ s.hps.state = .powering ∧
       s.hps.stage = .resetHold) ∧
    (let s := (hostIn .resetting .noStage (some 0)).setPowerGood true
     s.powerGood = true ∧ s.hps.stageTimer = some 0 ∧ s.hps.state = .resetting) := by decide +kernel

theorem test_PowerFailCycles_hyp :
    ((hostIn .powering .waitGood (some 0)).hps.stage = .waitGood ∧
      (hostIn .powering .waitGood (some 0)).hps.stageTimer = some 0) ∧
    (hostIn .booting .noStage none).hps.state = .booting ∧
    ((hostIn .resetting .noStage (some 0)).powerGood = false ∧
      (hostIn .resetting .noStage (some 0)).hps.stageTimer = some 0) := by decide +kernel

theorem test_TimedReturns_hyp :
    (hostIn .cycling .drain (some 0)).hps.stageTimer = some 0 ∧
    ((hostIn .cycling .offTime (some 0)).hps.stage = .offTime ∧
      (hostIn .cycling .offTime (some 0)).live .warmTimeout = false) ∧
    (let h := (hostIn .lockedOut .noStage none).hps
     ((hostIn .lockedOut .noStage none).setHps { h with retryTimer := some 0 }).hps.retryTimer = some 0) ∧
    (let s := (hostIn .suspended .noStage none).setHps { (hostIn .suspended .noStage none).hps with
       wakeAt := some 0 }
     s.hps.state = .suspended ∧ s.hps.wakeAt = some 0 ∧ secondsTo 0 s.time.sec = 0 ∧
       s.live .warmTimeout = false) := by decide +kernel

theorem test_StopsEnd_hyp :
    ((hostIn .stopping .grace (some 0)).hps.stage = .grace ∧
      (hostIn .stopping .grace (some 0)).live .warmTimeout = false) ∧
    (let s := hostIn .running .stopDelay (some 0)
     s.hps.state = .running ∧ s.hps.stage = .stopDelay ∧ s.hps.stageTimer = some 0 ∧
       s.lnk.sending = none) := by decide +kernel

theorem test_RequestStop_hyp :
    let p : List Byte := [1, 0, 0x09, 0x3A, 0x81, 1]
    Due (asked 0x15 7 p (hostIn .running .noStage none)) 0x15 7 p ∧
    (word32 0 0x09 0x3A 0x81).toNat = 604801 := ⟨due_asked .., by decide +kernel⟩

theorem test_WarmTimeoutPreheatAndStableTime_hyp :
    (let s := State.reset.setHps { State.reset.hps with
       qualClock := State.reset.settings.hostPower.warmLimit * 60 }
     s.hps.state = .qualifying ∧ s.hps.warmTimeout = false ∧ s.hps.qualMs = 0 ∧
       s.settings.hostPower.warmLimit * 60 ≤ s.hps.qualClock) ∧
    (let s := (hostIn .suspended .noStage none).setHps { (hostIn .suspended .noStage none).hps with
       wakeAt := some 60, lead := 60 }
     s.hps.state = .suspended ∧ s.hps.wakeAt = some 60 ∧ s.hps.leadTimer = 0 ∧ s.hps.preheat = false ∧ s.hps.leadMs = 0 ∧
       secondsTo 60 s.time.sec ≤ s.hps.lead) ∧
    (let s := State.reset.setWeu { State.reset.weu with
       stable := .counting State.reset.settings.watchdog.stableTime 0 }
     s.settings.watchdog.stableTime ≤ 600 ∧
       s.weu.stable = .counting s.settings.watchdog.stableTime 0) := by decide +kernel

/-! Settings and the profile. The factory settings of a group, written back, are in range (R188). -/

/-- The payload of a write of a group's own fields as they stand. -/
def rewrite (g : Nat) (i : Byte) : List Byte :=
  BitVec.ofNat 8 g :: i :: (fieldsIn g i.toNat).flatMap i32

theorem test_ClimateSettingsAreTaken_hyp :
    (zoneOf (fieldsIn 1 3)).isSome = true ∧ (heaterOf (fieldsIn 2 2)).isSome = true ∧
    (budgetOf (fieldsIn 3 0)).isSome = true ∧ (fanOf (fieldsIn 4 0)).isSome = true ∧
    (∀ g < 5, ∀ x ∈ fieldsIn g 0, -2147483648 ≤ x ∧ x ≤ 2147483647) ∧
    Due (asked 0x20 7 (rewrite 1 3) State.reset) 0x20 7 (1 :: BitVec.ofNat 8 (Four.n3).num ::
      (fieldsIn 1 3).flatMap i32) ∧
    Due (asked 0x20 7 (rewrite 2 2) State.reset) 0x20 7 (rewrite 2 2) ∧
    Due (asked 0x20 7 (rewrite 3 0) State.reset) 0x20 7 (3 :: 0 :: (fieldsIn 3 0).flatMap i32) ∧
    Due (asked 0x20 7 (rewrite 4 0) State.reset) 0x20 7 (4 :: 0 :: (fieldsIn 4 0).flatMap i32) :=
  ⟨by decide +kernel, by decide +kernel, by decide +kernel, by decide +kernel, by decide +kernel,
   due_asked .., due_asked .., due_asked .., due_asked ..⟩

theorem test_PolicySettingsAndLock_hyp :
    let locked := State.reset.setWeu { State.reset.weu with policyLock := true }
    (watchdogOf (fieldsIn 5 0)).isSome = true ∧ (ladderOf (fieldsIn 6 0)).isSome = true ∧
    (hostPowerOf (fieldsIn 7 0)).isSome = true ∧
    (∀ g < 8, ∀ x ∈ fieldsIn g 0, -2147483648 ≤ x ∧ x ≤ 2147483647) ∧
    State.reset.weu.policyLock = false ∧
    Due (asked 0x20 7 (rewrite 5 0) State.reset) 0x20 7 (5 :: 0 :: (fieldsIn 5 0).flatMap i32) ∧
    Due (asked 0x20 7 (rewrite 6 0) State.reset) 0x20 7 (6 :: 0 :: (fieldsIn 6 0).flatMap i32) ∧
    Due (asked 0x20 7 (rewrite 7 0) State.reset) 0x20 7 (7 :: 0 :: (fieldsIn 7 0).flatMap i32) ∧
    Due (asked 0x17 7 [] State.reset) 0x17 7 [] ∧
    (locked.weu.policyLock = true ∧ (List.replicate 28 (0 : Byte)).length = 4 * 7 ∧
      Due (asked 0x20 7 (5 :: 0 :: List.replicate 28 0) locked) 0x20 7
        (BitVec.ofNat 8 5 :: 0 :: List.replicate 28 0)) :=
  ⟨by decide +kernel, by decide +kernel, by decide +kernel, by decide +kernel, rfl,
   due_asked .., due_asked .., due_asked .., due_asked .., rfl, rfl, due_asked ..⟩

theorem test_PadTriggerAndLinkSettings_hyp :
    (keypadOf (fieldsIn 8 0)).isSome = true ∧ (keyOf (fieldsIn 9 19)).isSome = true ∧
    (chordOf (fieldsIn 10 5)).isSome = true ∧ (triggerOf (fieldsIn 11 5)).isSome = true ∧
    (∀ g < 14, ∀ x ∈ fieldsIn g 0, -2147483648 ≤ x ∧ x ≤ 2147483647) ∧
    State.reset.ksu.keys.length = 20 ∧ State.reset.settings.keyRepeat.length = 20 ∧
    (∀ k < 20, State.reset.settings.keypad.keysFitted ≤ k →
      (State.reset.ksu.key k).state.held = false ∧ (State.reset.ksu.key k).state ≠ .quarantined) ∧
    Due (asked 0x20 7 (rewrite 8 0) State.reset) 0x20 7 (8 :: 0 :: (fieldsIn 8 0).flatMap i32) ∧
    Due (asked 0x20 7 (rewrite 9 19) State.reset) 0x20 7 (9 :: 19 :: (fieldsIn 9 19).flatMap i32) ∧
    Due (asked 0x20 7 (rewrite 10 5) State.reset) 0x20 7 (rewrite 10 5) ∧
    Due (asked 0x20 7 (rewrite 11 5) State.reset) 0x20 7 (rewrite 11 5) ∧
    Due (asked 0x20 7 (12 :: 0 :: i32 (-1)) State.reset) 0x20 7 (12 :: 0 :: i32 (-1)) ∧
    Due (asked 0x20 7 (13 :: 0 :: i32 115200) State.reset) 0x20 7 (13 :: 0 :: i32 115200) :=
  ⟨by decide +kernel, by decide +kernel, by decide +kernel, by decide +kernel, by decide +kernel,
   by decide +kernel, by decide +kernel, by decide +kernel, due_asked .., due_asked .., due_asked ..,
   due_asked .., due_asked .., due_asked ..⟩

theorem test_EffectiveSettingsReadBack_hyp :
    (reportOf [-1]).isSome = true ∧ (linkOf [9600]).isSome = true ∧
    (chordOf (fieldsIn 10 0)).isSome = true ∧ (keyOf [1]).isSome = true ∧
    (zoneOf (fieldsIn 1 0)).isSome = true ∧ (triggerOf (fieldsIn 11 0)).isSome = true := by decide +kernel

theorem test_factory_settings_are_ok : SettingsOk Settings.factory := by
  refine ⟨fun z => ?_, fun h => ?_, ?_, ?_, ?_, by decide +kernel, fun i => ?_, fun u => ?_,
    fun u => by cases u <;> decide +kernel, by decide +kernel⟩
  · cases z <;> constructor <;> (try unfold TempOk) <;> decide +kernel
  · cases h <;> constructor <;> decide +kernel
  · constructor <;> (try unfold TempOk) <;> decide +kernel
  · constructor <;> first | decide +kernel | (intro i; cases i <;> decide +kernel)
  · constructor <;> decide +kernel
  · cases i <;> constructor <;> decide +kernel
  · cases u <;> constructor <;> decide +kernel

theorem test_AllSettingsOk_of_reset : AllSettingsOk State.reset :=
  ⟨test_factory_settings_are_ok, (fun _ h => nomatch h), (fun _ h => nomatch h)⟩

theorem test_ProfileStore_hyp :
    let s := State.reset.setPst { State.reset.pst with storing := some ⟨Settings.factory, 0⟩ }
    Due (asked 0x22 7 [] State.reset) 0x22 7 [] ∧ s.pst.storing = some ⟨Settings.factory, 0⟩ ∧
    (let t (latched : Word32) := s.setCnu { s.cnu with latched := latched, seen := .running }
     (t 0).hold = false ∧ (t 0).cnu.seen.listening = true ∧ (t 0).enabled .storeFailed = true ∧
     (t 0).latched .storeFailed = false ∧ (t (Cond.bit .storeFailed)).latched .storeFailed = true) :=
  ⟨due_asked .., rfl, by decide +kernel⟩

theorem word_succ_ne (x : Word16) : x + 1 ≠ x := by bv_omega

theorem test_ProfileReload_hyp :
    let image : Image := ⟨Settings.factory, imageCheck Settings.factory⟩
    let stored := State.reset.setPst ⟨some image, none, none⟩
    let spoilt := State.reset.setPst ⟨some ⟨Settings.factory, imageCheck Settings.factory + 1⟩, none, none⟩
    let busy := State.reset.setPst ⟨none, none, some ⟨Settings.factory, 300⟩⟩
    Due (asked 0x23 7 [] stored) 0x23 7 [] ∧ Due (asked 0x24 7 [] stored) 0x24 7 [] ∧
    (stored.pst.storing = none ∧ stored.pst.image = some image ∧
      stored.pst.content? = some Settings.factory) ∧
    (∀ i, spoilt.pst.image = some i → i.check ≠ imageCheck i.content) ∧
    (State.reset.pst.storing = none ∧ ∀ i, State.reset.pst.image = some i →
      i.check ≠ imageCheck i.content) ∧
    busy.pst.storing.isSome = true ∧ Settings.factory.keyRepeat.length = 20 ∧
    State.reset.settings.keyRepeat.length = 20 ∧ State.reset.ksu.keys.length = 20 :=
  ⟨due_asked .., due_asked .., ⟨rfl, rfl, content_of_stored ..⟩,
   (fun i h => by cases h; exact word_succ_ne _),
   ⟨rfl, fun _ h => nomatch h⟩, rfl, by decide, by decide, by decide⟩

/-! Climate. -/

theorem test_SampleRound_hyp :
    RoundTask.all.isPerm RoundTask.all = true ∧ State.reset.hold = false ∧
    (let z := { ZoneRec.initial with
       filtered := some 1000, ring := [1000, 1000, 1000, 1000], critTimer := 9 }
     let round : Instr := .sampleRound ⟨300, 1000, 300, 300⟩ 240 RoundTask.all
     let s (state : HostState) (stage : Stage) (cause : StopCause) :=
       ((hostIn state stage (some 7)).setZmon { State.reset.zmon with
         zones := State.reset.zmon.zones.set .n1 z }).setHps { (hostIn state stage (some 7)).hps with
           stopCause := cause }
     ((s .running .noStage .none).zmon.zones.get .n1).critTimer < 10 ∧
       after round (s .running .noStage .none) (fun t =>
         ((t.zmon.zones.get .n1).critTimer, t.hps.state)) = some (10, .stopping) ∧
       after round (s .running .stopDelay .none) (·.hps.state) = some .running ∧
       after round (s .stopping .grace .trigger) (·.hps.stageTimer) = some (some 60000) ∧
       after round (s .stopping .grace .thermal) (·.hps.stageTimer) = some (some 7) ∧
       after round (s .resetting .noStage .none) (·.hps.state) = some .qualifying) := by decide +kernel

theorem test_ClimateBoundary_hyp :
    State.reset.hold = false ∧ State.reset.hsch.boundaryDue = true ∧
    State.reset.hps.pendingOn = (State.reset.hps.state == .powering && State.reset.hps.stage == .pending) := by
  decide +kernel

theorem test_SlotEnd_hyp :
    let s (slot : Nat) := State.reset.setHsch { State.reset.hsch with slot := slot, boundaryDue := false }
    heaters.isPerm heaters = true ∧ [Three.n2, Three.n0, Three.n1].isPerm heaters = true ∧
    (s 31).hold = false ∧ (s 31).hsch.boundaryDue = false ∧
    after (.slotEnd ⟨0, 0, 0⟩ heaters) (s 30) (fun t => (t.hsch.slot, t.hsch.boundaryDue)) =
      some (31, false) ∧
    after (.slotEnd ⟨0, 0, 0⟩ heaters) (s 31) (fun t => (t.hsch.slot, t.hsch.boundaryDue)) =
      some (31, true) := by decide +kernel

theorem test_FanMeasurement_hyp :
    let a := State.reset.afm
    let s := State.reset.setAfm { a with duty := 100, fullRun := 29, reference := some 1000 }
    s.hold = false ∧ s.afm.learn = .idle ∧
    after (.fanMeasurement 60 true) s (fun t => (t.afm.clogged, t.afm.fullRun)) = some (true, 30) ∧
    after (.fanMeasurement 60 false)
      (State.reset.setAfm { a with duty := 100, learn := .measuring, readings := 29, sum := 29 * 1800 })
      (fun t => (t.afm.reference, t.latched .storeFailed)) = some (some 1800, true) := by decide +kernel

/-! Keypad and triggers. -/

/-- A pad with the keys that the factory settings fit as given, the others as after reset. -/
def pad (f : Nat → KeyRec) : Ksu :=
  { State.reset.ksu with keys := (List.range 12).map f ++ List.replicate 8 KeyRec.initial }

theorem pad_unfitted (f : Nat → KeyRec) (k : Nat) (h : 12 ≤ k) : (pad f).key k = KeyRec.initial := by
  simp only [pad, Ksu.key, List.getD_eq_getElem?_getD]
  rw [List.getElem?_append_right (by simpa using h), List.getElem?_replicate]
  split <;> rfl

theorem padOk_of_pad (f : Nat → KeyRec) (s : State) (hs : s.settings.keypad.keysFitted = 12)
    (hk : s.ksu.keys = (pad f).keys)
    (hf : ∀ r ∈ (List.range 12).map f, r.due = false ∧ (r.baseline = none → r.state = .idle))
    (hh : s.ksu.suppressed = true → ∀ r ∈ (List.range 12).map f, r.state.held = false) : PadOk s := by
  have key : ∀ k, s.ksu.key k = (pad f).key k := fun k => by simp only [Ksu.key, hk]
  have keys : ∀ r ∈ s.ksu.keys, r ∈ (List.range 12).map f ∨ r = KeyRec.initial := by
    intro r hr
    rw [hk] at hr
    exact (List.mem_append.mp hr).imp_right List.eq_of_mem_replicate
  refine ⟨by rw [hk]; simp [pad], fun h r hr => ?_, fun r hr => ?_, fun k h => ?_, fun r hr hb => ?_⟩
  · rcases keys r hr with hr | rfl
    exacts [hh h r hr, rfl]
  · rcases keys r hr with hr | rfl
    exacts [(hf r hr).1, rfl]
  · rw [key, pad_unfitted f k (by omega)]; exact ⟨rfl, rfl⟩
  · rcases keys r hr with hr | rfl
    exacts [(hf r hr).2 hb, rfl]

theorem test_PadOk_of_reset : PadOk State.reset :=
  padOk_of_pad (fun _ => KeyRec.initial) State.reset rfl (by decide +kernel) (by decide +kernel)
    (by decide +kernel)

/-- A key at rest on a baseline of 2400, and one in this state. -/
def rest : KeyRec := { KeyRec.initial with raw := 2400, baseline := some 2400 }
def keyIn (state : KeyState) : KeyRec := { rest with state := state }

/-- The factory's pad at 70 s after reset, K3 as given and the others at rest. -/
def withK3 (r : KeyRec) : State :=
  (State.reset.setTime ⟨70000, 70, 0⟩).setKsu (pad fun k => if k = 3 then r else rest)

theorem padOk_withK3 (r : KeyRec) (h : r.due = false ∧ (r.baseline = none → r.state = .idle)) :
    PadOk (withK3 r) := by
  refine padOk_of_pad (fun k => if k = 3 then r else rest) _ rfl rfl (fun x hx => ?_) (fun h => nomatch h)
  obtain ⟨k, -, rfl⟩ := List.mem_map.mp hx
  split
  · exact h
  · exact ⟨rfl, fun h => nomatch h⟩

/-- The counts of a scan: K3's, and 2400 at every other pad. -/
def k3Reads (n : Nat) : List Nat := (List.replicate 20 2400).set 3 n

theorem test_scan_ranges : ScanRanges State.reset.settings.keypad :=
  ⟨by decide, by decide, by decide, by decide⟩

/-- The hypotheses of the scan statements hold of K3 PRESSED. -/
theorem test_scan_hyp (h : KeyRec := keyIn .pressed) (e : h = keyIn .pressed) :
    countsOk (k3Reads 2280) = true ∧ (withK3 h).hold = false ∧ PadOk (withK3 h) ∧
    KeqOk (withK3 h).keq ∧ ScanRanges (withK3 h).settings.keypad := by
  subst e
  exact ⟨by decide +kernel, rfl, padOk_withK3 _ ⟨rfl, fun h => nomatch h⟩,
    ⟨by decide, by decide, List.nodup_nil⟩, test_scan_ranges⟩

/-- R116, R117: a quiet pad drifts by a sixteenth; anti-touch begins above touch_thr, 120. -/
theorem test_ScanSetsBaselines_hyp :
    let base (n : Nat) := after (.keyScan (k3Reads n)) (withK3 rest) (fun t => (t.ksu.key 3).baseline)
    base 2440 = some (some 2402) ∧ base 2520 = some (some 2407) ∧ base 2521 = some (some 2521) := by
  decide +kernel

/-- R122, R123, R124, R125: released, held by its run, repeated, stuck, and out of quarantine. -/
theorem test_KeyScanHoldsAndQuarantines_hyp :
    let state (n : Nat) (r : KeyRec) := after (.keyScan (k3Reads n)) (withK3 r) (fun t => (t.ksu.key 3).state)
    let late := { keyIn .pressed with pressTime := 60000 }
    (withK3 late).ksu.suppressed = false ∧ coverCountOf (k3Reads 2280) (withK3 late) ≤ 3 ∧
    state 2341 { late with state := .pendingRelease, releaseRun := 2 } = some .idle ∧
    state 2341 { late with state := .pendingRelease, releaseRun := 1 } = some .pendingRelease ∧
    state 2340 late = some .pressed ∧
    state 2280 { late with pressTime := 9999 } = some .quarantined ∧
    state 2280 { late with pressTime := 10000 } = some .pressed ∧
    state 2400 { keyIn .quarantined with quietStart := some 69000 } = some .idle ∧
    state 2400 { keyIn .quarantined with quietStart := some 69001 } = some .quarantined ∧
    after (.keyScan (k3Reads 2280)) ((withK3 { late with pressTime := 69200 }).setSettings
        { Settings.factory with keyRepeat := List.replicate 20 true })
      (fun t => (t.ksu.key 3).ordinal) = some 1 := by decide +kernel

/-- R119, R126, R128, R130: frost begins below 0 and ends at 0; a step of 51 tenths is a re-take. -/
theorem test_RoundJudgesSuppression_hyp :
    let round (x : Int) (s : State) := after (.sampleRound ⟨x, 300, 300, x⟩ 240 RoundTask.all) s (fun t =>
      (t.ksu.frost, t.ksu.retake))
    let suppressed := State.reset.setKsu { State.reset.ksu with frost := true }
    let warm := State.reset.setKsu { State.reset.ksu with recalRef := some 250 }
    RoundTask.all.isPerm RoundTask.all = true ∧ suppressed.ksu.suppressed = true ∧
    round (-1) State.reset = some (true, .none) ∧ round 0 suppressed = some (false, .allKeys) ∧
    round 300 warm = some (false, .none) ∧ round 301 warm = some (false, .idleKeys) := by decide +kernel

/-- R127, R128, R130: a fourth key covers the pad; cover ends after cover_hold, 2000 ms. -/
theorem test_KeyScanJudgesCover_hyp :
    let touched (n : Nat) : List Nat := List.replicate n 2280 ++ List.replicate (20 - n) 2400
    let covered (fall : Word32) : State := (withK3 rest).setKsu { (withK3 rest).ksu with
      cover := true, coverFall := some fall }
    let cover (n : Nat) (s : State) := after (.keyScan (touched n)) s (·.ksu.cover)
    coverCountOf (touched 4) (withK3 rest) = 4 ∧
    cover 3 (withK3 rest) = some false ∧ cover 4 (withK3 rest) = some true ∧
    cover 0 (covered 68000) = some false ∧ cover 0 (covered 68001) = some true ∧
    cover 4 (covered 68000) = some true := by decide +kernel

/-- R131: C0, keys K0 and K2 for 5000 ms, fires once. -/
theorem test_ChordsFireOncePerHolding_hyp :
    let held (start : Option Word32) (spent : Bool) : State := (withK3 rest).setKsu
      { pad (fun k => if k = 0 ∨ k = 2 then { keyIn .pressed with pressTime := 60000 } else rest) with
        chords := State.reset.ksu.chords.set .n0 ⟨start, spent⟩ }
    let chord (n : Nat) (s : State) := after (.keyScan ([2280, 2400, 2280] ++ [n] ++ List.replicate 16 2400)) s
      (fun t => t.ksu.chords.get .n0)
    chord 2400 (held none false) = some ⟨some 70000, false⟩ ∧
    chord 2400 (held (some 65000) false) = some ⟨none, true⟩ ∧
    chord 2400 (held (some 65001) false) = some ⟨some 65001, false⟩ ∧
    chord 2400 (held none true) = some ⟨none, true⟩ := by decide +kernel

/-- The pad of `KeyScanPressesAndReleases`: one key touched to the threshold, the others at rest. -/
def onePad (state : KeyState) : State :=
  State.reset.setKsu { State.reset.ksu with
    keys := (List.replicate 20 { KeyRec.initial with raw := 2400, baseline := some 2400 }).set 3
      { KeyRec.initial with
        raw := 2400, baseline := some 2400, state := state, pressRun := 9, releaseRun := 9 } }

theorem test_KeyScan_hyp :
    let raws := (List.replicate 20 2400).set 3 (2400 - State.reset.settings.keypad.touchThr)
    let c := State.reset.settings.keypad
    countsOk raws = true ∧ (onePad .idle).hold = false ∧ (onePad .idle).ksu.keys.length = 20 ∧
    c.keysFitted ≤ 20 ∧ 3 < c.keysFitted ∧ (onePad .idle).ksu.suppressed = false ∧
    (onePad .idle).ksu.retake = .none ∧ 1 ≤ c.maxTouch ∧ c.releaseThr ≤ c.touchThr ∧
    (∀ j < 20, j ≠ 3 → ((onePad .idle).ksu.key j).due = false) ∧
    (∀ j < c.keysFitted, j ≠ 3 → ((onePad .idle).ksu.key j).state = .idle ∧
      ((onePad .idle).ksu.key j).baseline = some 2400 ∧ 2400 < raws.getD j 0 + c.touchThr ∧
      raws.getD j 0 ≤ 2400 + c.touchThr) ∧
    ((onePad .pendingPress).ksu.key 3).baseline = some 2400 ∧
    (((onePad .pendingPress).ksu.key 3).state = .pendingPress ∧
      c.pressCount ≤ ((onePad .pendingPress).ksu.key 3).pressRun + 1 ∧
      raws.getD 3 0 + c.touchThr ≤ 2400) ∧
    (((onePad .pendingRelease).ksu.key 3).state = .pendingRelease ∧
      c.releaseCount ≤ ((onePad .pendingRelease).ksu.key 3).releaseRun + 1 ∧
      2400 < (List.replicate 20 2400).getD 3 0 + c.releaseThr) := by decide +kernel

theorem test_UnitsOk_of_reset : UnitsOk State.reset :=
  ⟨by intro u; cases u <;> decide, by intro u; cases u <;> decide⟩

theorem test_TriggerControl_hyp :
    ((6 : Byte).toNat = 6 ∧ (0 : Byte).toNat = 0 ∧ Due (asked 0x30 7 [6, 0] State.reset) 0x30 7 [6, 0]) ∧
    (2 < (3 : Byte).toNat ∧ Due (asked 0x30 7 [0, 3] State.reset) 0x30 7 [0, 3]) ∧
    Due (asked 0x30 7 [5, 0] State.reset) 0x30 7 [BitVec.ofNat 8 (Six.n5).num, 0] ∧
    Due (asked 0x30 7 [5, 1] State.reset) 0x30 7 [BitVec.ofNat 8 (Six.n5).num, 1] ∧
    Due (asked 0x30 7 [5, 2] State.reset) 0x30 7 [BitVec.ofNat 8 (Six.n5).num, 2] :=
  ⟨⟨rfl, rfl, due_asked ..⟩, ⟨by decide, due_asked ..⟩, due_asked .., due_asked .., due_asked ..⟩

/-- A state with this event in the inbox, T0 READY to take it with this action, the others DISABLED. -/
def readied (action : TrigAction) (s : State) : State :=
  let c := { Settings.factory.trigger.v2 with action := action, enabled := true }
  (s.setSettings { s.settings with
    trigger := ⟨c, Settings.factory.trigger.v2, Settings.factory.trigger.v2, Settings.factory.trigger.v2,
      Settings.factory.trigger.v2, Settings.factory.trigger.v2⟩ }).setTmx
    ⟨[⟨.checkpoint, 0, 5⟩], ⟨⟨.ready, 0, 0, none⟩, ⟨.disabled, 0, 0, none⟩, ⟨.disabled, 0, 0, none⟩,
      ⟨.disabled, 0, 0, none⟩, ⟨.disabled, 0, 0, none⟩, ⟨.disabled, 0, 0, none⟩⟩⟩

theorem test_EventTake_hyp :
    let s := readied .notify State.reset
    let e : Event := ⟨.checkpoint, 0, 5⟩
    s.hold = false ∧ s.tmx.inbox = e :: [] ∧ (∀ u : TrigUnit, armingCycle s.settings.trigger u = false) ∧
    (∀ v : TrigUnit, v = .n0 ↔
      (s.tmx.units.get v).state = .ready ∧ ¬ (e.cls = .trigger ∧ e.index = BitVec.ofNat 8 v.num) ∧
      unitMatches (s.settings.trigger.get v) e = true ∧
      ∀ a, (s.settings.trigger.get v).armBy = some a → ¬ a = .n0) ∧
    (∀ v ∈ Six.all, unitFires s.settings.trigger s.tmx.units e v = decide (v = .n0)) ∧
    (State.reset.setHold true).hold = true ∧ (Tmx.initial Settings.factory).inbox = [] := by
  refine ⟨rfl, rfl, fun u => by cases u <;> decide +kernel, fun v => ?_, by decide +kernel, rfl, rfl⟩
  cases v
  · exact ⟨fun _ => ⟨rfl, by decide, by decide +kernel, fun _ h => nomatch h⟩, fun _ => rfl⟩
  all_goals exact ⟨(fun h => nomatch h), (fun h => nomatch h.1)⟩

/-- R66, R72, R86, R161: what the one unit that fires brings about. -/
theorem test_actions_reach_their_owners :
    after .eventTake (readied .powerOn (hostIn .lockedOut .noStage none)) (·.hps.state) =
      some .qualifying ∧
    after .eventTake (readied .restart (hostIn .running .noStage none)) (fun t =>
      (t.weu.records.length, t.weu.attempts, t.hostRstN)) = some (1, 1, true) ∧
    after .eventTake (readied .shutdown (hostIn .running .noStage none)) (·.hps.state) =
      some .stopping := by decide +kernel

theorem test_WindowsPulsesAndLearnStarts_hyp :
    let u : UnitRec := ⟨.ready, 0, 0, some 0⟩
    (u.state = .ready ∧ u.window = some 0) ∧
    (State.reset.setCnu { State.reset.cnu with svcTimer := some 0 }).cnu.svcTimer = some 0 ∧
    Due (asked 0x31 7 [] State.reset) 0x31 7 [] := ⟨⟨rfl, rfl⟩, rfl, due_asked ..⟩

end Sys2Proof.Tests
end

namespace Sys2Proof
/-! ### Values by number -/

theorem PerThree.get_set {α : Type} (x : PerThree α) (i j : Three) (a : α) :
    (x.set i a).get j = if i = j then a else x.get j := by
  cases i <;> cases j <;> rfl
theorem PerFour.get_set {α : Type} (x : PerFour α) (i j : Four) (a : α) :
    (x.set i a).get j = if i = j then a else x.get j := by
  cases i <;> cases j <;> rfl
theorem PerSix.get_set {α : Type} (x : PerSix α) (i j : Six) (a : α) :
    (x.set i a).get j = if i = j then a else x.get j := by
  cases i <;> cases j <;> rfl

@[simp] theorem PerThree.get_set_self {α : Type} (x : PerThree α) (i : Three) (a : α) :
    (x.set i a).get i = a := by simp [PerThree.get_set]
@[simp] theorem PerFour.get_set_self {α : Type} (x : PerFour α) (i : Four) (a : α) :
    (x.set i a).get i = a := by simp [PerFour.get_set]

@[simp] theorem Three.ofNum_num (i : Three) : Three.ofNum i.num = some i := by cases i <;> rfl
@[simp] theorem Four.ofNum_num (i : Four) : Four.ofNum i.num = some i := by cases i <;> rfl
@[simp] theorem Six.ofNum_num (i : Six) : Six.ofNum i.num = some i := by cases i <;> rfl

/-- A number names a unit exactly where it is the unit's. -/
theorem Six.ofNum_eq_some_iff (n : Nat) (i : Six) : Six.ofNum n = some i ↔ n = i.num := by
  constructor
  · intro h
    unfold Six.ofNum at h
    split at h <;> cases h <;> rfl
  · rintro rfl; exact Six.ofNum_num i

end Sys2Proof

namespace Sys2Proof.Machine
open Sys2Proof.Safety

/-! ### Bytes and words -/

/-- Four bytes are those of the word they make (R190). -/
theorem bytes32_word32 (b3 b2 b1 b0 : Byte) : bytes32 (word32 b3 b2 b1 b0) = [b3, b2, b1, b0] := by
  simp only [bytes32, word32, List.cons.injEq, and_true]
  refine ⟨?_, ?_, ?_, ?_⟩ <;> ext i hi <;> simp <;> grind

/-- A word is the one its four bytes make (R190). -/
theorem word32_bytes32 (w : Word32) :
    word32 (w.extractLsb' 24 8) (w.extractLsb' 16 8) (w.extractLsb' 8 8) (w.extractLsb' 0 8) = w := by
  rw [word32, BitVec.extractLsb'_append_extractLsb'_eq_extractLsb' (by decide),
    BitVec.extractLsb'_append_extractLsb'_eq_extractLsb' (by decide),
    BitVec.extractLsb'_append_extractLsb'_eq_extractLsb' (by decide)]
  simp

end Sys2Proof.Machine

namespace Sys2Proof.Machine
open Sys2Proof.Safety

/-! ### Fields limited to a range, and fields by name (R188, R190) -/

theorem clampI_eq_limited {lo hi : Int} (h : lo ≤ hi) (x : Int) : clampI lo hi x = limited lo hi x := by
  unfold clampI limited; omega

theorem clampT_eq_limitedTemp (x : Int) : clampT x = limitedTemp x := clampI_eq_limited (by decide) x

theorem clampN_cast {lo hi : Nat} (h : lo ≤ hi) (x : Int) :
    (clampN lo hi x : Int) = limited lo hi x := by
  unfold clampN clampI limited; omega

/-- An unsigned field is the written one limited to its range (R188). -/
theorem clampN_eq_iff {lo hi : Nat} (h : lo ≤ hi) (x : Int) (n : Nat) :
    clampN lo hi x = n ↔ (n : Int) = limited lo hi x := by
  rw [← clampN_cast h]; omega

theorem limited_of_mem {lo hi x : Int} (h : lo ≤ x) (h' : x ≤ hi) : limited lo hi x = x := by
  unfold limited; omega

theorem limited_mem {lo hi : Int} (h : lo ≤ hi) (x : Int) : lo ≤ limited lo hi x ∧ limited lo hi x ≤ hi := by
  unfold limited; omega

theorem limitedTemp_mem (x : Int) : -550 ≤ limitedTemp x ∧ limitedTemp x ≤ 1250 :=
  limited_mem (by decide) x

theorem limitedTemp_of_ok {x : Int} (h : TempOk x) : limitedTemp x = x := limited_of_mem h.1 h.2

theorem names_nil {α : Type} (x : Int) (a : α) : ¬ Names [] x a := by simp [Names]

theorem names_cons {α : Type} (v : α) (vs : List α) (x : Int) (a : α) :
    Names (v :: vs) x a ↔ (x = 0 ∧ v = a) ∨ Names vs (x - 1) a := by
  unfold Names
  obtain h | rfl | h : x < 0 ∨ x = 0 ∨ 0 < x := by omega
  · simp; omega
  · simp
  · obtain ⟨n, rfl⟩ : ∃ n : Nat, x = n + 1 := ⟨x.toNat - 1, by omega⟩
    have h1 : ((n : Int) + 1).toNat = n + 1 := by omega
    have h2 : ¬ ((n : Int) + 1 = 0) := by omega
    have h3 : (0 : Int) ≤ n + 1 := by omega
    simp [h1, h2, h3]

theorem yesNo_iff (x : Int) (b : Bool) : YesNo x b ↔ x = ofBool b := by
  unfold YesNo
  cases b <;> simp [names_cons, names_nil, ofBool] <;> omega

theorem yesNo_eq_some_iff (x : Int) (b : Bool) : yesNo x = some b ↔ YesNo x b := by
  rw [yesNo_iff]
  cases b <;> simp [yesNo, ofBool] <;> grind

theorem stepNamed_iff (x : Int) (a : StepAction) : StepNamed x a ↔ x = a.num := by
  unfold StepNamed
  cases a <;> simp [names_cons, names_nil, StepAction.num] <;> omega

theorem stepAction?_eq_some_iff (x : Int) (a : StepAction) : stepAction? x = some a ↔ StepNamed x a := by
  rw [stepNamed_iff]
  cases a <;> simp [stepAction?, StepAction.num] <;> grind

theorem earlyNamed_iff (x : Int) (a : EarlyPolicy) : Names [.restart, .count] x a ↔ x = a.num := by
  cases a <;> simp [names_cons, names_nil, EarlyPolicy.num] <;> omega

theorem earlyPolicy?_eq_some_iff (x : Int) (a : EarlyPolicy) :
    earlyPolicy? x = some a ↔ Names [.restart, .count] x a := by
  rw [earlyNamed_iff]
  cases a <;> simp [earlyPolicy?, EarlyPolicy.num] <;> grind

theorem trigActionNamed_iff (x : Int) (a : TrigAction) :
    Names [.notify, .freeze, .restart, .powerOn, .shutdown, .signal, .filterLearn] x a ↔ x = a.num := by
  cases a <;> simp [names_cons, names_nil, TrigAction.num] <;> omega

theorem trigAction?_eq_some_iff (x : Int) (a : TrigAction) : trigAction? x = some a ↔
    Names [.notify, .freeze, .restart, .powerOn, .shutdown, .signal, .filterLearn] x a := by
  rw [trigActionNamed_iff]
  cases a <;> simp [trigAction?, TrigAction.num] <;> grind

theorem armBy?_eq_some_iff (x : Int) (a : Option TrigUnit) : armBy? x = some a ↔ x = ofArmBy a := by
  unfold armBy? ofArmBy
  cases a with
  | none =>
    split
    · simpa using ‹x = -1›
    · split
      · simpa using ‹¬ x = -1›
      · simpa using ‹¬ x = -1›
  | some u =>
    split
    · grind
    · split
      · simp only [Option.map_eq_some_iff, Option.some.injEq, exists_eq_right, Six.ofNum_eq_some_iff]; omega
      · grind

/-! ### What each group's decoder takes (R15, R35, R36, R42, R99, R100, R75, R133, R134, R159, R171, R180) -/

theorem zoneOf_eq_some_iff (fs : List Int) (c : ZoneSettings) : zoneOf fs = some c ↔ ZoneTaken fs c := by
  unfold zoneOf ZoneTaken
  split
  · obtain ⟨⟩ := c
    simp (disch := decide) only [Option.map_eq_some_iff, yesNo_eq_some_iff, clampZone,
      ZoneSettings.mk.injEq, clampT_eq_limitedTemp, clampN_eq_iff, Nat.cast_ofNat, Nat.cast_one,
      Nat.cast_zero]
    constructor
    · rintro ⟨b, hb, rfl, rfl, rfl, h1, rfl, rfl, rfl, h2, rfl, rfl, rfl, h3⟩
      refine ⟨rfl, rfl, rfl, h1, rfl, ?_, hb, h2, ?_, ?_, ?_, h3⟩ <;> omega
    · rintro ⟨rfl, rfl, rfl, h1, rfl, rfl, hb, h2, rfl, rfl, rfl, h3⟩
      refine ⟨_, hb, rfl, rfl, rfl, h1, rfl, ?_, rfl, h2, ?_, ?_, ?_, h3⟩ <;> omega
  · simp

theorem heaterOf_eq_some_iff (fs : List Int) (c : HeaterSettings) :
    heaterOf fs = some c ↔ HeaterTaken fs c := by
  unfold heaterOf HeaterTaken
  split
  · rename_i low high
    obtain ⟨⟩ := c
    simp (disch := decide) only [Option.map_eq_some_iff, yesNo_eq_some_iff, HeaterSettings.mk.injEq,
      clampN_eq_iff, Nat.cast_ofNat, Nat.cast_one, Nat.cast_zero]
    have hl := clampN_cast (show 0 ≤ 5000 by decide) low
    have hh := clampN_cast (show 0 ≤ 5000 by decide) high
    simp only [Nat.cast_ofNat, Nat.cast_zero] at hl hh
    constructor
    · rintro ⟨b, hb, rfl, h1, h2, h3, h4, h5⟩
      refine ⟨hb, h1, h2, h3, h4, ?_⟩; omega
    · rintro ⟨hb, h1, h2, h3, h4, h5⟩
      refine ⟨_, hb, rfl, h1, h2, h3, h4, ?_⟩; omega
  · simp

theorem budgetOf_eq_some_iff (fs : List Int) (c : BudgetSettings) :
    budgetOf fs = some c ↔ BudgetTaken fs c := by
  unfold budgetOf BudgetTaken
  split
  · obtain ⟨⟩ := c
    simp (disch := decide) only [Option.some.injEq, BudgetSettings.mk.injEq, clampN_eq_iff,
      Nat.cast_ofNat, Nat.cast_zero]
  · simp

/-- A field lowered to `hi` at most. -/
theorem min_eq_lowered (x hi : Int) : min x hi = if hi < x then hi else x := by omega

theorem fanOf_eq_some_iff (fs : List Int) (c : FanSettings) : fanOf fs = some c ↔ FanTaken fs c := by
  unfold fanOf FanTaken
  split
  · obtain ⟨⟩ := c
    simp (disch := decide) only [Option.some.injEq, FanSettings.mk.injEq, clampN_eq_iff,
      clampT_eq_limitedTemp, min_eq_lowered, Nat.cast_ofNat]
    constructor
    · rintro ⟨rfl, rfl, h⟩
      exact ⟨rfl, rfl, h⟩
    · rintro ⟨rfl, rfl, h⟩
      exact ⟨rfl, rfl, h⟩
  · simp

theorem clampTimeout_cast (x : Int) :
    (clampTimeout x : Int) = if x ≤ 0 then 0 else limited 100 600000 x := by
  unfold clampTimeout
  split
  · rfl
  · exact clampN_cast (by decide) x

theorem clampStuck_cast (x : Int) :
    (clampStuck x : Int) = if x ≤ 0 then 0 else limited 5 600 x := by
  unfold clampStuck
  split
  · rfl
  · exact clampN_cast (by decide) x

theorem watchdogOf_eq_some_iff (fs : List Int) (c : WatchdogSettings) :
    watchdogOf fs = some c ↔ WatchdogTaken fs c := by
  unfold watchdogOf WatchdogTaken
  split
  · obtain ⟨⟩ := c
    simp (disch := decide) only [Option.bind_eq_bind, Option.bind_eq_some_iff, earlyPolicy?_eq_some_iff,
      stepAction?_eq_some_iff, Option.some.injEq, WatchdogSettings.mk.injEq, ← clampTimeout_cast,
      Int.natCast_inj, clampN_eq_iff, clampN_eq_iff (Nat.zero_le _), Nat.cast_ofNat, Nat.cast_one,
      Nat.cast_zero]
    constructor
    · rintro ⟨e, he, a, ha, rfl, h2, rfl, h4, h5, rfl, h7⟩
      exact ⟨rfl, h2, he, h4, h5, ha, h7⟩
    · rintro ⟨rfl, h2, he, h4, h5, ha, h7⟩
      exact ⟨_, he, _, ha, rfl, h2, rfl, h4, h5, rfl, h7⟩
  · simp

theorem ladderOf_eq_some_iff (fs : List Int) (c : LadderSettings) :
    ladderOf fs = some c ↔ LadderTaken fs c := by
  unfold ladderOf LadderTaken
  split
  · obtain ⟨n, ⟨⟨⟩, ⟨⟩, ⟨⟩, ⟨⟩⟩⟩ := c
    simp (disch := decide) only [Option.bind_eq_bind, Option.bind_eq_some_iff, stepAction?_eq_some_iff,
      Option.some.injEq, LadderSettings.mk.injEq, PerFour.mk.injEq, LadderStep.mk.injEq, PerFour.get,
      StepTaken, clampN_eq_iff, Nat.cast_ofNat, Nat.cast_one]
    constructor
    · rintro ⟨a0, h0, a1, h1, a2, h2, a3, h3, hn, ⟨rfl, k0⟩, ⟨rfl, k1⟩, ⟨rfl, k2⟩, rfl, k3⟩
      exact ⟨hn, ⟨h0, k0⟩, ⟨h1, k1⟩, ⟨h2, k2⟩, h3, k3⟩
    · rintro ⟨hn, ⟨h0, k0⟩, ⟨h1, k1⟩, ⟨h2, k2⟩, h3, k3⟩
      exact ⟨_, h0, _, h1, _, h2, _, h3, hn, ⟨rfl, k0⟩, ⟨rfl, k1⟩, ⟨rfl, k2⟩, rfl, k3⟩
  · simp

theorem hostPowerOf_eq_some_iff (fs : List Int) (c : HostPowerSettings) :
    hostPowerOf fs = some c ↔ HostPowerTaken fs c := by
  unfold hostPowerOf HostPowerTaken
  split
  · obtain ⟨⟩ := c
    simp (disch := decide) only [Option.bind_eq_bind, Option.bind_eq_some_iff, yesNo_eq_some_iff,
      Option.some.injEq, HostPowerSettings.mk.injEq, clampN_eq_iff, Nat.cast_ofNat, Nat.cast_one,
      Nat.cast_zero]
    constructor
    · rintro ⟨a, ha, l, hl, h1, h2, h3, h4, h5, h6, h7, h8, rfl, rfl⟩
      exact ⟨h1, h2, h3, h4, h5, h6, h7, h8, ha, hl⟩
    · rintro ⟨h1, h2, h3, h4, h5, h6, h7, h8, ha, hl⟩
      exact ⟨_, ha, _, hl, h1, h2, h3, h4, h5, h6, h7, h8, rfl, rfl⟩
  · simp

theorem keypadOf_eq_some_iff (fs : List Int) (c : KeypadSettings) :
    keypadOf fs = some c ↔ KeypadTaken fs c := by
  unfold keypadOf KeypadTaken
  split
  · rename_i touch release _ _ _ _ _ _ _ _ _ _
    obtain ⟨⟩ := c
    have ht := clampN_cast (show 10 ≤ 2000 by decide) touch
    have hr := clampN_cast (show 1 ≤ 1999 by decide) release
    have hb := limited_mem (show (10 : Int) ≤ 2000 by decide) touch
    simp (disch := decide) only [Option.some.injEq, KeypadSettings.mk.injEq, ← clampStuck_cast,
      Int.natCast_inj, clampN_eq_iff, clampI_eq_limited, Nat.cast_ofNat, Nat.cast_one,
      Nat.cast_zero] at ht hr ⊢
    constructor
    · rintro ⟨h1, h2, h3, h4, h5, h6, h7, h8, rfl, h10, rfl, h⟩
      refine ⟨h1, h2, h3, ?_, h5, h6, h7, h8, rfl, h10, rfl, h⟩; omega
    · rintro ⟨h1, h2, h3, h4, h5, h6, h7, h8, rfl, h10, rfl, h⟩
      refine ⟨h1, h2, h3, ?_, h5, h6, h7, h8, rfl, h10, rfl, h⟩; omega
  · simp

theorem keyOf_eq_some_iff (fs : List Int) (c : Bool) : keyOf fs = some c ↔ KeyTaken fs c := by
  unfold keyOf KeyTaken
  split
  · exact yesNo_eq_some_iff _ c
  · simp

theorem byte_eq_iff (x : Int) (b : Byte) :
    BitVec.ofNat 8 (clampN 0 255 x) = b ↔ (b.toNat : Int) = limited 0 255 x := by
  have h := clampN_cast (show 0 ≤ 255 by decide) x
  have hb := limited_mem (show (0 : Int) ≤ 255 by decide) x
  simp only [Nat.cast_ofNat, Nat.cast_zero] at h
  rw [← BitVec.toNat_inj, BitVec.toNat_ofNat, ← h]
  omega

theorem triggerOf_eq_some_iff (fs : List Int) (c : TriggerSettings) :
    triggerOf fs = some c ↔ TriggerTaken fs c := by
  unfold triggerOf TriggerTaken
  split
  · obtain ⟨⟩ := c
    simp (disch := decide) only [Option.bind_eq_bind, Option.bind_eq_some_iff, yesNo_eq_some_iff,
      trigAction?_eq_some_iff, armBy?_eq_some_iff, Option.some.injEq, TriggerSettings.mk.injEq,
      clampN_eq_iff, clampI_eq_limited, byte_eq_iff, Option.ite_none_right_eq_some, Nat.cast_ofNat,
      Nat.cast_zero]
    constructor
    · rintro ⟨a, ha, r, hr, e, he, u, hu, ⟨h0, h16⟩, hc, hi, hm, rfl, rfl, hp, rfl, hw, rfl, rfl, rfl⟩
      exact ⟨⟨by omega, h16⟩, hi, hm, rfl, rfl, hp, hu, hw, ha, hr, he⟩
    · rintro ⟨⟨hc, h16⟩, hi, hm, rfl, rfl, hp, hu, hw, ha, hr, he⟩
      exact ⟨_, ha, _, hr, _, he, _, hu, ⟨by omega, h16⟩, by omega, hi, hm, rfl, rfl, hp, rfl, hw, rfl, rfl,
        rfl⟩
  · simp

theorem reportMask_getLsbD : ∀ i < 32, (0x3FFFFFFF#32).getLsbD i = decide (i < 30) := by decide

theorem reportOf_eq_some_iff (fs : List Int) (c : Word32) : reportOf fs = some c ↔ ReportTaken fs c := by
  unfold reportOf ReportTaken
  split
  · rw [Option.some.injEq]
    constructor
    · rintro rfl i hi
      rw [BitVec.getLsbD_and, reportMask_getLsbD i hi, Bool.and_comm]
    · intro h
      refine BitVec.eq_of_getLsbD_eq fun i hi => ?_
      rw [BitVec.getLsbD_and, reportMask_getLsbD i hi, h i hi, Bool.and_comm]
  · simp

theorem linkOf_eq_some_iff (fs : List Int) (c : LineRate) : linkOf fs = some c ↔ LinkTaken fs c := by
  unfold linkOf LinkTaken
  split
  · rename_i x
    simp only [List.cons.injEq, and_true, exists_eq_left', lineRate?]
    cases c <;> simp <;> grind
  · grind
/-! ### Key sets (R134, R190, R191) -/

theorem allUnused_iff (bs : List Byte) :
    bs.all (· == 0xFF) = true ↔ bs.map BitVec.toNat = List.replicate bs.length 255 := by
  simp only [List.all_eq_true, beq_iff_eq, List.eq_replicate_iff, List.length_map, List.mem_map,
    forall_exists_index, and_imp, forall_apply_eq_imp_iff₂, true_and]
  exact forall₂_congr fun b _ => by rw [← BitVec.toNat_inj]; rfl

/-- The packed places of a key set: its keys, then 0xFF in every unused place (R190). -/
theorem keyPlaces_eq_some_iff (bs : List Byte) (ks : List Nat) : keyPlaces bs = some ks ↔
    bs.map BitVec.toNat = ks ++ List.replicate (bs.length - ks.length) 255 ∧
      ks.length ≤ bs.length ∧ ∀ k ∈ ks, k < 20 := by
  induction bs generalizing ks with
  | nil => cases ks <;> simp [keyPlaces]
  | cons b rest ih =>
    unfold keyPlaces
    split
    · subst b
      cases ks with
      | nil =>
        have h := allUnused_iff rest
        simp only [Option.ite_none_right_eq_some, and_true, List.map_cons, List.length_cons,
          List.nil_append, List.length_nil, Nat.sub_zero, List.replicate_succ, List.cons.injEq, h]
        simp
      | cons k ks => simp; grind
    · have hb : b.toNat ≠ 255 := fun h => ‹¬ b = 0xFF› (BitVec.eq_of_toNat_eq h)
      cases ks with
      | nil => simp [List.replicate_succ, hb]
      | cons k ks =>
        simp only [Option.ite_none_right_eq_some, Option.map_eq_some_iff, ih, List.cons.injEq,
          List.map_cons, List.length_cons, List.cons_append, Nat.add_sub_add_right, List.mem_cons,
          forall_eq_or_imp, Nat.add_le_add_iff_right]
        constructor
        · rintro ⟨hlt, _, ⟨h, hl, hk⟩, rfl, rfl⟩
          exact ⟨⟨rfl, h⟩, hl, hlt, hk⟩
        · rintro ⟨⟨rfl, h⟩, hl, hlt, hk⟩
          exact ⟨hlt, _, ⟨h, hl, hk⟩, rfl, rfl⟩

theorem bytes32_toNat (w : Word32) :
    (bytes32 w).map BitVec.toNat = (List.range 4).reverse.map fun i => w.toNat / 256 ^ i % 256 := by
  have h : (List.range 4).reverse = [3, 2, 1, 0] := rfl
  simp [h, bytes32, BitVec.extractLsb'_toNat, Nat.shiftRight_eq_div_pow]

theorem chordOf_eq_some_iff (fs : List Int) (c : ChordSettings) :
    chordOf fs = some c ↔ ChordTaken fs c := by
  unfold chordOf ChordTaken
  split
  · rename_i keys hold
    obtain ⟨ks, n⟩ := c
    have hset : ∀ set, keySet? (bytes32 (BitVec.ofInt 32 keys)) = some set ↔
        keyPlaces (bytes32 (BitVec.ofInt 32 keys)) = some set ∧ set.length ≠ 1 ∧ set.Nodup := by
      intro set
      unfold keySet?
      split <;> grind
    simp (disch := decide) only [Option.map_eq_some_iff, hset, keyPlaces_eq_some_iff, bytes32_toNat,
      ChordSettings.mk.injEq, clampN_eq_iff, Nat.cast_ofNat]
    constructor
    · rintro ⟨_, ⟨⟨h1, h2, h3⟩, h4, h5⟩, rfl, hn⟩
      exact ⟨h1, h5, h4, h2, h3, hn⟩
    · rintro ⟨h1, h5, h4, h2, h3, hn⟩
      exact ⟨_, ⟨⟨h1, h2, h3⟩, h4, h5⟩, rfl, hn⟩
  · simp

/-- The places of a packed key set, read back (R190). -/
theorem bytes_packKeys (ks : List Nat) (hl : ks.length ≤ 4) (hk : ∀ k ∈ ks, k < 20) :
    (bytes32 (BitVec.ofInt 32 (packKeys ks))).map BitVec.toNat =
      ks ++ List.replicate (4 - ks.length) 255 := by
  have hmod : ∀ k ∈ ks, k % 256 = k := fun k h => Nat.mod_eq_of_lt (by have := hk k h; omega)
  unfold packKeys
  rcases ks with _ | ⟨a, _ | ⟨b, _ | ⟨c, _ | ⟨d, _ | ⟨e, ks⟩⟩⟩⟩⟩
  all_goals simp_all [bytes32_word32, List.replicate] <;> omega

/-! ### Bounds of fields -/

theorem toInt_mem (w : Word32) : -2147483648 ≤ w.toInt ∧ w.toInt ≤ 2147483647 := by
  have h1 := BitVec.le_toInt w
  have h2 := BitVec.toInt_lt (x := w)
  omega

theorem ofBool_mem (b : Bool) : 0 ≤ ofBool b ∧ ofBool b ≤ 1 := by cases b <;> decide

theorem StepAction.num_mem (a : StepAction) : 0 ≤ a.num ∧ a.num ≤ 1 := by cases a <;> decide

theorem EarlyPolicy.num_mem (a : EarlyPolicy) : 0 ≤ a.num ∧ a.num ≤ 1 := by cases a <;> decide

theorem TrigAction.num_mem (a : TrigAction) : 0 ≤ a.num ∧ a.num ≤ 6 := by cases a <;> decide

theorem ofArmBy_mem (a : Option TrigUnit) : -1 ≤ ofArmBy a ∧ ofArmBy a ≤ 5 := by
  rcases a with _ | u
  · decide
  · cases u <;> decide

theorem packKeys_mem (ks : List Nat) : -2147483648 ≤ packKeys ks ∧ packKeys ks ≤ 2147483647 := by
  unfold packKeys
  split
  · exact toInt_mem _
  · decide

end Sys2Proof.Machine

namespace Sys2Proof.Safety
open Sys2Proof.Machine

/-! ### What is taken is in range -/

/-- A field that was limited to a range lies in it. -/
theorem mem_of_eq_limited {lo hi x y : Int} (h : lo ≤ hi) (e : x = limited lo hi y) : lo ≤ x ∧ x ≤ hi :=
  e ▸ limited_mem h y

theorem tempOk_of_eq {x y : Int} (e : x = limitedTemp y) : TempOk x := mem_of_eq_limited (by decide) e

theorem ZoneSettingsOk.of_taken {fs : List Int} {c : ZoneSettings} (h : ZoneTaken fs c) :
    ZoneSettingsOk c := by
  unfold ZoneTaken at h
  split at h
  · rename_i high _ _ floor ceiling crit _
    obtain ⟨h1, h2, h3, h4, h5, h6, -, h8, h9, h10, h11, h12⟩ := h
    have hl := tempOk_of_eq h5
    have b4 := mem_of_eq_limited (by decide) h4
    have b8 := mem_of_eq_limited (by decide) h8
    have b12 := mem_of_eq_limited (by decide) h12
    have bh := limitedTemp_mem high
    have bf := limitedTemp_mem floor
    have bc := limitedTemp_mem ceiling
    have bx := limitedTemp_mem crit
    unfold TempOk at hl
    have hh : -550 ≤ c.admitHigh ∧ c.admitHigh ≤ 1250 ∧ c.admitLow ≤ c.admitHigh := by
      split at h6 <;> omega
    have hf : -550 ≤ c.floor ∧ c.floor ≤ 1230 := by split at h9 <;> omega
    have hc : c.floor + 20 ≤ c.ceiling ∧ c.ceiling ≤ 1250 := by split at h10 <;> omega
    have hx : c.ceiling ≤ c.crit ∧ c.crit ≤ 1250 := by split at h11 <;> omega
    exact ⟨⟨tempOk_of_eq h1, tempOk_of_eq h2, tempOk_of_eq h3⟩, by omega,
      ⟨hl, ⟨hh.1, hh.2.1⟩, hh.2.2⟩, by omega, ⟨⟨hf.1, by omega⟩, hc.1⟩, hx, by omega⟩
  · exact h.elim

theorem HeaterSettingsOk.of_taken {fs : List Int} {c : HeaterSettings} (h : HeaterTaken fs c) :
    HeaterSettingsOk c := by
  unfold HeaterTaken at h
  split at h
  · rename_i high
    obtain ⟨-, h2, h3, h4, h5, h6⟩ := h
    have b2 := mem_of_eq_limited (by decide) h2
    have b3 := mem_of_eq_limited (by decide) h3
    have b4 := mem_of_eq_limited (by decide) h4
    have b5 := mem_of_eq_limited (by decide) h5
    have bh := limited_mem (show (0 : Int) ≤ 5000 by decide) high
    have hx : c.iMin ≤ c.iMax ∧ c.iMax ≤ 5000 := by split at h6 <;> omega
    exact ⟨by omega, by omega, by omega, hx⟩
  · exact h.elim

theorem ClimateSettingsOk.of_budget {fs : List Int} {b b' : BudgetSettings} {f : FanSettings}
    (h : ClimateSettingsOk b f) (hb : BudgetTaken fs b') : ClimateSettingsOk b' f := by
  unfold BudgetTaken at hb
  split at hb
  · obtain ⟨h1, h2, h3, h4⟩ := hb
    have b1 := mem_of_eq_limited (by decide) h1
    have b2 := mem_of_eq_limited (by decide) h2
    have b3 := mem_of_eq_limited (by decide) h3
    have b4 := mem_of_eq_limited (by decide) h4
    exact ⟨by omega, by omega, h.fan, h.duty, h.stall, h.clog⟩
  · exact hb.elim

theorem ClimateSettingsOk.of_fan {fs : List Int} {b : BudgetSettings} {f f' : FanSettings}
    (h : ClimateSettingsOk b f) (hf : FanTaken fs f') : ClimateSettingsOk b f' := by
  unfold FanTaken at hf
  split at hf
  · rename_i on full _ _ _
    obtain ⟨h1, h2, h3, h4, h5⟩ := hf
    have b3 := mem_of_eq_limited (by decide) h3
    have b4 := mem_of_eq_limited (by decide) h4
    have b5 := mem_of_eq_limited (by decide) h5
    have bo := limitedTemp_mem on
    have bf := limitedTemp_mem full
    have ho : -550 ≤ f'.fanOn ∧ f'.fanOn ≤ 1240 := by split at h1 <;> omega
    have hx : f'.fanOn < f'.fanFull ∧ f'.fanFull ≤ 1250 := by split at h2 <;> omega
    exact ⟨h.budget, h.supplyLow, ⟨⟨ho.1, by omega⟩, ho.2, ⟨by omega, hx.2⟩, hx.1⟩, by omega, by omega,
      by omega⟩
  · exact hf.elim

theorem PolicySettingsOk.of_watchdog {fs : List Int} {w w' : WatchdogSettings} {l : LadderSettings}
    {p : HostPowerSettings} (h : PolicySettingsOk w l p) (hw : WatchdogTaken fs w') :
    PolicySettingsOk w' l p := by
  unfold WatchdogTaken at hw
  split at hw
  · rename_i timeout _ _ _ _ _ _
    obtain ⟨w1, w2, -, w4, w5, -, w7⟩ := hw
    have b2 := mem_of_eq_limited (by omega) w2
    have b4 := mem_of_eq_limited (by decide) w4
    have b5 := mem_of_eq_limited (by decide) w5
    have b7 := mem_of_eq_limited (by decide) w7
    have bt := limited_mem (show (100 : Int) ≤ 600000 by decide) timeout
    have ht : w'.timeout = 0 ∨ 100 ≤ w'.timeout ∧ w'.timeout ≤ 600000 := by split at w1 <;> omega
    exact { h with
      timeout := ht, window := by omega, boot := by omega, stable := by omega, requested := by omega }
  · exact hw.elim

/-- A step of LADDER that was taken is in its ranges (R100). -/
theorem step_mem_of_taken {a o t : Int} {st : LadderStep} (h : StepTaken a o t st) :
    1 ≤ st.offTime ∧ st.offTime ≤ 600 ∧ 1 ≤ st.attempts ∧ st.attempts ≤ 7 := by
  obtain ⟨-, ho, ht⟩ := h
  have bo := mem_of_eq_limited (by decide) ho
  have bt := mem_of_eq_limited (by decide) ht
  omega

theorem PolicySettingsOk.of_ladder {fs : List Int} {w : WatchdogSettings} {l l' : LadderSettings}
    {p : HostPowerSettings} (h : PolicySettingsOk w l p) (hl : LadderTaken fs l') :
    PolicySettingsOk w l' p := by
  unfold LadderTaken at hl
  split at hl
  · obtain ⟨hn, h0, h1, h2, h3⟩ := hl
    have bn := mem_of_eq_limited (by decide) hn
    refine { h with steps := by omega, step := fun i => ?_ }
    cases i
    · exact step_mem_of_taken h0
    · exact step_mem_of_taken h1
    · exact step_mem_of_taken h2
    · exact step_mem_of_taken h3
  · exact hl.elim

theorem PolicySettingsOk.of_hostPower {fs : List Int} {w : WatchdogSettings} {l : LadderSettings}
    {p p' : HostPowerSettings} (h : PolicySettingsOk w l p) (hp : HostPowerTaken fs p') :
    PolicySettingsOk w l p' := by
  unfold HostPowerTaken at hp
  split at hp
  · obtain ⟨h1, h2, h3, h4, h5, h6, h7, h8, -, -⟩ := hp
    have b1 := mem_of_eq_limited (by decide) h1
    have b2 := mem_of_eq_limited (by decide) h2
    have b3 := mem_of_eq_limited (by decide) h3
    have b4 := mem_of_eq_limited (by decide) h4
    have b5 := mem_of_eq_limited (by decide) h5
    have b6 := mem_of_eq_limited (by decide) h6
    have b7 := mem_of_eq_limited (by decide) h7
    have b8 := mem_of_eq_limited (by decide) h8
    exact { h with power := by omega, stop := by omega, warm := by omega, lead := by omega }
  · exact hp.elim

theorem KeypadSettingsOk.of_taken {fs : List Int} {c : KeypadSettings} (h : KeypadTaken fs c) :
    KeypadSettingsOk c := by
  unfold KeypadTaken at h
  split at h
  · rename_i release _ _ _ _ stuck _ _ _ _ _
    obtain ⟨h1, h2, h3, h4, h5, h6, h7, h8, h9, h10, h11, h12, h13, h14⟩ := h
    have b1 := mem_of_eq_limited (by decide) h1
    have b2 := mem_of_eq_limited (by decide) h2
    have b3 := mem_of_eq_limited (by decide) h3
    have b5 := mem_of_eq_limited (by decide) h5
    have b6 := mem_of_eq_limited (by decide) h6
    have b7 := mem_of_eq_limited (by decide) h7
    have b8 := mem_of_eq_limited (by decide) h8
    have b10 := mem_of_eq_limited (by decide) h10
    have b11 := mem_of_eq_limited (by decide) h11
    have b12 := mem_of_eq_limited (by decide) h12
    have b13 := mem_of_eq_limited (by decide) h13
    have b14 := mem_of_eq_limited (by decide) h14
    have br := limited_mem (show (1 : Int) ≤ 1999 by decide) release
    have bs := limited_mem (show (5 : Int) ≤ 600 by decide) stuck
    have hr : 1 ≤ c.releaseThr ∧ c.releaseThr < c.touchThr := by split at h4 <;> omega
    have hs : c.stuckTime = 0 ∨ 5 ≤ c.stuckTime ∧ c.stuckTime ≤ 600 := by split at h9 <;> omega
    exact ⟨by omega, by omega, ⟨by omega, by omega, hr⟩, by omega, by omega, hs, by omega, by omega,
      by omega⟩
  · exact h.elim

theorem ChordSettingsOk.of_taken {fs : List Int} {c : ChordSettings} (h : ChordTaken fs c) :
    ChordSettingsOk c := by
  unfold ChordTaken at h
  split at h
  · obtain ⟨-, hd, h1, h4, hk, hh⟩ := h
    have bh := mem_of_eq_limited (by decide) hh
    exact ⟨⟨hd, h1, h4, hk⟩, by omega⟩
  · exact h.elim

theorem TriggerSettingsOk.of_taken {fs : List Int} {c : TriggerSettings} (h : TriggerTaken fs c) :
    TriggerSettingsOk c := by
  unfold TriggerTaken at h
  split at h
  · obtain ⟨⟨h1, h2⟩, -, -, h3, h4, h5, -, h6, -⟩ := h
    have b3 := mem_of_eq_limited (by decide) h3
    have b4 := mem_of_eq_limited (by decide) h4
    have b5 := mem_of_eq_limited (by decide) h5
    have b6 := mem_of_eq_limited (by decide) h6
    exact ⟨by omega, by omega, by omega, by omega⟩
  · exact h.elim

/-- Enables for ids 30 and 31 of what is taken are clear (R171). -/
theorem report_masked_of_taken {fs : List Int} {c : Word32} (h : ReportTaken fs c) :
    c &&& 0x3FFFFFFF#32 = c := by
  unfold ReportTaken at h
  split at h
  · refine BitVec.eq_of_getLsbD_eq fun i hi => ?_
    rw [BitVec.getLsbD_and, reportMask_getLsbD i hi, h i hi]
    cases decide (i < 30) <;> simp
  · exact h.elim

/-! ### Settings in range are taken as they stand -/

theorem zoneOf_fields {c : ZoneSettings} (h : ZoneSettingsOk c) : zoneOf c.fields = some c := by
  obtain ⟨⟨⟨_, _⟩, ⟨_, _⟩, _, _⟩, _, ⟨⟨_, _⟩, ⟨_, _⟩, _⟩, _, ⟨⟨_, _⟩, _⟩, ⟨_, _⟩, _⟩ := h
  simp (disch := omega) only [zoneOf_eq_some_iff, ZoneTaken, ZoneSettings.fields, yesNo_iff, limitedTemp,
    limited_of_mem, if_neg, and_self]

theorem heaterOf_fields {c : HeaterSettings} (h : HeaterSettingsOk c) : heaterOf c.fields = some c := by
  obtain ⟨_, _, _, _⟩ := h
  simp (disch := omega) only [heaterOf_eq_some_iff, HeaterTaken, HeaterSettings.fields, yesNo_iff,
    limited_of_mem, if_neg, and_self]

theorem budgetOf_fields {b : BudgetSettings} {f : FanSettings} (h : ClimateSettingsOk b f) :
    budgetOf b.fields = some b := by
  obtain ⟨_, _, -, -, -, -⟩ := h
  simp (disch := omega) only [budgetOf_eq_some_iff, BudgetTaken, BudgetSettings.fields, limited_of_mem,
    and_self]

theorem fanOf_fields {b : BudgetSettings} {f : FanSettings} (h : ClimateSettingsOk b f) :
    fanOf f.fields = some f := by
  obtain ⟨-, -, ⟨tOn, _, tFull, _⟩, _, _, _⟩ := h
  simp (disch := omega) only [fanOf_eq_some_iff, FanTaken, FanSettings.fields, limitedTemp_of_ok tOn,
    limitedTemp_of_ok tFull, limited_of_mem, if_neg, and_self]

theorem watchdogOf_fields {w : WatchdogSettings} {l : LadderSettings} {h : HostPowerSettings}
    (hp : PolicySettingsOk w l h) : watchdogOf w.fields = some w := by
  obtain ⟨ht, _, _, _, _, -, -, -, -, -, -⟩ := hp
  simp (disch := omega) only [watchdogOf_eq_some_iff, WatchdogTaken, WatchdogSettings.fields,
    earlyNamed_iff, stepNamed_iff, limited_of_mem, and_true]
  omega

theorem stepTaken_of_mem {st : LadderStep}
    (h : 1 ≤ st.offTime ∧ st.offTime ≤ 600 ∧ 1 ≤ st.attempts ∧ st.attempts ≤ 7) :
    StepTaken st.action.num st.offTime st.attempts st := by
  simp (disch := omega) only [StepTaken, stepNamed_iff, limited_of_mem, and_self]

theorem ladderOf_fields {w : WatchdogSettings} {l : LadderSettings} {h : HostPowerSettings}
    (hp : PolicySettingsOk w l h) : ladderOf l.fields = some l := by
  have hn := hp.steps
  refine (ladderOf_eq_some_iff _ _).2 ⟨?_, stepTaken_of_mem (hp.step .n0), stepTaken_of_mem (hp.step .n1),
    stepTaken_of_mem (hp.step .n2), stepTaken_of_mem (hp.step .n3)⟩
  rw [limited_of_mem] <;> omega

theorem hostPowerOf_fields {w : WatchdogSettings} {l : LadderSettings} {h : HostPowerSettings}
    (hp : PolicySettingsOk w l h) : hostPowerOf h.fields = some h := by
  obtain ⟨-, -, -, -, -, -, -, _, _, _, _⟩ := hp
  simp (disch := omega) only [hostPowerOf_eq_some_iff, HostPowerTaken, HostPowerSettings.fields, yesNo_iff,
    limited_of_mem, and_self]

theorem keypadOf_fields {c : KeypadSettings} (h : KeypadSettingsOk c) : keypadOf c.fields = some c := by
  obtain ⟨_, _, _, _, _, hs, _, _, _⟩ := h
  simp (disch := omega) only [keypadOf_eq_some_iff, KeypadTaken, KeypadSettings.fields, limited_of_mem,
    if_neg, true_and, and_true]
  omega

theorem keyOf_field (c : Bool) : keyOf [ofBool c] = some c := by
  simp only [keyOf_eq_some_iff, KeyTaken, yesNo_iff]

theorem chordOf_fields {c : ChordSettings} (h : ChordSettingsOk c) : chordOf c.fields = some c := by
  obtain ⟨⟨hd, h1, h4, hk⟩, hh⟩ := h
  simp only [chordOf_eq_some_iff, ChordTaken, ChordSettings.fields]
  refine ⟨?_, hd, h1, h4, hk, ?_⟩
  · rw [← bytes32_toNat]; exact bytes_packKeys c.keys h4 hk
  · rw [limited_of_mem] <;> omega

theorem triggerOf_fields {c : TriggerSettings} (h : TriggerSettingsOk c) :
    triggerOf c.fields = some c := by
  obtain ⟨_, _, _, _⟩ := h
  have hi := c.indexValue.isLt
  have hm := c.indexMask.isLt
  have hc : (c.cls : Int) ≤ 16 := by omega
  simp (disch := omega) only [triggerOf_eq_some_iff, TriggerTaken, TriggerSettings.fields,
    trigActionNamed_iff, yesNo_iff, limited_of_mem, hc, true_and, and_true]
  cases c.armBy <;> rfl

theorem reportOf_field {c : Word32} (h : c &&& 0x3FFFFFFF#32 = c) : reportOf [c.toInt] = some c := by
  simp [reportOf, h]

theorem linkOf_field (c : LineRate) : linkOf [(c.baud : Int)] = some c := by
  cases c <;> rfl
end Sys2Proof.Safety

namespace Sys2Proof.Safety
open Sys2Proof.Machine

/-! ### Settings in range fit the link (R190) -/

theorem onWire_nil : OnWire [] := fun _ h => nomatch h

theorem onWire_cons {x : Int} {xs : List Int} :
    OnWire (x :: xs) ↔ (-2147483648 ≤ x ∧ x ≤ 2147483647) ∧ OnWire xs := by
  simp [OnWire]

theorem ZoneSettingsOk.onWire {c : ZoneSettings} (h : ZoneSettingsOk c) : OnWire c.fields := by
  have := ofBool_mem c.gating
  obtain ⟨⟨⟨_, _⟩, ⟨_, _⟩, _, _⟩, _, ⟨⟨_, _⟩, ⟨_, _⟩, _⟩, _, ⟨⟨_, _⟩, _⟩, ⟨_, _⟩, _⟩ := h
  simp only [ZoneSettings.fields, onWire_cons, onWire_nil, and_true]
  omega

theorem HeaterSettingsOk.onWire {c : HeaterSettings} (h : HeaterSettingsOk c) : OnWire c.fields := by
  have := ofBool_mem c.enabled
  obtain ⟨_, _, _, _⟩ := h
  simp only [HeaterSettings.fields, onWire_cons, onWire_nil, and_true]
  omega

theorem ClimateSettingsOk.onWire_budget {b : BudgetSettings} {f : FanSettings}
    (h : ClimateSettingsOk b f) : OnWire b.fields := by
  obtain ⟨_, _, -, -, -, -⟩ := h
  simp only [BudgetSettings.fields, onWire_cons, onWire_nil, and_true]
  omega

theorem ClimateSettingsOk.onWire_fan {b : BudgetSettings} {f : FanSettings}
    (h : ClimateSettingsOk b f) : OnWire f.fields := by
  obtain ⟨-, -, ⟨⟨_, _⟩, _, ⟨_, _⟩, _⟩, _, _, _⟩ := h
  simp only [FanSettings.fields, onWire_cons, onWire_nil, and_true]
  omega

theorem PolicySettingsOk.onWire_watchdog {w : WatchdogSettings} {l : LadderSettings}
    {p : HostPowerSettings} (h : PolicySettingsOk w l p) : OnWire w.fields := by
  have := w.earlyPolicy.num_mem
  have := w.requestedAction.num_mem
  obtain ⟨_, _, _, _, _, -, -, -, -, -, -⟩ := h
  simp only [WatchdogSettings.fields, onWire_cons, onWire_nil, and_true]
  omega

theorem PolicySettingsOk.onWire_ladder {w : WatchdogSettings} {l : LadderSettings}
    {p : HostPowerSettings} (h : PolicySettingsOk w l p) : OnWire l.fields := by
  have n (i : Four) := (l.steps.get i).action.num_mem
  have n0 := n .n0
  have n1 := n .n1
  have n2 := n .n2
  have n3 := n .n3
  have h0 := h.step .n0
  have h1 := h.step .n1
  have h2 := h.step .n2
  have h3 := h.step .n3
  have hn := h.steps
  simp only [PerFour.get] at n0 n1 n2 n3 h0 h1 h2 h3
  simp only [LadderSettings.fields, PerFour.list, List.map_cons, List.map_nil, List.cons_append,
    List.nil_append, onWire_cons, onWire_nil, and_true]
  omega

theorem PolicySettingsOk.onWire_hostPower {w : WatchdogSettings} {l : LadderSettings}
    {p : HostPowerSettings} (h : PolicySettingsOk w l p) : OnWire p.fields := by
  have := ofBool_mem p.autoStart
  have := ofBool_mem p.lockAtStart
  obtain ⟨-, -, -, -, -, -, -, _, _, _, _⟩ := h
  simp only [HostPowerSettings.fields, onWire_cons, onWire_nil, and_true]
  omega

theorem KeypadSettingsOk.onWire {c : KeypadSettings} (h : KeypadSettingsOk c) : OnWire c.fields := by
  obtain ⟨_, _, _, _, _, _, _, _, _⟩ := h
  simp only [KeypadSettings.fields, onWire_cons, onWire_nil, and_true]
  omega

theorem ChordSettingsOk.onWire {c : ChordSettings} (h : ChordSettingsOk c) : OnWire c.fields := by
  obtain ⟨-, _⟩ := h
  have := packKeys_mem c.keys
  simp only [ChordSettings.fields, onWire_cons, onWire_nil, and_true]
  omega

theorem TriggerSettingsOk.onWire {c : TriggerSettings} (h : TriggerSettingsOk c) : OnWire c.fields := by
  have := c.action.num_mem
  have := ofArmBy_mem c.armBy
  have := ofBool_mem c.rearm
  have := ofBool_mem c.enabled
  have := c.indexValue.isLt
  have := c.indexMask.isLt
  obtain ⟨_, _, _, _⟩ := h
  simp only [TriggerSettings.fields, onWire_cons, onWire_nil, and_true]
  omega

theorem onWire_toInt (w : Word32) : OnWire [w.toInt] := onWire_cons.2 ⟨toInt_mem w, onWire_nil⟩

theorem onWire_baud (c : LineRate) : OnWire [(c.baud : Int)] :=
  onWire_cons.2 ⟨by cases c <;> decide, onWire_nil⟩

/-! ### The factory settings (R196) -/

theorem factory_climate : ClimateSettingsOk Settings.factory.budget Settings.factory.fan := by
  constructor <;> (try unfold TempOk) <;> decide

theorem factory_policy : PolicySettingsOk Settings.factory.watchdog Settings.factory.ladder
    Settings.factory.hostPower := by
  constructor
  case step => intro i; cases i <;> decide
  all_goals decide

/-! ### What is taken is read back as it stands -/

theorem zoneOf_readBack {fs : List Int} {c : ZoneSettings} (h : zoneOf fs = some c) :
    zoneOf c.fields = some c ∧ OnWire c.fields :=
  have ok := ZoneSettingsOk.of_taken ((zoneOf_eq_some_iff fs c).1 h)
  ⟨zoneOf_fields ok, ok.onWire⟩

theorem heaterOf_readBack {fs : List Int} {c : HeaterSettings} (h : heaterOf fs = some c) :
    heaterOf c.fields = some c ∧ OnWire c.fields :=
  have ok := HeaterSettingsOk.of_taken ((heaterOf_eq_some_iff fs c).1 h)
  ⟨heaterOf_fields ok, ok.onWire⟩

theorem budgetOf_readBack {fs : List Int} {c : BudgetSettings} (h : budgetOf fs = some c) :
    budgetOf c.fields = some c ∧ OnWire c.fields :=
  have ok := factory_climate.of_budget ((budgetOf_eq_some_iff fs c).1 h)
  ⟨budgetOf_fields ok, ok.onWire_budget⟩

theorem fanOf_readBack {fs : List Int} {c : FanSettings} (h : fanOf fs = some c) :
    fanOf c.fields = some c ∧ OnWire c.fields :=
  have ok := factory_climate.of_fan ((fanOf_eq_some_iff fs c).1 h)
  ⟨fanOf_fields ok, ok.onWire_fan⟩

theorem watchdogOf_readBack {fs : List Int} {c : WatchdogSettings} (h : watchdogOf fs = some c) :
    watchdogOf c.fields = some c ∧ OnWire c.fields :=
  have ok := factory_policy.of_watchdog ((watchdogOf_eq_some_iff fs c).1 h)
  ⟨watchdogOf_fields ok, ok.onWire_watchdog⟩

theorem ladderOf_readBack {fs : List Int} {c : LadderSettings} (h : ladderOf fs = some c) :
    ladderOf c.fields = some c ∧ OnWire c.fields :=
  have ok := factory_policy.of_ladder ((ladderOf_eq_some_iff fs c).1 h)
  ⟨ladderOf_fields ok, ok.onWire_ladder⟩

theorem hostPowerOf_readBack {fs : List Int} {c : HostPowerSettings} (h : hostPowerOf fs = some c) :
    hostPowerOf c.fields = some c ∧ OnWire c.fields :=
  have ok := factory_policy.of_hostPower ((hostPowerOf_eq_some_iff fs c).1 h)
  ⟨hostPowerOf_fields ok, ok.onWire_hostPower⟩

theorem keypadOf_readBack {fs : List Int} {c : KeypadSettings} (h : keypadOf fs = some c) :
    keypadOf c.fields = some c ∧ OnWire c.fields :=
  have ok := KeypadSettingsOk.of_taken ((keypadOf_eq_some_iff fs c).1 h)
  ⟨keypadOf_fields ok, ok.onWire⟩

theorem chordOf_readBack {fs : List Int} {c : ChordSettings} (h : chordOf fs = some c) :
    chordOf c.fields = some c ∧ OnWire c.fields :=
  have ok := ChordSettingsOk.of_taken ((chordOf_eq_some_iff fs c).1 h)
  ⟨chordOf_fields ok, ok.onWire⟩

theorem triggerOf_readBack {fs : List Int} {c : TriggerSettings} (h : triggerOf fs = some c) :
    triggerOf c.fields = some c ∧ OnWire c.fields :=
  have ok := TriggerSettingsOk.of_taken ((triggerOf_eq_some_iff fs c).1 h)
  ⟨triggerOf_fields ok, ok.onWire⟩

theorem reportOf_readBack {fs : List Int} {c : Word32} (h : reportOf fs = some c) :
    reportOf [c.toInt] = some c ∧ OnWire [c.toInt] :=
  ⟨reportOf_field (report_masked_of_taken ((reportOf_eq_some_iff fs c).1 h)), onWire_toInt c⟩

end Sys2Proof.Safety

namespace Sys2Proof.Proofs
open Sys2Proof.Machine Sys2Proof.Safety

/-- Settles O39: each group's decoder takes exactly the effective settings of its rule; those are in range, and
settings in range are taken as they stand. -/
theorem effectiveSettingsReadBack : Obligations.EffectiveSettingsReadBack :=
  ⟨zoneOf_eq_some_iff, heaterOf_eq_some_iff, budgetOf_eq_some_iff, fanOf_eq_some_iff,
    watchdogOf_eq_some_iff, ladderOf_eq_some_iff, hostPowerOf_eq_some_iff, keypadOf_eq_some_iff,
    keyOf_eq_some_iff, chordOf_eq_some_iff, triggerOf_eq_some_iff, reportOf_eq_some_iff,
    linkOf_eq_some_iff,
    fun _ => zoneOf_fields, fun _ => heaterOf_fields, fun _ _ h => ⟨budgetOf_fields h, fanOf_fields h⟩,
    fun _ _ _ h => ⟨watchdogOf_fields h, ladderOf_fields h, hostPowerOf_fields h⟩,
    fun _ => keypadOf_fields, keyOf_field, fun _ => chordOf_fields, fun _ => triggerOf_fields,
    fun _ => reportOf_field, linkOf_field,
    fun _ _ => zoneOf_readBack, fun _ _ => heaterOf_readBack, fun _ _ => budgetOf_readBack,
    fun _ _ => fanOf_readBack, fun _ _ => watchdogOf_readBack, fun _ _ => ladderOf_readBack,
    fun _ _ => hostPowerOf_readBack, fun _ _ => keypadOf_readBack, fun _ c _ => keyOf_field c,
    fun _ _ => chordOf_readBack, fun _ _ => triggerOf_readBack, fun _ _ => reportOf_readBack,
    fun _ c _ => ⟨linkOf_field c, onWire_baud c⟩⟩

end Sys2Proof.Proofs

namespace Sys2Proof.Machine
open Sys2Proof.Safety

/-! ### Latches and live causes after each operation (R168) -/

@[simp] theorem notify_live_cond (b : NoticeBody) (s : State) (c : Cond) : (notify b s).live c = s.live c := by
  simp [State.live]

@[simp] theorem notify_latched_cond (b : NoticeBody) (s : State) (c : Cond) :
    (notify b s).latched c = s.latched c := by
  simp [State.latched]

theorem raise_live_cond (d c : Cond) (s : State) :
    (raise d s).live c = (s.live c || (d.isLive && decide (d = c))) := by
  unfold State.live
  rw [raise_live]
  cases d.isLive <;> simp [condIn_or, condIn_bit]

theorem raise_live_of_event {d : Cond} (h : d.isLive = false) (c : Cond) (s : State) :
    (raise d s).live c = s.live c := by
  simp [raise_live_cond, h]

theorem raise_latched_of_ne {d c : Cond} (h : d ≠ c) (s : State) : (raise d s).latched c = s.latched c := by
  simp [raise_is_latched, h]

theorem raise_latched_self (c : Cond) (s : State) : (raise c s).latched c = true := by
  simp [raise_is_latched]

theorem raise_latched_mono (d c : Cond) (s : State) (h : s.latched c = true) : (raise d s).latched c = true := by
  simp [raise_is_latched, h]

@[simp] theorem endCause_latched_cond (d c : Cond) (s : State) : (endCause d s).latched c = s.latched c := rfl

@[simp] theorem post_live_cond (e : Event) (s : State) (c : Cond) : (post e s).live c = s.live c := by
  unfold post
  split
  · rfl
  · exact raise_live_of_event rfl c s

theorem post_latched_of_ne (e : Event) (s : State) {c : Cond} (h : c ≠ .eventsLost) :
    (post e s).latched c = s.latched c := by
  unfold post
  split
  · rfl
  · exact raise_latched_of_ne h.symm s

theorem post_latched_mono (e : Event) (s : State) {c : Cond} (h : s.latched c = true) :
    (post e s).latched c = true := by
  unfold post
  split
  · exact h
  · exact raise_latched_mono _ _ _ h

theorem post_inbox_prefix (e : Event) (s : State) : s.tmx.inbox <+: (post e s).tmx.inbox := by
  unfold post
  split
  · exact List.prefix_append _ _
  · rw [raise_tmx]

theorem post_told (e : Event) (s : State) : Told e (post e s) := by
  unfold post Told
  split
  · exact .inl (by simp)
  · exact .inr (raise_latched_self _ s)

/-! ### What an operation tells: the inbox grows, latches are set (R149, R168) -/

/-- Events are added to the inbox, none removed, and latches are set, none cleared. -/
structure Tells (s t : State) : Prop where
  inbox : s.tmx.inbox <+: t.tmx.inbox
  latched : ∀ c : Cond, s.latched c = true → t.latched c = true

theorem Tells.refl (s : State) : Tells s s := ⟨List.prefix_refl _, fun _ h => h⟩

theorem Tells.trans {s t u : State} (h : Tells s t) (k : Tells t u) : Tells s u :=
  ⟨h.inbox.trans k.inbox, fun c hc => k.latched c (h.latched c hc)⟩

/-- What has been told stays told. -/
theorem told_mono {e : Event} {s t : State} (h : Told e s) (k : Tells s t) : Told e t :=
  h.imp (fun m => k.inbox.subset m) (k.latched _)

theorem Tells.post (e : Event) (s : State) : Tells s (post e s) :=
  ⟨post_inbox_prefix e s, fun _ => post_latched_mono e s⟩

theorem Tells.raise (c : Cond) (s : State) : Tells s (raise c s) :=
  ⟨by rw [raise_tmx], fun d => raise_latched_mono c d s⟩

theorem Tells.notify (b : NoticeBody) (s : State) : Tells s (notify b s) :=
  ⟨by rw [notify_tmx], fun c h => by rw [notify_latched_cond, h]⟩

/-! ### Offers -/

theorem offerOpen_lost {r : KeyEvent} {q : Keq} (h : (offerOpen r q).2 = true) : r.kind = .press := by
  unfold offerOpen at h
  split at h
  · assumption
  · split at h
    · simp at h
    · split at h <;> simp at h
  · split at h <;> simp at h

theorem offer_tmx (r : KeyEvent) (s : State) : (offer r s).tmx = s.tmx := by rw [offer_eq]; rfl

@[simp] theorem offer_live_cond (r : KeyEvent) (s : State) (c : Cond) : (offer r s).live c = s.live c := by
  unfold offer
  split
  · dsimp only; split
    · exact raise_live_of_event rfl c _
    · rfl
  · rfl

theorem offer_latched_of_ne (r : KeyEvent) (s : State) {c : Cond} (h : c ≠ .keysLost) :
    (offer r s).latched c = s.latched c := by
  unfold offer
  split
  · dsimp only; split
    · exact raise_latched_of_ne h.symm _
    · rfl
  · rfl

/-- An offer that is no PRESS latches nothing (R140). -/
theorem offer_latched_of_kind {r : KeyEvent} (h : r.kind ≠ .press) (s : State) (c : Cond) :
    (offer r s).latched c = s.latched c := by
  unfold offer
  split
  · dsimp only; split
    · exact absurd (offerOpen_lost ‹_›) h
    · rfl
  · rfl

theorem Tells.offer (r : KeyEvent) (s : State) : Tells s (offer r s) := by
  refine ⟨by rw [offer_tmx], fun c h => ?_⟩
  unfold Machine.offer
  split
  · dsimp only; split
    · exact raise_latched_mono _ _ _ h
    · exact h
  · exact h

theorem Tells.emit (e : Emit) (s : State) : Tells s (emit e s) := by
  cases e with
  | post e => exact Tells.post e s
  | offer r => exact Tells.offer r s
  | raise c => exact Tells.raise c s
  | endCause c => exact ⟨List.prefix_refl _, fun _ h => h⟩
  | notify b => exact Tells.notify b s

/-! ### Lists of what is handed on -/

@[simp] theorem emitAll_nil (s : State) : emitAll [] s = s := rfl

theorem emitAll_cons (e : Emit) (es : List Emit) (s : State) :
    emitAll (e :: es) s = emitAll es (emit e s) := rfl

theorem Tells.emitAll (es : List Emit) (s : State) : Tells s (emitAll es s) := by
  induction es generalizing s with
  | nil => exact Tells.refl s
  | cons e es ih => exact (Tells.emit e s).trans (ih _)

/-- An event handed on has been told (R149). -/
theorem emitAll_told {e : Event} {es : List Emit} (h : Emit.post e ∈ es) (s : State) :
    Told e (emitAll es s) := by
  induction es generalizing s with
  | nil => simp at h
  | cons a es ih =>
    rcases List.mem_cons.1 h with rfl | h
    · exact told_mono (post_told e s) (Tells.emitAll es _)
    · exact ih h _

/-- The live cause of `c` after one thing has been handed on. -/
def causeThen (c : Cond) (b : Bool) : Emit → Bool
  | .raise d => b || (d.isLive && decide (d = c))
  | .endCause d => b && !decide (d = c)
  | .post _ | .offer _ | .notify _ => b

/-- The live cause of `c` after a list has been handed on. -/
def causeAfter (c : Cond) (es : List Emit) (b : Bool) : Bool :=
  es.foldl (causeThen c) b

theorem emit_live_cond (e : Emit) (s : State) (c : Cond) : (emit e s).live c = causeThen c (s.live c) e := by
  cases e with
  | post e => exact post_live_cond e s c
  | offer r => exact offer_live_cond r s c
  | raise d => exact raise_live_cond d c s
  | endCause d => exact endCause_live d c s
  | notify b => exact notify_live_cond b s c

theorem emitAll_live_cond (es : List Emit) (s : State) (c : Cond) :
    (emitAll es s).live c = causeAfter c es (s.live c) := by
  induction es generalizing s with
  | nil => rfl
  | cons e es ih => rw [emitAll_cons, ih, emit_live_cond]; rfl

/-- A cause that is neither raised nor ended stays as it was. -/
theorem causeAfter_of_untouched {c : Cond} {es : List Emit} (hr : Emit.raise c ∉ es)
    (he : Emit.endCause c ∉ es) (b : Bool) : causeAfter c es b = b := by
  induction es generalizing b with
  | nil => rfl
  | cons e es ih =>
    have hc : causeThen c b e = b := by
      cases e with
      | raise d =>
        have hd : d ≠ c := fun h => hr (h ▸ List.mem_cons_self ..)
        simp [causeThen, hd]
      | endCause d =>
        have hd : d ≠ c := fun h => he (h ▸ List.mem_cons_self ..)
        simp [causeThen, hd]
      | _ => rfl
    rw [show causeAfter c (e :: es) b = causeAfter c es (causeThen c b e) from rfl, hc]
    exact ih (fun h => hr (List.mem_cons_of_mem _ h)) (fun h => he (List.mem_cons_of_mem _ h)) b

theorem emit_latched_cond (e : Emit) (s : State) {c : Cond} (h : c ≠ .eventsLost) (h' : c ≠ .keysLost) :
    (emit e s).latched c = (s.latched c || decide (e = .raise c)) := by
  cases e with
  | post e => simpa [emit] using post_latched_of_ne e s h
  | offer r => simpa [emit] using offer_latched_of_ne r s h'
  | raise d => simp [emit, raise_is_latched]
  | endCause d => simp [emit]
  | notify b => simp [emit]

/-- Of the latches that are not set by a full queue, those that are raised are set. -/
theorem emitAll_latched_cond (es : List Emit) (s : State) {c : Cond} (h : c ≠ .eventsLost)
    (h' : c ≠ .keysLost) : (emitAll es s).latched c = (s.latched c || decide (Emit.raise c ∈ es)) := by
  induction es generalizing s with
  | nil => simp
  | cons e es ih =>
    rw [emitAll_cons, ih, emit_latched_cond e s h h']
    simp [Bool.or_assoc, eq_comm]

end Sys2Proof.Machine

namespace Sys2Proof.Machine
open Sys2Proof.Safety

/-! ### What the host operations tell -/

/-- The conditions that the operations of the host supervision latch themselves. -/
def Cond.byHost : Cond → Bool
  | .warmTimeout | .thermalStop | .powerFail | .lockout | .eventsLost => true
  | .sensorFault _ | .heaterFault _ | .supplyLow | .fanStall | .filterClog | .wdExpired | .wdEarly
  | .bootTimeout | .keyStuck | .keysLost | .suppressed | .triggerT _ | .profileDefaulted | .storeFailed
  | .supervisorReset => false

/-- What a host operation does to the inbox, the latches and the live causes: those it does not own stay. -/
structure HostTells (s t : State) : Prop where
  tells : Tells s t
  live : ∀ c : Cond, c ≠ .warmTimeout → c ≠ .lockout → t.live c = s.live c
  latched : ∀ c : Cond, c.byHost = false → t.latched c = s.latched c

theorem HostTells.refl (s : State) : HostTells s s := ⟨Tells.refl s, fun _ _ _ => rfl, fun _ _ => rfl⟩

theorem HostTells.trans {s t u : State} (h : HostTells s t) (k : HostTells t u) : HostTells s u :=
  ⟨h.tells.trans k.tells, fun c hw hl => (k.live c hw hl).trans (h.live c hw hl),
    fun c hc => (k.latched c hc).trans (h.latched c hc)⟩

/-- The closing step of the lemmas below: follow one operation after another. -/
theorem HostTells.step {s t u : State} (k : HostTells t u) (h : HostTells s t) : HostTells s u := h.trans k

theorem HostTells.of_eq {s t : State} (hi : t.tmx.inbox = s.tmx.inbox) (hl : t.cnu.live = s.cnu.live)
    (hk : t.cnu.latched = s.cnu.latched) : HostTells s t :=
  ⟨⟨by rw [hi], fun c h => by simpa [State.latched, hk] using h⟩,
    fun c _ _ => by simp [State.live, hl], fun c _ => by simp [State.latched, hk]⟩

theorem HostTells.setHps (s : State) (x : Hps) : HostTells s (s.setHps x) := .of_eq rfl rfl rfl
theorem HostTells.setWeu (s : State) (x : Weu) : HostTells s (s.setWeu x) := .of_eq rfl rfl rfl
theorem HostTells.setCpt (s : State) (x : Cpt) : HostTells s (s.setCpt x) := .of_eq rfl rfl rfl
theorem HostTells.setKeq (s : State) (x : Keq) : HostTells s (s.setKeq x) := .of_eq rfl rfl rfl
theorem HostTells.setLnk (s : State) (x : Lnk) : HostTells s (s.setLnk x) := .of_eq rfl rfl rfl

theorem HostTells.notify (b : NoticeBody) (s : State) : HostTells s (notify b s) :=
  ⟨Tells.notify b s, fun c _ _ => notify_live_cond b s c, fun c _ => notify_latched_cond b s c⟩

theorem HostTells.post (e : Event) (s : State) : HostTells s (post e s) :=
  ⟨Tells.post e s, fun c _ _ => post_live_cond e s c,
    fun c h => post_latched_of_ne e s (by rintro rfl; simp [Cond.byHost] at h)⟩

theorem HostTells.raise {c : Cond} (h : c.byHost = true) (s : State) : HostTells s (raise c s) :=
  ⟨Tells.raise c s,
    fun d hw hl => by cases c <;> simp_all [raise_live_cond, Cond.isLive, Cond.byHost, eq_comm],
    fun d hd => raise_latched_of_ne (by rintro rfl; simp [h] at hd) s⟩

theorem HostTells.endCause {c : Cond} (h : c = .warmTimeout ∨ c = .lockout) (s : State) :
    HostTells s (endCause c s) :=
  ⟨⟨List.prefix_refl _, fun _ h => h⟩,
    fun d hw hl => by rcases h with rfl | rfl <;> simp [endCause_live, Ne.symm hw, Ne.symm hl],
    fun _ _ => rfl⟩

theorem restartReport_tells (s : State) : HostTells s (restartReport s) := by
  unfold restartReport
  split
  · dsimp only; split
    · exact (HostTells.notify _ _).step (HostTells.setWeu _ _)
    · exact HostTells.setWeu _ _
  · exact HostTells.refl s

theorem reportEntry_tells (new old : HostState) (s : State) : HostTells s (reportEntry new old s) := by
  have hcnu (s : State) : HostTells s (s.setCnu (
      if new = .running ∨ new = .stopping then { s.cnu with seen := new }
      else { s.cnu with seen := new, notices := [], overflow := false })) := by
    split <;> exact .of_eq rfl rfl rfl
  unfold reportEntry
  refine (hcnu _).step ((HostTells.setKeq _ _).step ((HostTells.setCpt _ _).step ?_))
  split
  · exact (restartReport_tells _).step (HostTells.setWeu _ _)
  · exact HostTells.setWeu _ _

theorem leaveCauses_tells (old new : HostState) (s : State) : HostTells s (leaveCauses old new s) := by
  unfold leaveCauses
  have hw (s : State) : HostTells s
      (if old = .qualifying ∧ new ≠ .qualifying then endCause .warmTimeout s else s) := by
    split
    · exact HostTells.endCause (.inl rfl) s
    · exact HostTells.refl s
  have hl (s : State) : HostTells s
      (if old = .lockedOut ∧ new ≠ .lockedOut then endCause .lockout s else s) := by
    split
    · exact HostTells.endCause (.inr rfl) s
    · exact HostTells.refl s
  exact (hl _).step (hw s)

theorem enterState_tells (new : HostState) (stage : Stage) (timer : Option Nat) (s : State) :
    HostTells s (enterState new stage timer s) := by
  unfold enterState
  refine (reportEntry_tells _ _ _).step ((HostTells.post _ _).step ((leaveCauses_tells _ _ _).step ?_))
  dsimp only
  split
  · exact (HostTells.setLnk _ _).step (HostTells.setHps _ _)
  · exact HostTells.setHps _ _

theorem testAdmission_tells (s : State) : HostTells s (testAdmission s) := by
  unfold testAdmission admitHost
  split
  · exact (enterState_tells _ _ _ _).step (HostTells.post _ _)
  · exact HostTells.refl s

theorem enterQualifying_tells (s : State) : HostTells s (enterQualifying s) := by
  have h0 : HostTells s (startWarmUp s) := by unfold startWarmUp; split <;> exact .of_eq rfl rfl rfl
  have h : HostTells s (enterState .qualifying .noStage none (startWarmUp s)) :=
    (enterState_tells _ _ _ _).step h0
  unfold enterQualifying
  refine (testAdmission_tells _).step ?_
  split
  · exact (HostTells.raise rfl _).step h
  · exact h

theorem beginStop_tells (cause : StopCause) (zone : Option Zone) (d : Destination) (s : State) :
    HostTells s (beginStop cause zone d s) :=
  (HostTells.notify _ _).step ((enterState_tells _ _ _ _).step (HostTells.setHps _ _))

theorem critExcursion_tells (z : Zone) (s : State) : HostTells s (critExcursion z s) := by
  unfold critExcursion
  split
  · exact (beginStop_tells _ _ _ _).step (HostTells.raise rfl _)
  · split
    · exact HostTells.raise rfl _
    · exact (beginStop_tells _ _ _ _).step (HostTells.raise rfl _)
  · split
    · dsimp only
      split
      · exact (HostTells.notify _ _).step ((HostTells.setHps _ _).step
          ((HostTells.raise rfl _).step (HostTells.setHps _ _)))
      · exact (HostTells.raise rfl _).step (HostTells.setHps _ _)
    · exact HostTells.refl s
  · exact (enterQualifying_tells _).step (HostTells.raise rfl _)
  · exact (enterQualifying_tells _).step (HostTells.raise rfl _)
  all_goals exact HostTells.refl s

/-! ### What an entry makes of HPS -/

@[simp] theorem restartReport_hps (s : State) : (restartReport s).hps = s.hps := by
  unfold restartReport
  split
  · dsimp only; split
    · rw [notify_hps]; rfl
    · rfl
  · rfl

@[simp] theorem reportEntry_hps (new old : HostState) (s : State) : (reportEntry new old s).hps = s.hps := by
  unfold reportEntry
  dsimp only
  split
  · exact restartReport_hps _
  · rfl

@[simp] theorem leaveCauses_hps (old new : HostState) (s : State) : (leaveCauses old new s).hps = s.hps := by
  unfold leaveCauses
  dsimp only
  split <;> split <;> rfl

/-- HPS after an entry (R53): the new state, its stage and timer, the state left. -/
@[simp] theorem enterState_hps (new : HostState) (stage : Stage) (timer : Option Nat) (s : State) :
    (enterState new stage timer s).hps =
      { s.hps with
        state := new, prev := s.hps.state, stage := stage, stageTimer := timer
        pendingOn := stage == .pending } := by
  unfold enterState
  dsimp only
  rw [reportEntry_hps, post_hps, leaveCauses_hps]
  split <;> rfl

end Sys2Proof.Machine

namespace Sys2Proof.Machine
open Sys2Proof.Safety

/-! ### Steps and outcomes -/

/-- Where the command answers a next state, that state has the property. -/
def Ends (P : State → Prop) (o : Host.Outcome State Fault Refusal) : Prop := ∀ t, o = .next t → P t

@[simp] theorem ends_next (P : State → Prop) (t : State) : Ends P (.next t) ↔ P t :=
  ⟨fun h => h t rfl, fun h _ e => by cases e; exact h⟩

@[simp] theorem ends_fault (P : State → Prop) (r : Fault) : Ends P (.fault r) ↔ True :=
  ⟨fun _ => trivial, fun _ _ e => nomatch e⟩

/-- A property that the passing of a millisecond keeps, and every command, holds after a step where it did
before it. -/
theorem step_keeps {P : State → Prop} (hpending : ∀ s q, P s → P (s.setPending q))
    (htick : ∀ s, P s → P (tick s)) (hexec : ∀ c s, P s → Ends P (exec c s)) {s t : State} (hs : P s)
    (h : step s = .next t) : P t := by
  unfold step at h
  split at h
  · cases h; exact htick s hs
  · exact hexec _ _ (hpending s _ hs) t h

/-! ### Dispatch (R185) -/

/-- A property that a change of LNK keeps. -/
def LinkFree (P : State → Prop) : Prop := ∀ s x, P s → P (s.setLnk x)

theorem dispatch_keeps {P : State → Prop} (hl : LinkFree P) {owner : State → State}
    (ho : ∀ s, P s → P (owner s)) (r : Request) {s : State} (hs : P s) : P (dispatch r owner s) := by
  unfold dispatch
  split
  · exact ho _ (hl _ _ hs)
  · exact hs

theorem ofLength_keeps {P : State → Prop} (hl : LinkFree P) {owner : State → State}
    (ho : ∀ s, P s → P (owner s)) (n : Nat) (r : Request) (s : State) (hs : P s) :
    P (ofLength n r owner s) := by
  unfold ofLength
  split
  · exact ho _ hs
  · exact hl _ _ hs

/-- A request whose owner keeps the property keeps it, dispatched or not. -/
theorem request_keeps {P : State → Prop} (hl : LinkFree P) {owner : State → State}
    (ho : ∀ s, P s → P (owner s)) (n : Nat) (r : Request) {s : State} (hs : P s) :
    P (dispatch r (ofLength n r owner) s) :=
  dispatch_keeps hl (ofLength_keeps hl ho n r) r hs

/-! ### What leaves the settings and the profile as they are -/

/-- Neither the settings nor the profile differ. -/
structure SettingsKept (s t : State) : Prop where
  settings : t.settings = s.settings
  pst : t.pst = s.pst

theorem SettingsKept.refl (s : State) : SettingsKept s s := ⟨rfl, rfl⟩

theorem SettingsKept.trans {s t u : State} (h : SettingsKept s t) (k : SettingsKept t u) : SettingsKept s u :=
  ⟨k.settings.trans h.settings, k.pst.trans h.pst⟩

/-- The closing step of the lemmas below: follow one operation after another. -/
theorem SettingsKept.step {s t u : State} (k : SettingsKept t u) (h : SettingsKept s t) : SettingsKept s u := h.trans k

theorem SettingsKept.setLnk (s : State) (x : Lnk) : SettingsKept s (s.setLnk x) := ⟨rfl, rfl⟩
theorem SettingsKept.setHsch (s : State) (x : Hsch) : SettingsKept s (s.setHsch x) := ⟨rfl, rfl⟩
theorem SettingsKept.setWeu (s : State) (x : Weu) : SettingsKept s (s.setWeu x) := ⟨rfl, rfl⟩
theorem SettingsKept.setCpt (s : State) (x : Cpt) : SettingsKept s (s.setCpt x) := ⟨rfl, rfl⟩
theorem SettingsKept.setKeq (s : State) (x : Keq) : SettingsKept s (s.setKeq x) := ⟨rfl, rfl⟩
theorem SettingsKept.setTmx (s : State) (x : Tmx) : SettingsKept s (s.setTmx x) := ⟨rfl, rfl⟩
theorem SettingsKept.setCnu (s : State) (x : Cnu) : SettingsKept s (s.setCnu x) := ⟨rfl, rfl⟩
theorem SettingsKept.setAfm (s : State) (x : Afm) : SettingsKept s (s.setAfm x) := ⟨rfl, rfl⟩
theorem SettingsKept.setHps (s : State) (x : Hps) : SettingsKept s (s.setHps x) := ⟨rfl, rfl⟩

theorem SettingsKept.raise (c : Cond) (s : State) : SettingsKept s (raise c s) := ⟨raise_settings c s, raise_pst c s⟩

theorem SettingsKept.post (e : Event) (s : State) : SettingsKept s (post e s) := ⟨post_settings e s, post_pst e s⟩

/-- To keep the settings of `s` is a property that a change of LNK keeps. -/
theorem SettingsKept.linkFree (s : State) : LinkFree (SettingsKept s) := fun t x h => h.trans (SettingsKept.setLnk t x)

/-- A request whose owner keeps the settings keeps them. -/
theorem SettingsKept.dispatch {owner : State → State} (ho : ∀ s, SettingsKept s (owner s)) (r : Request) (s : State) :
    SettingsKept s (dispatch r owner s) :=
  dispatch_keeps (SettingsKept.linkFree s) (fun _ h => h.trans (ho _)) r (SettingsKept.refl s)

theorem SettingsKept.request {owner : State → State} (ho : ∀ s, SettingsKept s (owner s)) (n : Nat) (r : Request)
    (s : State) : SettingsKept s (Machine.dispatch r (ofLength n r owner) s) :=
  request_keeps (SettingsKept.linkFree s) (fun _ h => h.trans (ho _)) n r (SettingsKept.refl s)

theorem SettingsKept.answer (r : Request) (st : Status) (p : List Byte) (s : State) : SettingsKept s (answer r st p s) :=
  SettingsKept.setLnk s _

/-! ### The owners whose requests keep the settings -/

theorem getStatus_settingsKept (r : Request) (s : State) : SettingsKept s (getStatus r s) := by
  unfold getStatus
  split
  · split <;> exact SettingsKept.answer ..
  · exact SettingsKept.answer ..

theorem readGroup_settingsKept (r : Request) (s : State) : SettingsKept s (readGroup r s) := by
  unfold readGroup
  split
  · split <;> exact SettingsKept.answer ..
  · exact SettingsKept.answer ..

theorem readTrace_settingsKept (r : Request) (s : State) : SettingsKept s (readTrace r s) := by
  unfold readTrace
  split
  · split <;> exact SettingsKept.answer ..
  · exact SettingsKept.answer ..

theorem readRestart_settingsKept (r : Request) (s : State) : SettingsKept s (readRestart r s) := by
  unfold readRestart
  split
  · split
    · exact SettingsKept.answer ..
    · split <;> exact SettingsKept.answer ..
  · exact SettingsKept.answer ..

theorem takeCode_settingsKept (code : Word16) (s : State) : SettingsKept s (takeCode code s).1 :=
  (SettingsKept.post _ _).step (SettingsKept.setCpt _ _)

theorem takeCheckpoint_settingsKept (r : Request) (s : State) : SettingsKept s (takeCheckpoint r s) := by
  unfold takeCheckpoint
  split
  · split
    · exact SettingsKept.answer ..
    · split
      · exact SettingsKept.answer ..
      · exact (SettingsKept.answer ..).step (takeCode_settingsKept _ _)
  · exact SettingsKept.answer ..

theorem clearHeater_settingsKept (set : Word32) (h : Heater) (s : State) : SettingsKept s (clearHeater set h s) := by
  unfold clearHeater
  split
  · exact (SettingsKept.setHsch _ _).step (SettingsKept.setCnu s _)
  · exact SettingsKept.refl s

theorem acknowledge_settingsKept (set : Word32) (s : State) : SettingsKept s (acknowledge set s) :=
  (clearHeater_settingsKept _ _ _).step ((clearHeater_settingsKept _ _ _).step ((clearHeater_settingsKept _ _ _).step
    (SettingsKept.setCnu s _)))

theorem ackConditions_settingsKept (r : Request) (s : State) : SettingsKept s (ackConditions r s) := by
  unfold ackConditions
  split
  · exact (SettingsKept.answer ..).step (acknowledge_settingsKept _ _)
  · exact SettingsKept.answer ..

theorem requestStop_settingsKept (r : Request) (s : State) : SettingsKept s (requestStop r s) := by
  unfold requestStop
  split
  · split
    · exact SettingsKept.answer ..
    · exact SettingsKept.answer ..
    · split
      · exact SettingsKept.answer ..
      · exact (SettingsKept.setLnk _ _).step (SettingsKept.setHps s _)
  · exact SettingsKept.answer ..

theorem fetchNotices_settingsKept (r : Request) (s : State) : SettingsKept s (fetchNotices r s) :=
  (SettingsKept.answer ..).step
    (SettingsKept.setCnu s { s.cnu with notices := s.cnu.notices.drop 4, overflow := false })

theorem filterServiced_settingsKept (r : Request) (s : State) : SettingsKept s (filterServiced r s) := by
  unfold filterServiced
  split
  · exact (SettingsKept.answer ..).step (SettingsKept.setAfm s _)
  · exact SettingsKept.answer ..

/-! ### The other commands that keep the settings -/

theorem raiseHeater_settingsKept (h : Heater) (k : FaultKind) (s : State) : SettingsKept s (raiseHeater h k s) :=
  (SettingsKept.setCnu _ { (raise (.heaterFault h) s).cnu with
    kinds := (raise (.heaterFault h) s).cnu.kinds.set h k }).step (SettingsKept.raise _ s)

theorem heaterFaults_settingsKept (h : Heater) (k : FaultKind) (s : State) : SettingsKept s (heaterFaults h k s) :=
  (SettingsKept.post _ _).step ((raiseHeater_settingsKept _ _ _).step (SettingsKept.setHsch s _))

theorem readHeater_settingsKept (x : Int) (h : Heater) (s : State) : SettingsKept s (readHeater x h s) := by
  unfold readHeater
  dsimp only
  split
  · split
    · exact (heaterFaults_settingsKept _ _ _).step (SettingsKept.setHsch s _)
    · split
      · exact (heaterFaults_settingsKept _ _ _).step (SettingsKept.setHsch s _)
      · exact SettingsKept.setHsch s _
  · exact SettingsKept.refl s

theorem nextSlot_settingsKept (s : State) : SettingsKept s (nextSlot s) := by
  unfold nextSlot
  dsimp only
  split <;> exact SettingsKept.setHsch s _

theorem endSlot_settingsKept (current : PerThree Int) (order : List Heater) (s : State) :
    SettingsKept s (endSlot current order s) := by
  refine (nextSlot_settingsKept _).step ?_
  induction order generalizing s with
  | nil => exact SettingsKept.refl s
  | cons h rest ih => exact (readHeater_settingsKept _ _ s).trans (ih _)

theorem endReset_settingsKept (cause : ResetCause) (s : State) : SettingsKept s (endReset cause s) :=
  (SettingsKept.raise _ _).step ⟨rfl, rfl⟩

/-- The commands that leave the settings and the profile as they are, whatever the state; the other commands that do
(all of the host's) keep them by `HostReach`. -/
def keepsSettings : Instr → Bool
  | .rstNRelease | .frameReceived _ | .frameGapTimeout | .linkReset | .badKind _ _ _ | .ping _ _
  | .getStatus _ _ | .getConditions _ _ | .ackConditions _ _ | .fetchNotices _ _ | .readKeys _ _
  | .checkpoint _ _ | .readTrace _ _ | .thawTrace _ _ | .readRestart _ _ | .requestStop _ _
  | .commitPolicy _ _ | .readSettings _ _ | .filterServiced _ _ | .slotEnd _ _ | .hostPwrGoodRise
  | .drainTimeout | .leadComputation | .preheatBegin | .stableTime | .armWindowExpiry _ | .svcTimerExpiry
  | .rxdHighAgain => true
  | .powerOnReset | .rstNAssert | .replySent | .kick _ _ | .requestRestart _ _ | .writeZone _ _
  | .writeHeater _ _ | .writeBudget _ _ | .writeFan _ _ | .writeWatchdog _ _ | .writeLadder _ _
  | .writeHostPower _ _ | .writeKeypad _ _ | .writeKey _ _ | .writeChord _ _ | .writeTrigger _ _
  | .writeReport _ _ | .writeLink _ _ | .storeProfile _ _ | .storeComplete _ | .revertProfile _ _
  | .factorySettings _ _ | .triggerControlEnable _ _ | .triggerControlDisable _ _
  | .triggerControlRearm _ _ | .supervisorReset _ _ _ | .sampleRound _ _ _ | .climateBoundary _
  | .fanMeasurement _ _ | .hostPwrGoodFall | .powerGoodTimeout | .resetHoldExpiry | .resettingExpiry
  | .offTimeExpiry | .lockoutRetryExpiry | .graceExpiry | .stopDelayExpiry | .wakeTime | .warmTimeout
  | .bootTimeout | .wdExpired | .keyScan _ | .eventTake => false

theorem SettingsKept.ite {p : Prop} [Decidable p] {s t : State} (h : p → SettingsKept s t) :
    SettingsKept s (if p then t else s) := by
  split
  · exact h ‹_›
  · exact SettingsKept.refl s

theorem exec_settingsKept {c : Instr} (hq : keepsSettings c = true) (s : State) : Ends (SettingsKept s) (exec c s) := by
  cases c with
  | rstNRelease => exact (ends_next _ _).2 (SettingsKept.ite fun _ => endReset_settingsKept _ _)
  | frameReceived bytes => exact (ends_next _ _).2 (SettingsKept.ite fun _ => SettingsKept.setLnk _ _)
  | frameGapTimeout => exact (ends_next _ _).2 (SettingsKept.setLnk _ _)
  | linkReset => exact (ends_next _ _).2 (SettingsKept.ite fun _ => SettingsKept.setLnk _ _)
  | rxdHighAgain => exact (ends_next _ _).2 (SettingsKept.setLnk _ _)
  | badKind kind tag p =>
    simp only [exec, execBadKind]
    split
    · simp
    · exact (ends_next _ _).2 (SettingsKept.dispatch (fun _ => SettingsKept.answer ..) _ _)
  | ping tag p => exact (ends_next _ _).2 (SettingsKept.request (fun _ => SettingsKept.answer ..) _ _ _)
  | getStatus tag p => exact (ends_next _ _).2 (SettingsKept.dispatch (getStatus_settingsKept _) _ _)
  | getConditions tag p => exact (ends_next _ _).2 (SettingsKept.request (fun _ => SettingsKept.answer ..) _ _ _)
  | ackConditions tag p => exact (ends_next _ _).2 (SettingsKept.dispatch (ackConditions_settingsKept _) _ _)
  | fetchNotices tag p =>
    exact (ends_next _ _).2 (SettingsKept.request (fetchNotices_settingsKept _) _ _ _)
  | readKeys tag p =>
    exact (ends_next _ _).2 (SettingsKept.request (fun s => (SettingsKept.answer ..).step (SettingsKept.setKeq s _)) _ _ _)
  | checkpoint tag p => exact (ends_next _ _).2 (SettingsKept.dispatch (takeCheckpoint_settingsKept _) _ _)
  | readTrace tag p => exact (ends_next _ _).2 (SettingsKept.dispatch (readTrace_settingsKept _) _ _)
  | thawTrace tag p =>
    exact (ends_next _ _).2 (SettingsKept.request (fun s => (SettingsKept.answer ..).step (SettingsKept.setCpt s _)) _ _ _)
  | readRestart tag p => exact (ends_next _ _).2 (SettingsKept.dispatch (readRestart_settingsKept _) _ _)
  | requestStop tag p => exact (ends_next _ _).2 (SettingsKept.dispatch (requestStop_settingsKept _) _ _)
  | commitPolicy tag p =>
    exact (ends_next _ _).2 (SettingsKept.request (fun s => (SettingsKept.answer ..).step (SettingsKept.setWeu s _)) _ _ _)
  | readSettings tag p => exact (ends_next _ _).2 (SettingsKept.dispatch (readGroup_settingsKept _) _ _)
  | filterServiced tag p => exact (ends_next _ _).2 (SettingsKept.request (filterServiced_settingsKept _) _ _ _)
  | slotEnd current order =>
    simp only [exec, execSlotEnd]
    split
    · exact (ends_next _ _).2 (SettingsKept.ite fun _ => endSlot_settingsKept _ _ _)
    · simp
  | hostPwrGoodRise =>
    exact (ends_next _ _).2 (SettingsKept.step (SettingsKept.ite fun _ => SettingsKept.setHps _ _)
      (⟨rfl, rfl⟩ : SettingsKept s (s.setPowerGood true)))
  | drainTimeout => exact (ends_next _ _).2 (SettingsKept.ite fun _ => SettingsKept.setHps _ _)
  | leadComputation => exact (ends_next _ _).2 (SettingsKept.ite fun _ => SettingsKept.setHps _ _)
  | preheatBegin => exact (ends_next _ _).2 (SettingsKept.ite fun _ => SettingsKept.setHps _ _)
  | stableTime =>
    exact (ends_next _ _).2 (SettingsKept.ite fun _ => (SettingsKept.setWeu _ _).step (SettingsKept.setWeu _ _))
  | armWindowExpiry u => exact (ends_next _ _).2 (SettingsKept.ite fun _ => SettingsKept.setTmx _ _)
  | svcTimerExpiry =>
    exact (ends_next _ _).2 (SettingsKept.ite fun _ => SettingsKept.setCnu s { s.cnu with svcTimer := none })
  | _ => cases hq

end Sys2Proof.Machine

namespace Sys2Proof.Machine
open Sys2Proof.Safety

/-! ### Arming relations (R159) -/

/-- One arm_by link followed. -/
def armLink (c : PerSix TriggerSettings) (o : Option TrigUnit) : Option TrigUnit :=
  o.bind fun u => (c.get u).armBy

theorem armLink_iterate_none (c : PerSix TriggerSettings) (n : Nat) : (armLink c)^[n] none = none :=
  Function.iterate_fixed rfl n

/-- The chain comes to `target` where some number of links leads there. -/
theorem reaches_iff (fuel : Nat) (c : PerSix TriggerSettings) (target u : TrigUnit) :
    reaches fuel c target u = true ↔ ∃ n < fuel, (armLink c)^[n + 1] (some u) = some target := by
  induction fuel generalizing u with
  | zero => simp [reaches]
  | succ fuel ih =>
    have hl : armLink c (some u) = (c.get u).armBy := rfl
    simp only [Function.iterate_succ_apply] at ih ⊢
    unfold reaches
    cases ha : (c.get u).armBy with
    | none => simp [hl, ha, armLink_iterate_none]
    | some a =>
      rw [hl, ha]
      simp only [Bool.or_eq_true, beq_iff_eq, ih]
      constructor
      · rintro (rfl | ⟨n, hn, h⟩)
        · exact ⟨0, by omega, rfl⟩
        · exact ⟨n + 1, by omega, by rw [Function.iterate_succ_apply]; exact h⟩
      · rintro ⟨n, hn, h⟩
        cases n with
        | zero => exact .inl (Option.some.inj h)
        | succ n => exact .inr ⟨n, by omega, by rw [Function.iterate_succ_apply] at h; exact h⟩

/-- A unit that is written without closing a cycle through itself closes none through another: a cycle either
passes through the unit, or was there before (R159). -/
theorem armingCycle_set {c : PerSix TriggerSettings} {u : TrigUnit} {t : TriggerSettings}
    (hc : ∀ v, armingCycle c v = false) (hu : armingCycle (c.set u t) u = false) (v : TrigUnit) :
    armingCycle (c.set u t) v = false := by
  by_contra hv
  obtain ⟨n, hn, hcyc⟩ := (reaches_iff ..).1 (Bool.eq_true_of_not_eq_false hv)
  by_cases hpass : ∃ j ≤ n, (armLink (c.set u t))^[j] (some v) = some u
  · obtain ⟨j, -, hj⟩ := hpass
    have hback : (armLink (c.set u t))^[n + 1] (some u) = some u := by
      rw [← hj, ← Function.iterate_add_apply, Nat.add_comm, Function.iterate_add_apply, hcyc]
    simp [armingCycle, (reaches_iff ..).2 ⟨n, hn, hback⟩] at hu
  · have hsame : ∀ j ≤ n + 1, (armLink (c.set u t))^[j] (some v) = (armLink c)^[j] (some v) := by
      intro j
      induction j with
      | zero => exact fun _ => rfl
      | succ j ih =>
        intro hj
        have hne : (armLink c)^[j] (some v) ≠ some u := fun h =>
          hpass ⟨j, by omega, (ih (by omega)).trans h⟩
        rw [Function.iterate_succ_apply', Function.iterate_succ_apply', ih (by omega)]
        cases hw : (armLink c)^[j] (some v) with
        | none => rfl
        | some w =>
          have : u ≠ w := fun h => hne (hw.trans (congrArg some h.symm))
          simp [armLink, PerSix.get_set, this]
    have := hc v
    simp [armingCycle, (reaches_iff ..).2 ⟨n, hn, (hsame _ le_rfl).symm.trans hcyc⟩] at this

/-- Only the arm_by fields decide of a cycle. -/
theorem armingCycle_congr {c d : PerSix TriggerSettings} (h : ∀ u, (c.get u).armBy = (d.get u).armBy)
    (u : TrigUnit) : armingCycle c u = armingCycle d u := by
  have hr : ∀ fuel target v, reaches fuel c target v = reaches fuel d target v := by
    intro fuel
    induction fuel with
    | zero => intros; rfl
    | succ fuel ih => intro target v; simp only [reaches, h, ih]
  exact hr 7 u u

/-! ### What the owners make of the settings -/

/-- Of the profile nothing differs, and of the settings only what `c` says. -/
def TakesSettings (c : Settings) (s t : State) : Prop := t.settings = c ∧ t.pst = s.pst

theorem takeZone_takes (z : Zone) (c : ZoneSettings) (s : State) :
    TakesSettings { s.settings with zone := s.settings.zone.set z c } s (takeZone z c s) := by
  unfold takeZone
  dsimp only
  split <;> exact ⟨rfl, rfl⟩

theorem takeHeater_takes (i : Heater) (c : HeaterSettings) (s : State) :
    TakesSettings { s.settings with heater := s.settings.heater.set i c } s (takeHeater i c s) := ⟨rfl, rfl⟩

theorem takeKey_takes (k : Nat) (rep : Bool) (s : State) :
    TakesSettings { s.settings with keyRepeat := s.settings.keyRepeat.set k rep } s (takeKey k rep s) :=
  ⟨rfl, rfl⟩

theorem takeChord_takes (i : Chord) (c : ChordSettings) (s : State) :
    TakesSettings { s.settings with chord := s.settings.chord.set i c } s (takeChord i c s) := ⟨rfl, rfl⟩

theorem takeTrigger_takes (u : TrigUnit) (c : TriggerSettings) (s : State) :
    TakesSettings { s.settings with trigger := s.settings.trigger.set u c } s (takeTrigger u c s) :=
  ⟨rfl, rfl⟩

theorem putUnit_takes (u : TrigUnit) (b : Bool) (r : UnitRec) (s : State) :
    TakesSettings
      { s.settings with trigger := s.settings.trigger.set u { s.settings.trigger.get u with enabled := b } }
      s (putUnit u b r s) := ⟨rfl, rfl⟩

theorem takeFan_takes (c : FanSettings) (s : State) :
    TakesSettings { s.settings with fan := c } s (takeFan c s) := by
  unfold takeFan abortLearn
  split
  · exact ⟨rfl, rfl⟩
  · exact ⟨notify_settings _ _, notify_pst _ _⟩

theorem takeKeypad_takes (c : KeypadSettings) (s : State) :
    TakesSettings { s.settings with keypad := c } s (takeKeypad c s) :=
  ⟨emitAll_settings _ _, emitAll_pst _ _⟩

end Sys2Proof.Machine

namespace Sys2Proof.Safety
open Sys2Proof.Machine

/-! ### Settings in range stay in range -/

theorem AllSettingsOk.of_takes {s t : State} {c : Settings} (h : AllSettingsOk s) (ht : TakesSettings c s t)
    (hc : SettingsOk c) : AllSettingsOk t :=
  ⟨ht.1 ▸ hc, ht.2 ▸ h.image, ht.2 ▸ h.snapshot⟩

theorem AllSettingsOk.of_same {s t : State} (h : AllSettingsOk s) (hs : t.settings = s.settings)
    (hp : t.pst = s.pst) : AllSettingsOk t :=
  h.of_takes ⟨hs, hp⟩ h.working

theorem AllSettingsOk.of_settingsKept {s t : State} (h : AllSettingsOk s) (hq : SettingsKept s t) : AllSettingsOk t :=
  h.of_same hq.settings hq.pst

theorem AllSettingsOk.of_reach {s t : State} (h : AllSettingsOk s) (hr : HostReach s t) : AllSettingsOk t :=
  h.of_same hr.kept.settings hr.kept.pst

theorem AllSettingsOk.linkFree : LinkFree AllSettingsOk := fun _ _ h => h.of_same rfl rfl

theorem takeZone_settingsOk {s : State} {c : ZoneSettings} (h : AllSettingsOk s) (hc : ZoneSettingsOk c)
    (z : Zone) : AllSettingsOk (takeZone z c s) :=
  h.of_takes (takeZone_takes z c s)
    { h.working with zone := fun i => by rw [PerFour.get_set]; split; exacts [hc, h.working.zone i] }

theorem takeHeater_settingsOk {s : State} {c : HeaterSettings} (h : AllSettingsOk s)
    (hc : HeaterSettingsOk c) (i : Heater) : AllSettingsOk (takeHeater i c s) :=
  h.of_takes (takeHeater_takes i c s)
    { h.working with heater := fun j => by rw [PerThree.get_set]; split; exacts [hc, h.working.heater j] }

theorem takeBudget_settingsOk {s : State} {c : BudgetSettings} (h : AllSettingsOk s)
    (hc : ClimateSettingsOk c s.settings.fan) : AllSettingsOk (takeBudget c s) :=
  h.of_takes ⟨rfl, rfl⟩ { h.working with climate := hc }

theorem takeFan_settingsOk {s : State} {c : FanSettings} (h : AllSettingsOk s)
    (hc : ClimateSettingsOk s.settings.budget c) : AllSettingsOk (takeFan c s) :=
  h.of_takes (takeFan_takes c s) { h.working with climate := hc }

theorem takeWatchdog_settingsOk {s : State} {c : WatchdogSettings} (h : AllSettingsOk s)
    (hc : PolicySettingsOk c s.settings.ladder s.settings.hostPower) : AllSettingsOk (takeWatchdog c s) :=
  h.of_takes ⟨rfl, rfl⟩ { h.working with policy := hc }

theorem takeLadder_settingsOk {s : State} {c : LadderSettings} (h : AllSettingsOk s)
    (hc : PolicySettingsOk s.settings.watchdog c s.settings.hostPower) : AllSettingsOk (takeLadder c s) :=
  h.of_takes ⟨rfl, rfl⟩ { h.working with policy := hc }

theorem takeHostPower_settingsOk {s : State} {c : HostPowerSettings} (h : AllSettingsOk s)
    (hc : PolicySettingsOk s.settings.watchdog s.settings.ladder c) : AllSettingsOk (takeHostPower c s) :=
  h.of_takes ⟨rfl, rfl⟩ { h.working with policy := hc }

theorem takeKeypad_settingsOk {s : State} {c : KeypadSettings} (h : AllSettingsOk s)
    (hc : KeypadSettingsOk c) : AllSettingsOk (takeKeypad c s) :=
  h.of_takes (takeKeypad_takes c s) { h.working with keypad := hc }

theorem takeKey_settingsOk {s : State} (h : AllSettingsOk s) (k : Nat) (rep : Bool) :
    AllSettingsOk (takeKey k rep s) :=
  h.of_takes (takeKey_takes k rep s)
    { h.working with keyRepeat := by rw [List.length_set]; exact h.working.keyRepeat }

theorem takeChord_settingsOk {s : State} {c : ChordSettings} (h : AllSettingsOk s) (hc : ChordSettingsOk c)
    (i : Chord) : AllSettingsOk (takeChord i c s) :=
  h.of_takes (takeChord_takes i c s)
    { h.working with chord := fun j => by rw [PerSix.get_set]; split; exacts [hc, h.working.chord j] }

theorem takeTrigger_settingsOk {s : State} {c : TriggerSettings} {u : TrigUnit} (h : AllSettingsOk s)
    (hc : TriggerSettingsOk c) (ha : armingCycle (s.settings.trigger.set u c) u = false) :
    AllSettingsOk (takeTrigger u c s) :=
  h.of_takes (takeTrigger_takes u c s)
    { h.working with
      trigger := fun v => by rw [PerSix.get_set]; split; exacts [hc, h.working.trigger v]
      arming := armingCycle_set h.working.arming ha }

theorem takeTriggers_settingsOk {s : State} {c : PerSix TriggerSettings} (h : AllSettingsOk s)
    (hc : ∀ u, TriggerSettingsOk (c.get u)) (ha : ∀ u, armingCycle c u = false) :
    AllSettingsOk (takeTriggers c s) :=
  h.of_takes ⟨rfl, rfl⟩ { h.working with trigger := hc, arming := ha }

theorem takeReport_settingsOk {s : State} {c : Word32} (h : AllSettingsOk s)
    (hc : c &&& 0x3FFFFFFF#32 = c) : AllSettingsOk (takeReport c s) :=
  h.of_takes ⟨rfl, rfl⟩ { h.working with report := hc }

theorem takeLink_settingsOk {s : State} (h : AllSettingsOk s) (c : LineRate) :
    AllSettingsOk (takeLink c s) :=
  h.of_takes ⟨rfl, rfl⟩ { h.working with }

/-- A unit's enabled field is no matter of ranges nor of arming (R163). -/
theorem putUnit_settingsOk {s : State} (h : AllSettingsOk s) (u : TrigUnit) (b : Bool) (r : UnitRec) :
    AllSettingsOk (putUnit u b r s) := by
  refine h.of_takes (putUnit_takes u b r s) { h.working with trigger := fun v => ?_, arming := fun v => ?_ }
  · rw [PerSix.get_set]
    split
    · obtain ⟨h1, h2, h3, h4⟩ := h.working.trigger u; exact ⟨h1, h2, h3, h4⟩
    · exact h.working.trigger v
  · rw [armingCycle_congr (d := s.settings.trigger) (fun w => ?_)]
    · exact h.working.arming v
    · rw [PerSix.get_set]; split
      · subst_vars; rfl
      · rfl

end Sys2Proof.Safety

namespace Sys2Proof.Machine
open Sys2Proof.Safety

/-! ### Settings writes -/

/-- A write whose owner keeps a property keeps it, whatever the answer. -/
theorem writeGroup_keeps {P : State → Prop} (hl : LinkFree P)
    {write : Nat → List Int → State → Option State}
    (hw : ∀ i fs s t, P s → write i fs s = some t → P t) (g : Nat) (after : AfterReply) (r : Request)
    (s : State) (hs : P s) : P (writeGroup g write after r s) := by
  unfold writeGroup
  split
  · split
    · split
      · exact hl _ _ hs
      · split
        · exact hl _ _ hs
        · split
          · exact hl _ _ hs
          · exact hl _ _ (hw _ _ _ _ hs ‹_›)
    · exact hl _ _ hs
  · exact hl _ _ hs

/-- A WRITE_SETTINGS row, as the commands of all thirteen groups have it. -/
theorem write_keeps {P : State → Prop} (hl : LinkFree P) {write : Nat → List Int → State → Option State}
    (hw : ∀ i fs s t, P s → write i fs s = some t → P t) (g : Nat) (after : AfterReply) (r : Request)
    (wf : Bool) {s : State} (hs : P s) :
    Ends P (if wf then .next (dispatch r (writeGroup g write after r) s) else .fault .illFormed) := by
  split
  · exact (ends_next _ _).2 (dispatch_keeps hl (writeGroup_keeps hl hw g after r) r hs)
  · simp

/-- A TRIGGER_CONTROL whose operation keeps a property keeps it, whatever the answer. -/
theorem triggerControl_keeps {P : State → Prop} (hl : LinkFree P) {op : Nat}
    {change : TrigUnit → State → Option State} (hc : ∀ u s t, P s → change u s = some t → P t)
    (r : Request) (s : State) (hs : P s) : P (triggerControl op change r s) := by
  unfold triggerControl
  split
  · split
    · split
      · split
        · exact hl _ _ (hc _ _ _ hs ‹_›)
        · exact hl _ _ hs
      · exact hl _ _ hs
    · exact hl _ _ hs
  · exact hl _ _ hs

/-- A TRIGGER_CONTROL row. -/
theorem control_keeps {P : State → Prop} (hl : LinkFree P) {op : Nat}
    {change : TrigUnit → State → Option State} (hc : ∀ u s t, P s → change u s = some t → P t)
    (r : Request) (wf : Bool) {s : State} (hs : P s) :
    Ends P (if wf then .next (dispatch r (triggerControl op change r) s) else .fault .illFormed) := by
  split
  · exact (ends_next _ _).2 (dispatch_keeps hl (triggerControl_keeps hl hc r) r hs)
  · simp

/-! ### Fan measurements -/

/-- A fan measurement changes no settings, and of the profile the cell alone (R47). -/
theorem measureFan_settings (pulses : Nat) (cellOk : Bool) (s : State) :
    (measureFan pulses cellOk s).settings = s.settings ∧
      ∃ cell, (measureFan pulses cellOk s).pst = { s.pst with cell := cell } := by
  unfold measureFan
  simp only [emitAll_settings, emitAll_pst]
  split
  · split
    · exact ⟨rfl, _, rfl⟩
    · exact ⟨rfl, s.pst.cell, rfl⟩
  · exact ⟨rfl, s.pst.cell, rfl⟩

/-! ### Two operations of HPS -/

theorem afterReply_keeps (a : AfterReply) {s : State} {P : State → Prop} (hl : LinkFree P)
    (hr : ∀ s t, P s → HostReach s t → P t) (hs : P s) : P (afterReply a s) := by
  cases a with
  | nothing => exact hs
  | applyRate => exact hl _ _ hs
  | endStop =>
    simp only [afterReply]
    split
    · exact hr _ _ hs (endStop_reach s)
    · exact hs

theorem earlyKick_reach (t : Nat) (s : State) : HostReach s (earlyKick t s) :=
  (HostReach.post _ _).step (HostReach.raise _ s)

theorem latchExpiry_reach (s : State) : HostReach s (latchExpiry s) :=
  (HostReach.post _ _).step (HostReach.raise _ s)

theorem handCode_reach (code : Option Word16) (s : State) : HostReach s (handCode code s).1 := by
  unfold handCode
  split
  · exact HostReach.refl s
  · split
    · exact HostReach.refl s
    · exact takeCode_reach _ s

end Sys2Proof.Machine

namespace Sys2Proof.Safety
open Sys2Proof.Machine

/-! ### Groups of several sources -/

theorem PolicySettingsOk.mix {w w' w'' : WatchdogSettings} {l l' l'' : LadderSettings}
    {p p' p'' : HostPowerSettings} (hw : PolicySettingsOk w l' p'') (hl : PolicySettingsOk w' l p')
    (hp : PolicySettingsOk w'' l'' p) : PolicySettingsOk w l p :=
  { timeout := hw.timeout, window := hw.window, boot := hw.boot, stable := hw.stable
    requested := hw.requested, steps := hl.steps, step := hl.step, power := hp.power, stop := hp.stop
    warm := hp.warm, lead := hp.lead }

theorem ClimateSettingsOk.mix {b b' : BudgetSettings} {f f' : FanSettings} (hb : ClimateSettingsOk b f')
    (hf : ClimateSettingsOk b' f) : ClimateSettingsOk b f :=
  { budget := hb.budget, supplyLow := hb.supplyLow, fan := hf.fan, duty := hf.duty, stall := hf.stall
    clog := hf.clog }

theorem factory_zone (z : Zone) : ZoneSettingsOk (Settings.factory.zone.get z) := by
  cases z <;> constructor <;> simp [Settings.factory, PerFour.get, TempOk]

theorem factory_heater (h : Heater) : HeaterSettingsOk (Settings.factory.heater.get h) := by
  cases h <;> constructor <;> decide

theorem factory_chord (i : Chord) : ChordSettingsOk (Settings.factory.chord.get i) := by
  cases i <;> constructor <;> decide

theorem factory_trigger (u : TrigUnit) : TriggerSettingsOk (Settings.factory.trigger.get u) := by
  cases u <;> constructor <;> decide

/-- The factory defaults are in range (R196). -/
theorem factory_settingsOk : SettingsOk Settings.factory where
  zone := factory_zone
  heater := factory_heater
  climate := factory_climate
  policy := factory_policy
  keypad := by constructor <;> decide
  keyRepeat := by decide
  chord := factory_chord
  trigger := factory_trigger
  arming := fun u => by cases u <;> decide
  report := by decide

/-- What a reset loads is in range (R199, R201). -/
theorem AllSettingsOk.source {s : State} (h : AllSettingsOk s) : SettingsOk s.pst.source := by
  unfold Pst.source
  cases hc : s.pst.content? with
  | none => exact factory_settingsOk
  | some c => exact h.image c hc

theorem SettingsOk.keptPolicy {src old : Settings} (h : SettingsOk src) (ho : SettingsOk old) :
    SettingsOk (keptPolicy src old) :=
  { h with policy := ho.policy }

/-! ### Each command -/

/-- Every write that an owner takes leaves the settings in range. -/
theorem writeZone_settingsOk (i : Nat) (fs : List Int) (s t : State) (h : AllSettingsOk s)
    (e : writeZoneFields i fs s = some t) : AllSettingsOk t := by
  unfold writeZoneFields at e
  split at e
  · cases e
    exact takeZone_settingsOk h (.of_taken ((zoneOf_eq_some_iff _ _).1 ‹_›)) _
  · cases e

theorem writeHeater_settingsOk (i : Nat) (fs : List Int) (s t : State) (h : AllSettingsOk s)
    (e : writeHeaterFields i fs s = some t) : AllSettingsOk t := by
  unfold writeHeaterFields at e
  split at e
  · cases e
    exact takeHeater_settingsOk h (.of_taken ((heaterOf_eq_some_iff _ _).1 ‹_›)) _
  · cases e

theorem writeBudget_settingsOk (i : Nat) (fs : List Int) (s t : State) (h : AllSettingsOk s)
    (e : writeBudgetFields i fs s = some t) : AllSettingsOk t := by
  obtain ⟨c, hc, rfl⟩ := Option.map_eq_some_iff.1 e
  exact takeBudget_settingsOk h (h.working.climate.of_budget ((budgetOf_eq_some_iff _ _).1 hc))

theorem writeFan_settingsOk (i : Nat) (fs : List Int) (s t : State) (h : AllSettingsOk s)
    (e : writeFanFields i fs s = some t) : AllSettingsOk t := by
  obtain ⟨c, hc, rfl⟩ := Option.map_eq_some_iff.1 e
  exact takeFan_settingsOk h (h.working.climate.of_fan ((fanOf_eq_some_iff _ _).1 hc))

theorem writeWatchdog_settingsOk (i : Nat) (fs : List Int) (s t : State) (h : AllSettingsOk s)
    (e : writeWatchdogFields i fs s = some t) : AllSettingsOk t := by
  obtain ⟨c, hc, rfl⟩ := Option.map_eq_some_iff.1 e
  exact takeWatchdog_settingsOk h (h.working.policy.of_watchdog ((watchdogOf_eq_some_iff _ _).1 hc))

theorem writeLadder_settingsOk (i : Nat) (fs : List Int) (s t : State) (h : AllSettingsOk s)
    (e : writeLadderFields i fs s = some t) : AllSettingsOk t := by
  obtain ⟨c, hc, rfl⟩ := Option.map_eq_some_iff.1 e
  exact takeLadder_settingsOk h (h.working.policy.of_ladder ((ladderOf_eq_some_iff _ _).1 hc))

theorem writeHostPower_settingsOk (i : Nat) (fs : List Int) (s t : State) (h : AllSettingsOk s)
    (e : writeHostPowerFields i fs s = some t) : AllSettingsOk t := by
  obtain ⟨c, hc, rfl⟩ := Option.map_eq_some_iff.1 e
  exact takeHostPower_settingsOk h (h.working.policy.of_hostPower ((hostPowerOf_eq_some_iff _ _).1 hc))

theorem writeKeypad_settingsOk (i : Nat) (fs : List Int) (s t : State) (h : AllSettingsOk s)
    (e : writeKeypadFields i fs s = some t) : AllSettingsOk t := by
  obtain ⟨c, hc, rfl⟩ := Option.map_eq_some_iff.1 e
  exact takeKeypad_settingsOk h (.of_taken ((keypadOf_eq_some_iff _ _).1 hc))

theorem writeKey_settingsOk (i : Nat) (fs : List Int) (s t : State) (h : AllSettingsOk s)
    (e : writeKeyFields i fs s = some t) : AllSettingsOk t := by
  obtain ⟨c, -, rfl⟩ := Option.map_eq_some_iff.1 e
  exact takeKey_settingsOk h i c

theorem writeChord_settingsOk (i : Nat) (fs : List Int) (s t : State) (h : AllSettingsOk s)
    (e : writeChordFields i fs s = some t) : AllSettingsOk t := by
  unfold writeChordFields at e
  split at e
  · cases e
    exact takeChord_settingsOk h (.of_taken ((chordOf_eq_some_iff _ _).1 ‹_›)) _
  · cases e

theorem writeTrigger_settingsOk (i : Nat) (fs : List Int) (s t : State) (h : AllSettingsOk s)
    (e : writeTriggerFields i fs s = some t) : AllSettingsOk t := by
  unfold writeTriggerFields at e
  split at e
  · split at e
    · cases e
    · cases e
      exact takeTrigger_settingsOk h (.of_taken ((triggerOf_eq_some_iff _ _).1 ‹_›))
        (Bool.eq_false_iff.2 ‹_›)
  · cases e

theorem writeReport_settingsOk (i : Nat) (fs : List Int) (s t : State) (h : AllSettingsOk s)
    (e : writeReportFields i fs s = some t) : AllSettingsOk t := by
  obtain ⟨c, hc, rfl⟩ := Option.map_eq_some_iff.1 e
  exact takeReport_settingsOk h (report_masked_of_taken ((reportOf_eq_some_iff _ _).1 hc))

theorem writeLink_settingsOk (i : Nat) (fs : List Int) (s t : State) (h : AllSettingsOk s)
    (e : writeLinkFields i fs s = some t) : AllSettingsOk t := by
  obtain ⟨c, -, rfl⟩ := Option.map_eq_some_iff.1 e
  exact takeLink_settingsOk h c

/-- A reload from settings in range leaves the settings in range (R198). -/
theorem reload_settingsOk {src : Settings} (hc : SettingsOk src) {s : State} (h : AllSettingsOk s) :
    AllSettingsOk (reload src s) := by
  unfold reload
  dsimp only
  refine takeLink_settingsOk (takeReport_settingsOk (takeTriggers_settingsOk ?_ hc.trigger hc.arming)
    hc.report) _
  refine List.foldlRecOn _ _ ?_ fun t ht i _ => takeChord_settingsOk ht (hc.chord i) i
  refine List.foldlRecOn _ _ (takeKeypad_settingsOk ?_ hc.keypad) fun t ht k _ => takeKey_settingsOk ht _ _
  refine (?_ : ∀ t, AllSettingsOk t → AllSettingsOk (if s.weu.policyLock then t
    else takeHostPower src.hostPower (takeLadder src.ladder (takeWatchdog src.watchdog t)))) _ ?_
  · intro t ht
    split
    · exact ht
    · have hw := takeWatchdog_settingsOk ht (hc.policy.mix ht.working.policy ht.working.policy)
      have hl := takeLadder_settingsOk hw (hw.working.policy.mix hc.policy hw.working.policy)
      exact takeHostPower_settingsOk hl (hl.working.policy.mix hl.working.policy hc.policy)
  · have hz : AllSettingsOk (Four.all.foldl (fun s z => takeZone z (src.zone.get z) s) s) :=
      List.foldlRecOn _ _ h fun t ht z _ => takeZone_settingsOk ht (hc.zone z) z
    have hh := List.foldlRecOn (motive := AllSettingsOk) Three.all
      (fun s h => takeHeater h (src.heater.get h) s) hz fun t ht i _ =>
        takeHeater_settingsOk ht (hc.heater i) i
    have hb := takeBudget_settingsOk hh (hc.climate.mix hh.working.climate)
    exact takeFan_settingsOk hb (hb.working.climate.mix hc.climate)

theorem storeProfile_settingsOk (r : Request) (s : State) (h : AllSettingsOk s) :
    AllSettingsOk (storeProfile r s) := by
  unfold storeProfile
  split
  · exact AllSettingsOk.linkFree _ _ h
  · have hp : AllSettingsOk (s.setPst { s.pst with
        image := none, storing := some ⟨s.settings, Config.storeMs⟩ }) :=
      ⟨h.working, fun c hc => (nomatch hc), fun x hx => by cases hx; exact h.working⟩
    exact AllSettingsOk.linkFree _ _ hp

theorem storeDone_settingsOk (writeOk : Bool) {x : Storing} {s : State} (h : AllSettingsOk s)
    (hx : s.pst.storing = some x) : AllSettingsOk (storeDone writeOk x.snapshot s) := by
  have hput : ∀ i, (∀ c, Pst.content? ⟨i, s.pst.cell, none⟩ = some c → SettingsOk c) →
      AllSettingsOk (s.setPst { s.pst with image := i, storing := none }) := fun i hi =>
    ⟨h.working, hi, fun x hx => by cases hx⟩
  unfold storeDone
  cases writeOk with
  | true =>
    refine (hput _ fun c hc => ?_).of_reach (HostReach.notify _ _)
    rw [if_pos rfl, content_of_stored] at hc
    cases hc
    exact h.snapshot x hx
  | false =>
    exact (hput none fun c hc => by cases hc).of_reach
      ((HostReach.notify _ _).step (HostReach.raise _ _))

theorem revertProfile_settingsOk (r : Request) (s : State) (h : AllSettingsOk s) :
    AllSettingsOk (revertProfile r s) := by
  unfold revertProfile
  split
  · exact AllSettingsOk.linkFree _ _ h
  · split
    · exact AllSettingsOk.linkFree _ _ h
    · exact AllSettingsOk.linkFree _ _ (reload_settingsOk (h.image _ ‹_›) h)

theorem enableUnit_settingsOk (u : TrigUnit) (s t : State) (h : AllSettingsOk s)
    (e : enableUnit u s = some t) : AllSettingsOk t := by
  unfold enableUnit at e
  dsimp only at e
  split at e <;> cases e
  · exact putUnit_settingsOk h _ _ _
  · exact h

theorem disableUnit_settingsOk (u : TrigUnit) (s t : State) (h : AllSettingsOk s)
    (e : disableUnit u s = some t) : AllSettingsOk t := by
  unfold disableUnit at e
  dsimp only at e
  split at e <;> cases e
  · exact h
  · exact putUnit_settingsOk h _ _ _

theorem rearmUnit_settingsOk (u : TrigUnit) (s t : State) (h : AllSettingsOk s)
    (e : rearmUnit u s = some t) : AllSettingsOk t := by
  unfold rearmUnit at e
  dsimp only at e
  split at e <;> cases e
  exact h.of_same rfl rfl

theorem AllSettingsOk.ite {p : Prop} [Decidable p] {s t : State} (ht : AllSettingsOk t)
    (hs : AllSettingsOk s) : AllSettingsOk (if p then t else s) := by
  split
  · exact ht
  · exact hs

theorem startUp_settingsOk {s : State} (h : AllSettingsOk s) : AllSettingsOk (startUp s) := by
  have hdefaulted := (h.of_reach (HostReach.raise .profileDefaulted s)).ite
    (p := s.pst.content?.isNone = true) h
  have hlocked : ∀ t, AllSettingsOk t →
      AllSettingsOk (if t.settings.hostPower.lockAtStart then t.setWeu { t.weu with policyLock := true }
        else t) := fun t ht =>
    AllSettingsOk.ite (ht.of_same rfl rfl) ht
  exact ((hlocked _ hdefaulted).of_reach (enterQualifying_reach _)).ite (hlocked _ hdefaulted)

theorem powerOn_settingsOk {s : State} (h : AllSettingsOk s) : AllSettingsOk (powerOn s) :=
  startUp_settingsOk ⟨h.source, h.image, fun x hx => by cases hx⟩

theorem beginReset_settingsOk {s : State} (h : AllSettingsOk s) : AllSettingsOk (beginReset s) := by
  unfold beginReset
  have hr : ∀ t : State, t.settings = keptPolicy s.pst.source s.settings →
      t.pst = { s.pst with storing := none } → AllSettingsOk t := fun t ht hp =>
    ⟨ht ▸ h.source.keptPolicy h.working, fun c hc => h.image c (by rw [hp] at hc; exact hc),
      fun x hx => by rw [hp] at hx; cases hx⟩
  dsimp only
  split
  · exact (hr _ rfl rfl).of_reach (HostReach.raise _ _)
  · exact hr _ rfl rfl

theorem supervisorReset_settingsOk (rstLow : Bool) (r : Request) (s : State) (h : AllSettingsOk s) :
    AllSettingsOk (supervisorReset rstLow r s) := by
  unfold supervisorReset
  have hb := beginReset_settingsOk (s := s.setLastSent (frame (replyBody r .ok []))) (h.of_same rfl rfl)
  dsimp only
  split
  · exact hb
  · exact hb.of_settingsKept (endReset_settingsKept _ _)

theorem measureFan_settingsOk (pulses : Nat) (cellOk : Bool) {s : State} (h : AllSettingsOk s) :
    AllSettingsOk (measureFan pulses cellOk s) := by
  obtain ⟨hs, cell, hp⟩ := measureFan_settings pulses cellOk s
  exact ⟨hs ▸ h.working, fun c hc => h.image c (by rw [hp] at hc; exact hc),
    fun x hx => h.snapshot x (by rw [hp] at hx; exact hx)⟩

theorem kickAnswer_settingsOk (r : Request) (st : Status) (code : Option Word16) {s : State}
    (h : AllSettingsOk s) : AllSettingsOk (kickAnswer r st code s) :=
  AllSettingsOk.linkFree _ _ (h.of_reach (handCode_reach code s))

theorem judgeKick_settingsOk (r : Request) (code : Option Word16) {s : State} (h : AllSettingsOk s) :
    AllSettingsOk (judgeKick r code s) := by
  unfold judgeKick
  dsimp only
  split
  · split
    · exact kickAnswer_settingsOk r _ code (h.of_same rfl rfl)
    · have he := h.of_reach (earlyKick_reach (s.weu.kickTimer.getD 0) s)
      split
      · exact (kickAnswer_settingsOk r _ code he).of_reach (escalate_reach _ _ _)
      · exact kickAnswer_settingsOk r _ code (he.of_same rfl rfl)
  · exact kickAnswer_settingsOk r _ code h

theorem takeKick_settingsOk (r : Request) (s : State) (h : AllSettingsOk s) :
    AllSettingsOk (takeKick r s) := by
  unfold takeKick
  split
  · exact AllSettingsOk.linkFree _ _ h
  · split
    · exact kickAnswer_settingsOk r _ _ (h.of_reach (enterState_reach _ _ _ s))
    · exact judgeKick_settingsOk r _ h
    · exact judgeKick_settingsOk r _ h
    all_goals exact AllSettingsOk.linkFree _ _ h

theorem requestRestart_settingsOk (r : Request) (s : State) (h : AllSettingsOk s) :
    AllSettingsOk (requestRestart r s) := by
  unfold requestRestart
  split
  · have hw := h.of_reach ((writeRecord_reach .requested none (requestedOrder s.settings.watchdog).action
      (requestedOrder s.settings.watchdog).offTime? .pending _).step (failPending_reach s))
    exact (AllSettingsOk.linkFree _ _ hw).of_reach (perform_reach _ _)
  · exact AllSettingsOk.linkFree _ _ h

/-- HOST_PWR_GOOD_FALL, by host state (R59, R60, R62, R63, R67). -/
theorem execHostPwrGoodFall_settingsOk {s : State} (h : AllSettingsOk s) :
    Ends AllSettingsOk (execHostPwrGoodFall s) := by
  have hs : AllSettingsOk (s.setPowerGood false) := h.of_same rfl rfl
  have hf := hs.of_reach (powerFail_reach _)
  simp only [execHostPwrGoodFall, ends_next]
  split
  · exact hf.ite hs
  · exact hf
  · exact hf
  · exact hs.of_reach ((recordInStop_reach _ _).step ((HostReach.raise _ _).step (endStop_reach _)))
  · exact AllSettingsOk.ite (hs.of_same rfl rfl) hs
  all_goals exact hs

/-- WD_EXPIRED where the kick timer has run out (R82, R83). -/
theorem kickExpired_settingsOk {s : State} (h : AllSettingsOk s) :
    AllSettingsOk (if s.hps.state = .running then escalate .wdExpired none (latchExpiry s)
      else if s.hps.state = .stopping then endStop (recordInStop .thermalStopWd (latchExpiry s)) else s) := by
  have hl := h.of_reach (latchExpiry_reach s)
  exact (hl.of_reach (escalate_reach _ _ _)).ite
    ((hl.of_reach ((endStop_reach _).step (recordInStop_reach _ _))).ite h)

theorem roundTask_settingsOk (old : Zmon) (t : RoundTask) {s : State} (h : AllSettingsOk s) :
    AllSettingsOk (roundTask old t s) := by
  cases t with
  | report => exact h.of_same (emitAll_settings _ _) (emitAll_pst _ _)
  | crit z =>
    simp only [roundTask]
    split
    · exact h.of_reach (critExcursion_reach z s)
    · exact h
  | admission => exact h.of_reach (testAdmission_reach s)
  | keypad => exact h.of_same (emitAll_settings _ _) (emitAll_pst _ _)

theorem takeRound_settingsOk (raw : PerFour Int) (supply : Int) (order : List RoundTask) {s : State}
    (h : AllSettingsOk s) : AllSettingsOk (takeRound raw supply order s) :=
  List.foldlRecOn order _ (h.of_same rfl rfl) fun _ ht task _ => roundTask_settingsOk s.zmon task ht

theorem hpsBoundary_settingsOk {s : State} (h : AllSettingsOk s) : AllSettingsOk (hpsBoundary s) := by
  unfold hpsBoundary
  split
  · split
    · exact h.of_reach (enterQualifying_reach s)
    · split <;> exact h.of_same rfl rfl
  · exact h

theorem takeBoundary_settingsOk (hpsFirst : Bool) {s : State} (h : AllSettingsOk s) :
    AllSettingsOk (takeBoundary hpsFirst s) := by
  have ha : AllSettingsOk (afmBoundary s) := h.of_same rfl rfl
  unfold takeBoundary
  dsimp only
  split
  · exact (hpsBoundary_settingsOk ha).of_same rfl rfl
  · exact hpsBoundary_settingsOk (ha.of_same rfl rfl)

theorem handOver_settingsOk (a : TrigAction) (u : TrigUnit) (e : Event) {s : State} (h : AllSettingsOk s) :
    AllSettingsOk (handOver a u e s) := by
  cases a with
  | notify =>
    have hr := h.of_reach (HostReach.raise (.triggerT u) s)
    simp only [handOver]
    split
    · exact hr.of_reach (HostReach.notify _ _)
    · exact hr
  | freeze =>
    simp only [handOver, freezeTrace]
    split
    · exact h
    · exact h.of_same rfl rfl
  | restart => exact h.of_reach (triggerRestart_reach u s)
  | powerOn => exact h.of_reach (triggerPowerOn_reach s)
  | shutdown => exact h.of_reach (triggerShutdown_reach s)
  | signal => exact h.of_same rfl rfl
  | filterLearn =>
    simp only [handOver]
    split
    · exact h.of_same rfl rfl
    · exact h

theorem completeFiring_settingsOk (a : TrigAction) (e : Event) (u : TrigUnit) {s : State}
    (h : AllSettingsOk s) : AllSettingsOk (completeFiring a e u s) := by
  refine handOver_settingsOk a u e (AllSettingsOk.of_reach ?_ (HostReach.post _ _))
  exact h.of_same rfl rfl

theorem takeEvent_settingsOk (e : Event) {s : State} (h : AllSettingsOk s) :
    AllSettingsOk (takeEvent e s) :=
  List.foldlRecOn _ _ (h.of_same rfl rfl) fun _ ht u _ => completeFiring_settingsOk _ e u ht

theorem takeOldest_settingsOk {s : State} (h : AllSettingsOk s) : AllSettingsOk (takeOldest s) := by
  unfold takeOldest
  split
  · exact h
  · exact takeEvent_settingsOk _ (h.of_same rfl rfl)

theorem tick_settingsOk (s : State) (h : AllSettingsOk s) : AllSettingsOk (tick s) := by
  refine ⟨h.working, h.image, fun x hx => ?_⟩
  obtain ⟨y, hy, rfl⟩ := Option.map_eq_some_iff.1 (hx : (s.pst.storing.map _) = some x)
  exact h.snapshot y hy

/-- Every command keeps the settings in range: those that change or replace them case by case. -/
theorem exec_settingsOk (c : Instr) (s : State) (h : AllSettingsOk s) : Ends AllSettingsOk (exec c s) := by
  by_cases hq : keepsSettings c = true
  · exact fun t e => h.of_settingsKept (exec_settingsKept hq s t e)
  have lf := AllSettingsOk.linkFree
  cases c with
  | powerOnReset => exact (ends_next _ _).2 (powerOn_settingsOk h)
  | rstNAssert => exact (ends_next _ _).2 (h.ite (beginReset_settingsOk h))
  | supervisorReset tag p low => exact (ends_next _ _).2 (request_keeps lf (supervisorReset_settingsOk low _) _ _ h)
  | replySent =>
    simp only [exec, execReplySent, ends_next]
    split
    · exact h
    · exact afterReply_keeps _ lf (fun _ _ => AllSettingsOk.of_reach) (h.of_same rfl rfl)
  | kick tag p => exact (ends_next _ _).2 (dispatch_keeps lf (takeKick_settingsOk _) _ h)
  | requestRestart tag p => exact (ends_next _ _).2 (request_keeps lf (requestRestart_settingsOk _) _ _ h)
  | writeZone tag p => exact write_keeps lf writeZone_settingsOk _ _ _ _ h
  | writeHeater tag p => exact write_keeps lf writeHeater_settingsOk _ _ _ _ h
  | writeBudget tag p => exact write_keeps lf writeBudget_settingsOk _ _ _ _ h
  | writeFan tag p => exact write_keeps lf writeFan_settingsOk _ _ _ _ h
  | writeWatchdog tag p => exact write_keeps lf writeWatchdog_settingsOk _ _ _ _ h
  | writeLadder tag p => exact write_keeps lf writeLadder_settingsOk _ _ _ _ h
  | writeHostPower tag p => exact write_keeps lf writeHostPower_settingsOk _ _ _ _ h
  | writeKeypad tag p => exact write_keeps lf writeKeypad_settingsOk _ _ _ _ h
  | writeKey tag p => exact write_keeps lf writeKey_settingsOk _ _ _ _ h
  | writeChord tag p => exact write_keeps lf writeChord_settingsOk _ _ _ _ h
  | writeTrigger tag p => exact write_keeps lf writeTrigger_settingsOk _ _ _ _ h
  | writeReport tag p => exact write_keeps lf writeReport_settingsOk _ _ _ _ h
  | writeLink tag p => exact write_keeps lf writeLink_settingsOk _ _ _ _ h
  | storeProfile tag p => exact (ends_next _ _).2 (request_keeps lf (storeProfile_settingsOk _) _ _ h)
  | storeComplete ok =>
    simp only [exec, execStoreComplete, ends_next]
    split
    · exact storeDone_settingsOk ok h ‹_›
    · exact h
  | revertProfile tag p => exact (ends_next _ _).2 (request_keeps lf (revertProfile_settingsOk _) _ _ h)
  | factorySettings tag p =>
    exact (ends_next _ _).2
      (request_keeps lf (fun _ ht => lf _ _ (reload_settingsOk factory_settingsOk ht)) _ _ h)
  | triggerControlEnable tag p => exact control_keeps lf enableUnit_settingsOk _ _ h
  | triggerControlDisable tag p => exact control_keeps lf disableUnit_settingsOk _ _ h
  | triggerControlRearm tag p => exact control_keeps lf rearmUnit_settingsOk _ _ h
  | sampleRound raw supply order =>
    simp only [exec, execSampleRound]
    split
    · exact (ends_next _ _).2 (h.ite (takeRound_settingsOk raw supply order h))
    · simp
  | climateBoundary hpsFirst => exact (ends_next _ _).2 ((takeBoundary_settingsOk hpsFirst h).ite h)
  | fanMeasurement pulses ok => exact (ends_next _ _).2 (h.ite (measureFan_settingsOk pulses ok h))
  | hostPwrGoodFall => exact execHostPwrGoodFall_settingsOk h
  | powerGoodTimeout => exact (ends_next _ _).2 ((h.of_reach (powerFail_reach s)).ite h)
  | resetHoldExpiry => exact (ends_next _ _).2 ((h.of_reach (enterBooting_reach s)).ite h)
  | resettingExpiry => exact (ends_next _ _).2 ((h.of_reach (enterBooting_reach s)).ite h)
  | offTimeExpiry => exact (ends_next _ _).2 ((h.of_reach (enterQualifying_reach s)).ite h)
  | lockoutRetryExpiry => exact (ends_next _ _).2 ((h.of_reach (releaseLockout_reach s)).ite h)
  | graceExpiry => exact (ends_next _ _).2 ((h.of_reach (endStop_reach s)).ite h)
  | stopDelayExpiry => exact (ends_next _ _).2 ((h.of_reach (endStop_reach s)).ite h)
  | wakeTime => exact (ends_next _ _).2 ((h.of_reach (wake_reach s)).ite h)
  | warmTimeout =>
    exact (ends_next _ _).2 ((h.of_reach ((HostReach.post _ _).step
      ((HostReach.raise _ _).step (HostReach.setHps s _)))).ite h)
  | bootTimeout =>
    exact (ends_next _ _).2 ((h.of_reach ((escalate_reach _ _ _).step
      ((HostReach.post _ _).step (HostReach.raise _ s)))).ite h)
  | wdExpired => exact (ends_next _ _).2 ((kickExpired_settingsOk h).ite h)
  | keyScan raws =>
    simp only [exec, execKeyScan]
    split
    · exact (ends_next _ _).2 (h.ite (h.of_same (emitAll_settings _ _) (emitAll_pst _ _)))
    · simp
  | eventTake => exact (ends_next _ _).2 (h.ite (takeOldest_settingsOk h))
  | _ => exact absurd rfl hq

end Sys2Proof.Safety

namespace Sys2Proof.Proofs
open Sys2Proof.Machine Sys2Proof.Safety

/-- Settles O40, by the commands: what each owner takes is in range, and every source of a reset or reload is. -/
theorem settingsInvariant : Obligations.SettingsInvariant := fun _ _ hs e =>
  step_keeps (fun _ _ h => h.of_same rfl rfl) tick_settingsOk exec_settingsOk hs e

end Sys2Proof.Proofs

namespace Sys2Proof.Proofs
open Sys2Proof.Machine Sys2Proof.Safety

/-! ### A QUARANTINED key that is marked due -/

/-- A key that LiveCausesOk admits and no scan leaves behind: QUARANTINED, still touched, and marked due (R118
marks PENDING_PRESS keys alone). -/
def dueStuckKey : KeyRec where
  raw := 2300
  baseline := some 2500
  delta := 200
  state := .quarantined
  pressRun := 0
  releaseRun := 0
  pressTime := 0
  ordinal := 0
  quietStart := none
  due := true

/-- A scan in which every key reads 2300. -/
def evenCounts : List Nat := List.replicate 20 2300

/-- The part after its reset but for K0, which is `dueStuckKey` with KEY_STUCK latched and live; a scan waits. -/
def dueStuckState : State :=
  { State.reset with
    ksu := { Ksu.initial with keys := dueStuckKey :: List.replicate 19 .initial }
    cnu := { State.reset.cnu with
      latched := State.reset.cnu.latched ||| Cond.keyStuck.bit
      live := Cond.keyStuck.bit }
    pending := [.keyScan evenCounts] }

theorem dueStuckState_live (c : Cond) : dueStuckState.live c = decide (Cond.keyStuck = c) :=
  condIn_bit .keyStuck c

theorem dueStuckState_latched : dueStuckState.latched .keyStuck = true := by decide

theorem dueStuckState_causesOk : LiveCausesOk dueStuckState where
  sensorFault z := by rw [dueStuckState_live]; cases z <;> rfl
  warmTimeout := by rw [dueStuckState_live]; rfl
  supplyLow := by rw [dueStuckState_live]; rfl
  fanStall := by rw [dueStuckState_live]; rfl
  filterClog := by rw [dueStuckState_live]; rfl
  lockout := by rw [dueStuckState_live]; rfl
  keyStuck := by rw [dueStuckState_live]; rfl
  suppressed := by rw [dueStuckState_live]; rfl
  event c hc := by
    rw [dueStuckState_live]
    exact decide_eq_false fun h => by subst h; cases hc
  latched c hc := by
    rw [dueStuckState_live, decide_eq_true_eq] at hc
    exact hc ▸ dueStuckState_latched

/-- The state the scan leads to. -/
theorem dueStuckState_step :
    step dueStuckState = .next (takeScan evenCounts (dueStuckState.setPending [])) := by
  have h : countsOk evenCounts = true := by decide
  simp [step, exec, execKeyScan, dueStuckState, h, State.reset, State.atPowerOn]

/-- The scan takes K0, which is due, out of quarantine, and nothing ends KEY_STUCK's live cause. -/
theorem dueStuckState_scanned :
    (takeScan evenCounts (dueStuckState.setPending [])).live .keyStuck = true ∧
      (takeScan evenCounts (dueStuckState.setPending [])).ksu.keys.any (·.state == .quarantined) = false := by
  decide +kernel

/-- Refutes O27: LiveCausesOk does not say that only a PENDING_PRESS key is marked due, and a scan makes a
QUARANTINED key that is marked due PRESSED (pressKey), with KEY_STUCK's live cause left present. No step from
reset comes to such a key (PadOk excludes it). -/
theorem not_liveCauseInvariant : ¬ Obligations.LiveCauseInvariant := by
  intro h
  obtain ⟨hlive, -⟩ := h dueStuckState _ dueStuckState_causesOk rfl dueStuckState_step
  obtain ⟨hpresent, hnone⟩ := dueStuckState_scanned
  have hstuck := hlive.keyStuck
  rw [hpresent, hnone] at hstuck
  cases hstuck

end Sys2Proof.Proofs

namespace Sys2Proof.Machine

/-! ### Power-on reset (R199) -/

/-- While CNU's host is not listening a raise sets the latch and no more (R168, R174). -/
theorem raise_of_deaf {c : Cond} {s : State} (h : s.cnuListening = false) : raise c s = setLatch c s := by
  have hl : (setLatch c s).cnuListening = false := h
  unfold raise notify
  rw [hl]
  simp

/-- Without a temperature of any zone there is no admission (R55). -/
theorem admission_of_no_temp {s : State} (h : ∀ z, s.zoneTemp z = none) : admission s = false := by
  simp [admission, h]

/-- The part as a first entry into QUALIFYING leaves it. -/
def State.qualified (s : State) : State :=
  { s with
    hps := { s.hps with state := .qualifying }
    weu := weuOnEntry .qualifying .off s.settings.watchdog s.weu
    cpt := { s.cpt with seen := .qualifying }
    keq := .initial .qualifying
    tmx := { s.tmx with inbox := [⟨.hostState, 1, 0⟩] }
    cnu := { s.cnu with seen := .qualifying, notices := [], overflow := false } }

/-- The entry into QUALIFYING of a host that has been OFF since power-on, with no zone measured (R53, R54). -/
theorem enterQualifying_of_initial {s : State} (hh : s.hps = .initial) (hi : s.tmx.inbox = [])
    (hz : ∀ z, s.zoneTemp z = none) : enterQualifying s = s.qualified := by
  have hstart : startWarmUp s = s := by
    unfold startWarmUp
    simp only [hh, Hps.initial, reduceCtorEq, if_false]
    rw [show (⟨_, _, _, _, _, _, _, _, _, _, _, _, _, _, _, _, _, _, _, _, _⟩ : Hps) = s.hps from hh.symm]
    rfl
  have hentry : enterState .qualifying .noStage none s = s.qualified := by
    simp [enterState, hh, hi, Hps.initial, State.hostPwrEn, State.hostRstN, powerEnabled, resetAsserted,
      leaveCauses, post, Config.inboxSize, reportEntry, State.qualified, HostState.takesKeys, event,
      HostState.num]
    rfl
  have hwarm : s.qualified.hps.warmTimeout = false := by simp [State.qualified, hh, Hps.initial]
  have hadm : admission s.qualified = false := admission_of_no_temp hz
  unfold enterQualifying testAdmission
  dsimp only
  rw [hstart, hentry, hwarm, if_neg Bool.false_ne_true, hadm]
  simp

/-- The part with every block at its value after power-on, PROFILE_DEFAULTED latched where the image is INVALID
and the policy lock set by lock_at_start: what auto_start then finds (R199). -/
def State.readyFrom (s : State) : State :=
  { State.atPowerOn s.pst.source s.pst.image s.pst.cell s.powerGood with
    weu := { Weu.initial s.pst.source.watchdog with policyLock := s.pst.source.hostPower.lockAtStart }
    cnu := { Cnu.initial with latched := if s.pst.content?.isNone then Cond.profileDefaulted.bit else 0 }
    pending := s.pending }

theorem powerOn_eq (s : State) :
    powerOn s = if s.pst.source.hostPower.autoStart then s.readyFrom.qualified else s.readyFrom := by
  have hdeaf : ((State.atPowerOn s.pst.source s.pst.image s.pst.cell s.powerGood).setPending
      s.pending).cnuListening = false := rfl
  have hready : powerOn s =
      if s.pst.source.hostPower.autoStart then enterQualifying s.readyFrom else s.readyFrom := by
    have hc : Pst.content? ⟨s.pst.image, s.pst.cell, none⟩ = s.pst.content? := rfl
    unfold powerOn startUp
    rw [raise_of_deaf hdeaf]
    cases hn : s.pst.content?.isNone <;> cases hl : s.pst.source.hostPower.lockAtStart <;>
      simp [State.atPowerOn, State.readyFrom, hc, hn, hl, setLatch, Cnu.initial, Cond.isLive, Weu.initial,
        State.setPending, State.setWeu, State.setCnu]
  rw [hready, enterQualifying_of_initial rfl rfl fun z => by cases z <;> rfl]

end Sys2Proof.Machine

namespace Sys2Proof.Proofs
open Sys2Proof.Machine Sys2Proof.Safety

/-- Settles O6, by the equation of the reset, with auto_start and without. -/
theorem powerOnReset : Obligations.PowerOnReset := by
  intro s
  refine ⟨powerOn s, rfl, ?_⟩
  have hlatched : ∀ c : Cond, condIn (if s.pst.content?.isNone then Cond.profileDefaulted.bit else 0) c =
      (c == .profileDefaulted && s.pst.content?.isNone) := by
    intro c
    cases s.pst.content?.isNone
    · simp [condIn]
    · simp [condIn_bit, eq_comm, beq_eq_decide]
  rw [powerOn_eq]
  by_cases ha : s.pst.source.hostPower.autoStart = true
  · rw [if_pos ha]
    exact ⟨rfl, rfl, rfl, rfl, rfl, rfl, rfl, rfl, rfl, rfl, rfl, rfl, hlatched, rfl,
      (if_pos (α := Prop) ha).mpr ⟨rfl, rfl⟩, rfl, rfl, rfl, rfl⟩
  · rw [if_neg ha]
    exact ⟨rfl, rfl, rfl, rfl, rfl, rfl, rfl, rfl, rfl, rfl, rfl, rfl, hlatched, rfl,
      (if_neg (α := Prop) ha).mpr ⟨rfl, rfl⟩, rfl, rfl, rfl, rfl⟩

end Sys2Proof.Proofs

namespace Sys2Proof.Machine
open Sys2Proof.Safety

/-! ### Fields on the wire (R190) -/

theorem ofInt_toInt_of_mem {x : Int} (h : -2147483648 ≤ x ∧ x ≤ 2147483647) :
    (BitVec.ofInt 32 x).toInt = x := by
  rw [BitVec.toInt_ofInt, Int.bmod_eq_of_le] <;> omega

/-- Fields that fit the link arrive as they were written. -/
theorem fieldsOf_flatMap {fs : List Int} (h : OnWire fs) : fieldsOf (fs.flatMap i32) = fs := by
  induction fs with
  | nil => rfl
  | cons x fs ih =>
    obtain ⟨hx, hfs⟩ := onWire_cons.1 h
    change (word32 _ _ _ _).toInt :: fieldsOf (fs.flatMap i32) = x :: fs
    rw [ih hfs, word32_bytes32, ofInt_toInt_of_mem hx]

theorem length_flatMap_i32 (fs : List Int) : (fs.flatMap i32).length = 4 * fs.length := by
  induction fs with
  | nil => rfl
  | cons x fs ih =>
    rw [List.flatMap_cons, List.length_append, ih, List.length_cons]
    change 4 + _ = _
    omega

@[simp] theorem Four.toNat_num (z : Four) : (BitVec.ofNat 8 z.num).toNat = z.num := by cases z <;> rfl
@[simp] theorem Three.toNat_num (h : Three) : (BitVec.ofNat 8 h.num).toNat = h.num := by cases h <;> rfl

/-! ### A request that is due (R185) -/

theorem dispatch_of_due {kind tag : Byte} {p : List Byte} {s : State} (h : Due s kind tag p)
    (owner : State → State) : dispatch ⟨kind, tag, p⟩ owner s = owner (takeHeld s) := by
  obtain ⟨hsending, hheld⟩ := h
  simp [dispatch, State.nextRequest, hsending, hheld]

/-- The answer to a request that was taken off the HELD ones. -/
theorem answerThen_replying {kind tag : Byte} {p : List Byte} (hk : kind.toNat < 0x80) {s t : State}
    (ht : t.lnk = (takeHeld s).lnk) (after : AfterReply) (st : Status) (payload : List Byte) :
    answerThen after ⟨kind, tag, p⟩ st payload t = t.setLnk (replying s kind tag st payload after) := by
  unfold answerThen replyBody replyKind
  rw [if_pos hk, ht]
  rfl

/-- A write of a group that is not locked, with the right number of fields, which its owner takes (R188). -/
theorem writeGroup_taken {g i : Nat} {write : Nat → List Int → State → Option State} {after : AfterReply}
    {tag gb ib : Byte} {fs old eff : List Int} {s t : State} (hgb : gb.toNat = g) (hib : ib.toNat = i)
    (hw : OnWire fs) (hold : s.settings.group g i = some old) (hlen : fs.length = old.length)
    (hlock : (policyGroup g && s.weu.policyLock) = false) (ht : write i fs (takeHeld s) = some t)
    (heff : t.settings.group g i = some eff) (hlnk : t.lnk = (takeHeld s).lnk) :
    writeGroup g write after (writeRequest tag (gb :: ib :: fs.flatMap i32)) (takeHeld s) =
      t.setLnk (writeReply s tag gb ib fs eff after) := by
  have hold' : (takeHeld s).settings.group g i = some old := hold
  have hlock' : (policyGroup g && (takeHeld s).weu.policyLock) = false := hlock
  have hlen' : ¬ (g ≠ g ∨ (fs.flatMap i32).length ≠ 4 * old.length) := by
    rw [length_flatMap_i32, hlen]; simp
  unfold writeGroup writeRequest
  simp only [hgb, hib, hold', if_neg hlen', hlock', fieldsOf_flatMap hw, ht, heff, Option.getD_some]
  exact answerThen_replying (by decide) hlnk _ _ _

/-- A row of WRITE_SETTINGS whose request is due and names the row's group. -/
theorem write_of_due {g : Nat} {write : Nat → List Int → State → Option State} {after : AfterReply}
    {tag gb : Byte} {rest : List Byte} {s : State} (h : Due s 0x20 tag (gb :: rest)) (hgb : gb.toNat = g)
    (hg : 1 ≤ g ∧ g ≤ 13) :
    (if writesGroup g (gb :: rest) then
      .next (dispatch (writeRequest tag (gb :: rest)) (writeGroup g write after (writeRequest tag (gb :: rest))) s)
     else .fault .illFormed : Host.Outcome State Fault Refusal) =
    .next (writeGroup g write after (writeRequest tag (gb :: rest)) (takeHeld s)) := by
  have hwrites : writesGroup g (gb :: rest) = true := by
    simp [writesGroup, namedGroup, hgb, hg]
  rw [if_pos hwrites, writeRequest, dispatch_of_due h]

/-! ### The fields of a group and their number (R190) -/

theorem group_zone (c : Settings) (z : Zone) : c.group 1 z.num = some (c.zone.get z).fields := by
  simp [Settings.group]

theorem group_heater (c : Settings) (h : Heater) : c.group 2 h.num = some (c.heater.get h).fields := by
  simp [Settings.group]

theorem zoneOf_length {fs : List Int} {c : ZoneSettings} (h : zoneOf fs = some c) : fs.length = 12 := by
  unfold zoneOf at h
  split at h
  · rfl
  · cases h

theorem heaterOf_length {fs : List Int} {c : HeaterSettings} (h : heaterOf fs = some c) :
    fs.length = 6 := by
  unfold heaterOf at h
  split at h
  · rfl
  · cases h

theorem budgetOf_length {fs : List Int} {c : BudgetSettings} (h : budgetOf fs = some c) :
    fs.length = 4 := by
  unfold budgetOf at h
  split at h
  · rfl
  · cases h

theorem fanOf_length {fs : List Int} {c : FanSettings} (h : fanOf fs = some c) : fs.length = 5 := by
  unfold fanOf at h
  split at h
  · rfl
  · cases h

/-! ### What the owners make of the state -/

/-- A changed admission window restarts the zone's in-window timer, and nothing else of ZMON (R7, R14). -/
theorem takeZone_eq (z : Zone) (c : ZoneSettings) (s : State) : takeZone z c s =
    (s.setSettings { s.settings with zone := s.settings.zone.set z c }).setZmon
      (if (s.settings.zone.get z).admitLow = c.admitLow ∧
          (s.settings.zone.get z).admitHigh = c.admitHigh then s.zmon
       else { s.zmon with zones := s.zmon.zones.set z { s.zmon.zones.get z with inWindow := 0 } }) := by
  unfold takeZone
  dsimp only
  split <;> rfl

/-- A notice and a change of LNK do not see each other. -/
theorem notify_setLnk (b : NoticeBody) (s : State) (x : Lnk) :
    notify b (s.setLnk x) = (notify b s).setLnk x := by
  have hl : (s.setLnk x).cnuListening = s.cnuListening := rfl
  unfold notify
  rw [hl]
  split <;> rfl

end Sys2Proof.Machine

namespace Sys2Proof.Proofs
open Sys2Proof.Machine Sys2Proof.Safety

/-- Settles O36, by the owner's equation of each group and the answer to a write that is taken. -/
theorem climateSettingsAreTaken : Obligations.ClimateSettingsAreTaken := by
  refine ⟨fun tag z fs c s hw hc hdue => ?_, fun tag h fs c s hw hc hdue => ?_,
    fun tag fs c s hw hc hdue => ?_, fun tag fs c s hw hc hdue => ?_⟩
  · refine (write_of_due hdue rfl (by decide)).trans (congrArg _ ?_)
    refine (writeGroup_taken (g := 1) (old := (s.settings.zone.get z).fields)
      (t := takeZone z c (takeHeld s)) (eff := c.fields) rfl (Four.toNat_num z) hw
      (group_zone s.settings z) (zoneOf_length hc) rfl ?_ ?_ ?_).trans ?_
    · simp [writeZoneFields, hc]
    · rw [(takeZone_takes z c _).1]
      exact (group_zone _ z).trans (by rw [PerFour.get_set_self])
    · rw [takeZone_eq]; rfl
    · rw [takeZone_eq]; rfl
  · refine (write_of_due hdue rfl (by decide)).trans (congrArg _ ?_)
    refine (writeGroup_taken (g := 2) (old := (s.settings.heater.get h).fields)
      (t := takeHeater h c (takeHeld s)) (eff := c.fields) rfl (Three.toNat_num h) hw
      (group_heater s.settings h) (heaterOf_length hc) rfl ?_ ?_ rfl).trans rfl
    · simp [writeHeaterFields, hc]
    · rw [(takeHeater_takes h c _).1]
      exact (group_heater _ h).trans (by rw [PerThree.get_set_self])
  · refine (write_of_due hdue rfl (by decide)).trans (congrArg _ ?_)
    refine (writeGroup_taken (t := takeBudget c (takeHeld s)) (old := s.settings.budget.fields) rfl rfl hw
      rfl (budgetOf_length hc) rfl ?_ rfl rfl).trans rfl
    simp [writeBudgetFields, hc]
  · refine (write_of_due hdue rfl (by decide)).trans (congrArg _ ?_)
    have htake : takeFan c (takeHeld s) =
        if s.afm.learn = .idle then (takeHeld s).setSettings { s.settings with fan := c }
        else notify (.operationDone .learn .aborted none)
          (((takeHeld s).setSettings { s.settings with fan := c }).setAfm { s.afm with learn := .idle }) := rfl
    refine (writeGroup_taken (t := takeFan c (takeHeld s)) (old := s.settings.fan.fields)
      (eff := c.fields) rfl rfl hw rfl (fanOf_length hc) rfl ?_ ?_ ?_).trans ?_
    · simp [writeFanFields, hc]
    · rw [(takeFan_takes c _).1]; rfl
    · rw [htake]; split
      · rfl
      · rw [notify_lnk]; rfl
    · rw [htake]; split
      · rfl
      · rw [← notify_setLnk]; rfl

end Sys2Proof.Proofs

namespace Sys2Proof.Machine
open Sys2Proof.Safety

/-! ### Keys that are no longer fitted (R133) -/

/-- A key at or beyond keys_fitted (R133; log entry 31). -/
def KeyRec.unfitted (r : KeyRec) : KeyRec :=
  { r.toIdle with baseline := none, raw := 0, delta := 0, quietStart := none, ordinal := 0 }

/-- What a held key that is no longer fitted hands on: its release, unsuppressed and not stuck (R133). -/
def unfitEmits (now : Word32) (k : Nat) (r : KeyRec) : List Emit :=
  if r.state.held then
    [.post (event .keyRelease k (heldMs now r)), keyOffer now k (.release false false)]
  else []

theorem unfitKey_eq (fitted : Nat) (now : Word32) (k : Nat) (p : Pad) : unfitKey fitted now k p =
    if k < fitted then p
    else ⟨{ p.ksu with keys := p.ksu.keys.set k (p.ksu.key k).unfitted },
      p.out ++ unfitEmits now k (p.ksu.key k)⟩ := by
  unfold unfitKey unfitEmits
  dsimp only
  split
  · rfl
  · split
    · simp only [giveRelease, Pad.emit, Pad.setKey, List.append_assoc, List.cons_append, List.nil_append]
      rfl
    · rw [List.append_nil]; rfl

theorem key_set (u : Ksu) (k : Nat) (r : KeyRec) (j : Nat) :
    Ksu.key { u with keys := u.keys.set k r } j = if k = j ∧ j < u.keys.length then r else u.key j := by
  simp only [Ksu.key, List.getD_eq_getElem?_getD, List.getElem?_set]
  by_cases hk : k = j
  · subst hk
    by_cases hl : k < u.keys.length
    · simp [hl]
    · simp [hl]
  · simp [hk]

/-- The pad once the keys K0 to K(n-1) have been handled (R133). -/
structure UnfitDone (fitted : Nat) (now : Word32) (u : Ksu) (n : Nat) (p : Pad) : Prop where
  others : p.ksu = { u with keys := p.ksu.keys }
  length : p.ksu.keys.length = u.keys.length
  key : ∀ k < u.keys.length,
    p.ksu.key k = if k < n ∧ fitted ≤ k then (u.key k).unfitted else u.key k
  out : p.out = (List.range n).flatMap fun k => if k < fitted then [] else unfitEmits now k (u.key k)

theorem unfitDone_range (fitted : Nat) (now : Word32) (u : Ksu) {n : Nat} (hn : n ≤ u.keys.length) :
    UnfitDone fitted now u n ((List.range n).foldl (fun p k => unfitKey fitted now k p) ⟨u, []⟩) := by
  induction n with
  | zero => exact ⟨rfl, rfl, fun k _ => by simp, rfl⟩
  | succ n ih =>
    have h := ih (Nat.le_of_succ_le hn)
    simp only [List.range_succ, List.foldl_append, List.foldl_cons, List.foldl_nil]
    generalize (List.range n).foldl (fun p k => unfitKey fitted now k p) ⟨u, []⟩ = p at h ⊢
    obtain ⟨hothers, hlength, hkey, hout⟩ := h
    have hkn : p.ksu.key n = u.key n := by rw [hkey n (by omega), if_neg (by omega)]
    rw [unfitKey_eq]
    by_cases hf : n < fitted
    · rw [if_pos hf]
      refine ⟨hothers, hlength, fun k hk => ?_, ?_⟩
      · rw [hkey k hk]
        exact if_congr (by omega) rfl rfl
      · simp [hout, List.range_succ, hf]
    · rw [if_neg hf]
      refine ⟨?_, ?_, fun k hk => ?_, ?_⟩
      · rw [hothers]
      · simpa using hlength
      · rw [key_set, hkn, hkey k hk, hlength]
        by_cases hnk : n = k
        · subst hnk
          rw [if_pos ⟨rfl, hk⟩, if_pos ⟨by omega, by omega⟩]
        · rw [if_neg (by omega)]
          exact if_congr (by omega) rfl rfl
      · simp [hout, List.range_succ, hf, hkn]

/-- The keys of a pad with all its records, handled in key order (R133). -/
theorem unfitDone_eachKey (fitted : Nat) (now : Word32) {u : Ksu} (hu : u.keys.length = 20) :
    UnfitDone fitted now u 20 (eachKey (unfitKey fitted now) ⟨u, []⟩) :=
  unfitDone_range fitted now u (n := 20) (by omega)

/-- Some key is QUARANTINED, by key number (R125). -/
theorem anyQuarantined_iff (u : Ksu) :
    u.anyQuarantined = true ↔ ∃ k < u.keys.length, (u.key k).state = .quarantined := by
  simp only [Ksu.anyQuarantined, List.any_eq_true, beq_iff_eq, List.mem_iff_getElem, Ksu.key,
    List.getD_eq_getElem?_getD]
  constructor
  · rintro ⟨_, ⟨k, hk, rfl⟩, hr⟩
    exact ⟨k, hk, by simpa [hk] using hr⟩
  · rintro ⟨k, hk, hr⟩
    exact ⟨_, ⟨k, hk, rfl⟩, by simpa [hk] using hr⟩

/-- The handling of unfitted keys hands on releases, and the end of KEY_STUCK's live cause (R133). -/
theorem unfitKeys_out (fitted : Nat) (now : Word32) {u : Ksu} (hu : u.keys.length = 20) :
    (unfitKeys fitted now u).ksu = (eachKey (unfitKey fitted now) ⟨u, []⟩).ksu ∧
    ∃ ends, (ends = [] ∨ ends = [Emit.endCause .keyStuck]) ∧
      (unfitKeys fitted now u).out =
        ((List.range 20).flatMap fun k => if k < fitted then [] else unfitEmits now k (u.key k)) ++ ends := by
  have hout := (unfitDone_eachKey fitted now hu).out
  unfold unfitKeys stuckEnds
  split
  · exact ⟨rfl, _, .inr rfl, congrArg (· ++ _) hout⟩
  · exact ⟨rfl, [], .inl rfl, by rw [hout, List.append_nil]⟩

/-- Where no key that is no longer fitted was held or QUARANTINED, nothing is handed on (R133). -/
theorem unfitKeys_silent {fitted : Nat} (now : Word32) {u : Ksu} (hu : u.keys.length = 20)
    (h : ∀ k < 20, fitted ≤ k → (u.key k).state.held = false ∧ (u.key k).state ≠ .quarantined) :
    (unfitKeys fitted now u).out = [] := by
  have hdone := unfitDone_eachKey fitted now hu
  have hout : (eachKey (unfitKey fitted now) ⟨u, []⟩).out = [] := by
    rw [hdone.out, List.flatMap_eq_nil_iff]
    intro k hk
    by_cases hf : k < fitted
    · simp [hf]
    · simp [hf, unfitEmits, (h k (List.mem_range.1 hk) (by omega)).1]
  have hstuck : u.anyQuarantined = true →
      (eachKey (unfitKey fitted now) ⟨u, []⟩).ksu.anyQuarantined = true := by
    rw [anyQuarantined_iff, anyQuarantined_iff]
    rintro ⟨k, hk, hq⟩
    refine ⟨k, by rw [hdone.length]; exact hk, ?_⟩
    have hfit : k < fitted := by
      by_contra hf
      exact (h k (by omega) (by omega)).2 hq
    rw [hdone.key k hk, if_neg (by omega)]
    exact hq
  unfold unfitKeys stuckEnds
  rw [if_neg]
  · exact hout
  · intro hb
    obtain ⟨hbefore, hafter⟩ := Bool.and_eq_true_iff.1 hb
    rw [hstuck hbefore] at hafter
    cases hafter

end Sys2Proof.Machine

namespace Sys2Proof.Machine
open Sys2Proof.Safety

/-! ### Lists that latch nothing but EVENTS_LOST -/

/-- The hand-on raises no condition, and offers no press: of the latches it can set EVENTS_LOST alone. -/
def Emit.isPlain : Emit → Bool
  | .raise _ => false
  | .offer r => r.kind != .press
  | .post _ | .endCause _ | .notify _ => true

theorem emit_latched_of_plain {e : Emit} (he : e.isPlain = true) (s : State) {c : Cond}
    (h : c ≠ .eventsLost) : (emit e s).latched c = s.latched c := by
  cases e with
  | post e => exact post_latched_of_ne e s h
  | offer r => exact offer_latched_of_kind (by simpa [Emit.isPlain] using he) s c
  | raise d => cases he
  | endCause d => rfl
  | notify b => exact notify_latched_cond b s c

theorem emitAll_latched_of_plain {es : List Emit} (he : ∀ e ∈ es, e.isPlain = true) (s : State) {c : Cond}
    (h : c ≠ .eventsLost) : (emitAll es s).latched c = s.latched c := by
  induction es generalizing s with
  | nil => rfl
  | cons e es ih =>
    obtain ⟨he1, hes⟩ := List.forall_mem_cons.1 he
    rw [emitAll_cons, ih hes, emit_latched_of_plain he1 s h]

theorem unfitEmits_plain (now : Word32) (k : Nat) (r : KeyRec) : ∀ e ∈ unfitEmits now k r, e.isPlain = true := by
  unfold unfitEmits
  split
  · simp [Emit.isPlain, keyOffer]
  · simp

/-- What the handling of unfitted keys hands on: releases, and perhaps the end of KEY_STUCK's cause (R133). -/
theorem mem_unfitKeys_out {fitted : Nat} {now : Word32} {u : Ksu} (hu : u.keys.length = 20) {e : Emit}
    (he : e ∈ (unfitKeys fitted now u).out) :
    e = .endCause .keyStuck ∨ ∃ k, e ∈ unfitEmits now k (u.key k) := by
  obtain ⟨-, ends, hends, hout⟩ := unfitKeys_out fitted now hu
  rw [hout, List.mem_append, List.mem_flatMap] at he
  rcases he with ⟨k, -, hk⟩ | he
  · split at hk
    · cases hk
    · exact .inr ⟨k, hk⟩
  · rcases hends with rfl | rfl
    · cases he
    · exact .inl (List.mem_singleton.1 he)

theorem unfitKeys_plain {fitted : Nat} {now : Word32} {u : Ksu} (hu : u.keys.length = 20) :
    ∀ e ∈ (unfitKeys fitted now u).out, e.isPlain = true := by
  intro e he
  rcases mem_unfitKeys_out hu he with rfl | ⟨k, hk⟩
  · rfl
  · exact unfitEmits_plain _ _ _ e hk

/-- A held key that is no longer fitted has its release handed on (R133). -/
theorem unfitKeys_release {fitted : Nat} (now : Word32) {u : Ksu} (hu : u.keys.length = 20) {k : Nat}
    (hk : k < 20) (hf : fitted ≤ k) (hh : (u.key k).state.held = true) :
    Emit.post (event .keyRelease k (heldMs now (u.key k))) ∈ (unfitKeys fitted now u).out := by
  obtain ⟨-, ends, -, hout⟩ := unfitKeys_out fitted now hu
  rw [hout]
  refine List.mem_append_left _ (List.mem_flatMap.2 ⟨k, List.mem_range.2 hk, ?_⟩)
  simp [Nat.not_lt.2 hf, unfitEmits, hh]

/-- No other live cause than KEY_STUCK's is touched (R133). -/
theorem unfitKeys_live {fitted : Nat} {now : Word32} {u : Ksu} (hu : u.keys.length = 20) {c : Cond}
    (hc : c ≠ .keyStuck) (s : State) : (emitAll (unfitKeys fitted now u).out s).live c = s.live c := by
  rw [emitAll_live_cond]
  refine causeAfter_of_untouched (fun h => ?_) (fun h => ?_) _
  · cases unfitKeys_plain hu _ h
  · rcases mem_unfitKeys_out hu h with h | ⟨k, hk⟩
    · cases h; exact hc rfl
    · unfold unfitEmits at hk
      split at hk <;> simp [keyOffer] at hk

/-! ### A reload in its parts (R198) -/

/-- A zone record under a written admission window (R7). -/
def ZoneRec.rewindowed (old new : ZoneSettings) (r : ZoneRec) : ZoneRec :=
  if old.admitLow = new.admitLow ∧ old.admitHigh = new.admitHigh then r else { r with inWindow := 0 }

theorem takeZone_rewindowed (z : Zone) (c : ZoneSettings) (s : State) : takeZone z c s =
    (s.setSettings { s.settings with zone := s.settings.zone.set z c }).setZmon
      { s.zmon with zones :=
          s.zmon.zones.set z ((s.zmon.zones.get z).rewindowed (s.settings.zone.get z) c) } := by
  rw [takeZone_eq]
  unfold ZoneRec.rewindowed
  split
  · cases z <;> rfl
  · rfl

/-- The ladder position moved onto a new ladder is lowered to it (R100). -/
theorem adjustPosition_eq (l : LadderSettings) (step attempts : Nat) : adjustPosition l step attempts =
    (if l.stepCount ≤ step then l.stepCount - 1 else step,
      if l.stepCount ≤ step then (l.step (l.stepCount - 1)).attempts
      else min attempts (l.step step).attempts) := by
  unfold adjustPosition
  split
  · rfl
  · split
    · rw [Nat.min_eq_right (by omega)]
    · rw [Nat.min_eq_left (by omega)]

/-- The groups of the climate job, reloaded. -/
def reloadClimate (src : Settings) (s : State) : State :=
  takeFan src.fan (takeBudget src.budget
    (Three.all.foldl (fun s h => takeHeater h (src.heater.get h) s)
      (Four.all.foldl (fun s z => takeZone z (src.zone.get z) s) s)))

/-- The policy groups, reloaded where the lock is clear. -/
def reloadPolicy (locked : Bool) (src : Settings) (s : State) : State :=
  if locked then s
  else takeHostPower src.hostPower (takeLadder src.ladder (takeWatchdog src.watchdog s))

/-- The groups after KEYPAD, reloaded. -/
def reloadRest (src : Settings) (s : State) : State :=
  takeLink src.link (takeReport src.report (takeTriggers src.trigger
    (Six.all.foldl (fun s i => takeChord i (src.chord.get i) s) (reloadKeys src.keyRepeat s))))

theorem reload_eq (src : Settings) (s : State) : reload src s =
    reloadRest src (takeKeypad src.keypad (reloadPolicy s.weu.policyLock src (reloadClimate src s))) := rfl

theorem abortLearn_eq (s : State) :
    abortLearn s = (s.setAfm { s.afm with learn := .idle }).setCnu (abortLearn s).cnu := by
  unfold abortLearn
  split
  · rename_i h
    rw [show ({ s.afm with learn := .idle } : Afm) = s.afm by rw [← h]]
    rfl
  · simp only [learnDone, emit]
    conv_lhs => rw [notify_eq]
    conv_rhs => rw [notify_eq]
    rfl

/-- An aborted learn hands its notice on, and changes nothing else of CNU (R48). -/
theorem abortLearn_cnu (s : State) :
    (s.afm.learn = .idle → (abortLearn s).cnu = s.cnu) ∧
    (∀ c, (abortLearn s).latched c = s.latched c) ∧ ∀ c, (abortLearn s).live c = s.live c := by
  unfold abortLearn
  split
  · exact ⟨fun _ => rfl, fun _ => rfl, fun _ => rfl⟩
  · exact ⟨fun h => absurd h ‹_›, fun c => notify_latched_cond _ _ c, fun c => notify_live_cond _ _ c⟩

/-- The climate groups in place, before the learn is aborted. -/
def climateTaken (src : Settings) (s : State) : State :=
  (s.setSettings { s.settings with
    zone := src.zone, heater := src.heater, budget := src.budget, fan := src.fan }).setZmon
  { s.zmon with zones := PerFour.of fun z =>
      (s.zmon.zones.get z).rewindowed (s.settings.zone.get z) (src.zone.get z) }

theorem reloadClimate_eq (src : Settings) (s : State) :
    reloadClimate src s = abortLearn (climateTaken src s) := by
  unfold reloadClimate takeFan
  simp only [Four.all, Three.all, List.foldl, takeZone_rewindowed, takeHeater, takeBudget,
    State.setSettings, State.setZmon, PerFour.get, PerFour.set, PerThree.set]
  rfl

/-- The settings with the policy groups of `src`, unless the lock keeps the old (R98, R198). -/
def reloadedPolicy (locked : Bool) (src c : Settings) : Settings :=
  if locked then c
  else { c with watchdog := src.watchdog, ladder := src.ladder, hostPower := src.hostPower }

/-- WEU after a reload: its position lowered to the new ladder, where the lock is clear (R100). -/
def reloadedWeu (locked : Bool) (src : Settings) (w : Weu) : Weu :=
  if locked then w
  else { w with
    step := if src.ladder.stepCount ≤ w.step then src.ladder.stepCount - 1 else w.step
    attempts :=
      if src.ladder.stepCount ≤ w.step then (src.ladder.step (src.ladder.stepCount - 1)).attempts
      else min w.attempts (src.ladder.step w.step).attempts }

theorem reloadPolicy_eq (locked : Bool) (src : Settings) (s : State) : reloadPolicy locked src s =
    (s.setSettings (reloadedPolicy locked src s.settings)).setWeu (reloadedWeu locked src s.weu) := by
  cases locked with
  | true => rfl
  | false =>
    simp only [reloadPolicy, takeLadder, takeWatchdog, adjustPosition_eq]
    rfl

/-- Setting each place of a list in turn to the value there of another makes it the other. -/
theorem foldl_set_getD {α : Type} (d : α) {l m : List α} (h : l.length = m.length) :
    (List.range l.length).foldl (fun l k => l.set k (m.getD k d)) l = m := by
  have hpart : ∀ n, n ≤ l.length →
      (List.range n).foldl (fun l k => l.set k (m.getD k d)) l = m.take n ++ l.drop n := by
    intro n hn
    induction n with
    | zero => simp
    | succ n ih =>
      rw [List.range_succ, List.foldl_append, ih (by omega)]
      have hm : n < m.length := by omega
      simp only [List.foldl_cons, List.foldl_nil, List.getD_eq_getElem?_getD, hm, List.getElem?_eq_getElem,
        Option.getD_some]
      rw [List.set_append_right _ _ (by simp), List.length_take, Nat.min_eq_left hm.le, Nat.sub_self,
        List.drop_eq_getElem_cons (by omega : n < l.length), List.set_cons_zero, List.take_succ_eq_append_getElem hm,
        List.append_assoc, List.singleton_append]
  rw [hpart _ le_rfl, h, List.take_length, ← h, List.drop_length, List.append_nil]

theorem reloadKeys_eq {c : List Bool} {s : State} (hs : s.settings.keyRepeat.length = 20)
    (hc : c.length = 20) : reloadKeys c s = s.setSettings { s.settings with keyRepeat := c } := by
  have hfold : ∀ ks : List Nat, ks.foldl (fun s k => takeKey k (c.getD k false) s) s =
      s.setSettings { s.settings with
        keyRepeat := ks.foldl (fun l k => l.set k (c.getD k false)) s.settings.keyRepeat } := by
    intro ks
    induction ks using List.reverseRecOn with
    | nil => rfl
    | append_singleton ks k ih => rw [List.foldl_append, List.foldl_append, ih]; rfl
  have hset := foldl_set_getD false (hs.trans hc.symm)
  rw [hs] at hset
  exact (hfold (List.range 20)).trans (by rw [hset])

/-- Setting each of the six in turn. -/
theorem PerSix.foldl_set {α : Type} (x : PerSix α) (f : Six → α) :
    Six.all.foldl (fun x i => x.set i (f i)) x = PerSix.of f := rfl

theorem reloadChords_eq (c : PerSix ChordSettings) (s : State) :
    Six.all.foldl (fun s i => takeChord i (c.get i) s) s =
      (s.setSettings { s.settings with chord := c }).setKsu
        { s.ksu with chords := PerSix.of fun _ => .initial } := by
  have hfold : ∀ is : List Six, is.foldl (fun s i => takeChord i (c.get i) s) s =
      (s.setSettings { s.settings with
        chord := is.foldl (fun x i => x.set i (c.get i)) s.settings.chord }).setKsu
        { s.ksu with chords := is.foldl (fun x i => x.set i .initial) s.ksu.chords } := by
    intro is
    induction is using List.reverseRecOn with
    | nil => rfl
    | append_singleton is i ih => simp only [List.foldl_append, ih]; rfl
  rw [hfold, PerSix.foldl_set _ c.get, PerSix.foldl_set _ fun _ => ChordRec.initial]
  rfl

theorem reloadRest_eq {src : Settings} {s : State} (hs : s.settings.keyRepeat.length = 20)
    (hc : src.keyRepeat.length = 20) : reloadRest src s =
    ((s.setSettings { s.settings with
        keyRepeat := src.keyRepeat, chord := src.chord, trigger := src.trigger, report := src.report
        link := src.link }).setKsu { s.ksu with chords := PerSix.of fun _ => .initial }).setTmx
      { s.tmx with units := PerSix.of fun u => .initial (src.trigger.get u) 0 } := by
  unfold reloadRest
  rw [reloadKeys_eq hs hc, reloadChords_eq]
  rfl

end Sys2Proof.Machine

namespace Sys2Proof.Machine
open Sys2Proof.Safety

/-- What a reload hands on for the keys that are no longer fitted (R133). -/
def reloadEmits (src : Settings) (s : State) : List Emit :=
  (unfitKeys src.keypad.keysFitted s.time.ms s.ksu).out

/-- The state in which a reload handles the unfitted keys, their records done: the groups up to KEYPAD are in
place. -/
def reloadMidway (src : Settings) (s : State) : State :=
  { s with
    settings := { reloadedPolicy s.weu.policyLock src { s.settings with
        zone := src.zone, heater := src.heater, budget := src.budget, fan := src.fan } with
      keypad := src.keypad }
    zmon := { s.zmon with zones := PerFour.of fun z =>
      (s.zmon.zones.get z).rewindowed (s.settings.zone.get z) (src.zone.get z) }
    afm := { s.afm with learn := .idle }
    weu := reloadedWeu s.weu.policyLock src s.weu
    ksu := (unfitKeys src.keypad.keysFitted s.time.ms s.ksu).ksu
    cnu := (reloadClimate src s).cnu }

theorem reload_midway (src : Settings) (s : State) :
    takeKeypad src.keypad (reloadPolicy s.weu.policyLock src (reloadClimate src s)) =
      emitAll (reloadEmits src s) (reloadMidway src s) := by
  have hcnu : (reloadClimate src s).cnu = (abortLearn (climateTaken src s)).cnu := by rw [reloadClimate_eq]
  rw [reloadClimate_eq, reloadPolicy_eq, abortLearn_eq]
  unfold reloadMidway reloadEmits
  rw [hcnu]
  rfl

theorem reload_emitted {src : Settings} {s : State} (hs : s.settings.keyRepeat.length = 20)
    (hc : src.keyRepeat.length = 20) : reload src s =
    { emitAll (reloadEmits src s) (reloadMidway src s) with
      settings := if s.weu.policyLock then
          { src with
            watchdog := s.settings.watchdog, ladder := s.settings.ladder
            hostPower := s.settings.hostPower }
        else src
      ksu := { (reloadMidway src s).ksu with chords := PerSix.of fun _ => .initial }
      tmx := ⟨(emitAll (reloadEmits src s) (reloadMidway src s)).tmx.inbox,
        PerSix.of fun u => .initial (src.trigger.get u) 0⟩ } := by
  have hs' : (reloadMidway src s).settings.keyRepeat.length = 20 := by
    simp only [reloadMidway, reloadedPolicy]
    split <;> exact hs
  rw [reload_eq, reload_midway, reloadRest_eq (by rw [emitAll_settings]; exact hs') hc, emitAll_settings,
    emitAll_ksu]
  unfold reloadMidway reloadedPolicy
  cases s.weu.policyLock <;> rfl

/-- Of the state a reload changes the settings and what their owners hold of them (R198). -/
theorem reload_frame {src : Settings} {s : State} (hs : s.settings.keyRepeat.length = 20)
    (hc : src.keyRepeat.length = 20) (hk : s.ksu.keys.length = 20) : reload src s =
    { s with
      settings := (reload src s).settings
      zmon := { s.zmon with zones := (reload src s).zmon.zones }
      afm := { s.afm with learn := .idle }
      weu := (reload src s).weu
      ksu := { s.ksu with keys := (reload src s).ksu.keys, chords := (reload src s).ksu.chords }
      keq := (reload src s).keq, tmx := (reload src s).tmx, cnu := (reload src s).cnu } := by
  have hksu : (reloadMidway src s).ksu = { s.ksu with keys := (reloadMidway src s).ksu.keys } := by
    have h := (unfitDone_eachKey src.keypad.keysFitted s.time.ms hk).others
    rw [← (unfitKeys_out _ s.time.ms hk).1] at h
    exact h
  rw [reload_emitted hs hc, emitAll_eq, hksu]
  rfl

theorem reload_settings {src : Settings} {s : State} (hs : s.settings.keyRepeat.length = 20)
    (hc : src.keyRepeat.length = 20) : (reload src s).settings =
      if s.weu.policyLock then
        { src with
          watchdog := s.settings.watchdog, ladder := s.settings.ladder, hostPower := s.settings.hostPower }
      else src := by
  rw [reload_emitted hs hc]

theorem reload_weu {src : Settings} {s : State} (hs : s.settings.keyRepeat.length = 20)
    (hc : src.keyRepeat.length = 20) : (reload src s).weu = reloadedWeu s.weu.policyLock src s.weu := by
  rw [reload_emitted hs hc]
  exact emitAll_weu _ _

theorem reload_zone {src : Settings} {s : State} (hs : s.settings.keyRepeat.length = 20)
    (hc : src.keyRepeat.length = 20) (z : Zone) : (reload src s).zmon.zones.get z =
      (s.zmon.zones.get z).rewindowed (s.settings.zone.get z) (src.zone.get z) := by
  rw [reload_emitted hs hc]
  refine (congrArg (fun m : Zmon => m.zones.get z) (emitAll_zmon _ _)).trans ?_
  cases z <;> rfl

theorem reload_units {src : Settings} {s : State} (hs : s.settings.keyRepeat.length = 20)
    (hc : src.keyRepeat.length = 20) (u : TrigUnit) :
    (reload src s).tmx.units.get u = .initial (src.trigger.get u) 0 := by
  rw [reload_emitted hs hc]
  cases u <;> rfl

theorem reload_chords {src : Settings} {s : State} (hs : s.settings.keyRepeat.length = 20)
    (hc : src.keyRepeat.length = 20) (i : Chord) : (reload src s).ksu.chords.get i = .initial := by
  rw [reload_emitted hs hc]
  cases i <;> rfl

theorem reload_lnk (src : Settings) {s : State} (hs : s.settings.keyRepeat.length = 20)
    (hc : src.keyRepeat.length = 20) : (reload src s).lnk = s.lnk := by
  rw [reload_emitted hs hc]
  exact emitAll_lnk _ _

/-- The latches and live causes after a reload (R168, R198; log entry 33). -/
theorem reload_conds {src : Settings} {s : State} (hs : s.settings.keyRepeat.length = 20)
    (hc : src.keyRepeat.length = 20) (hk : s.ksu.keys.length = 20) :
    (∀ c, c ≠ .eventsLost → (reload src s).latched c = s.latched c) ∧
    ∀ c, c ≠ .keyStuck → (reload src s).live c = s.live c := by
  obtain ⟨-, hlatched, hlive⟩ := abortLearn_cnu (climateTaken src s)
  rw [reload_emitted hs hc]
  refine ⟨fun c h => ?_, fun c h => ?_⟩
  · refine (emitAll_latched_of_plain (unfitKeys_plain hk) (reloadMidway src s) h).trans ?_
    change (reloadClimate src s).latched c = s.latched c
    rw [reloadClimate_eq]
    exact hlatched c
  · refine (unfitKeys_live hk h (reloadMidway src s)).trans ?_
    change (reloadClimate src s).live c = s.live c
    rw [reloadClimate_eq]
    exact hlive c

/-- Where no key that is no longer fitted was held or QUARANTINED, a reload hands nothing on but the end of a
learn (R48, R133). -/
theorem reload_silent {src : Settings} {s : State} (hs : s.settings.keyRepeat.length = 20)
    (hc : src.keyRepeat.length = 20) (hk : s.ksu.keys.length = 20)
    (h : ∀ k < 20, src.keypad.keysFitted ≤ k →
      (s.ksu.key k).state.held = false ∧ (s.ksu.key k).state ≠ .quarantined) :
    (reload src s).keq = s.keq ∧ (reload src s).tmx.inbox = s.tmx.inbox ∧
      (s.afm.learn = .idle → (reload src s).cnu = s.cnu) := by
  have hnone : reloadEmits src s = [] := unfitKeys_silent s.time.ms hk h
  rw [reload_emitted hs hc, hnone]
  refine ⟨rfl, rfl, fun hl => ?_⟩
  change (reloadClimate src s).cnu = s.cnu
  rw [reloadClimate_eq]
  exact (abortLearn_cnu (climateTaken src s)).1 hl

/-- A key after a reload: as it was while it is fitted, else IDLE and unmeasured, with its release told if it was
held (R133; log entry 31). -/
theorem reload_key {src : Settings} {s : State} (hs : s.settings.keyRepeat.length = 20)
    (hc : src.keyRepeat.length = 20) (hk : s.ksu.keys.length = 20) {k : Nat} (h : k < 20) :
    (reload src s).ksu.key k =
        (if src.keypad.keysFitted ≤ k then (s.ksu.key k).unfitted else s.ksu.key k) ∧
      (src.keypad.keysFitted ≤ k → (s.ksu.key k).state.held = true →
        Told (releaseEvent s k) (reload src s)) := by
  have hdone := unfitDone_eachKey src.keypad.keysFitted s.time.ms hk
  rw [reload_emitted hs hc]
  refine ⟨?_, fun hf hh => emitAll_told (unfitKeys_release s.time.ms hk h hf hh) (reloadMidway src s)⟩
  change (unfitKeys _ _ _).ksu.key k = _
  rw [(unfitKeys_out _ s.time.ms hk).1, hdone.key k (by omega)]
  exact if_congr (by omega) rfl rfl

end Sys2Proof.Machine

namespace Sys2Proof.Proofs
open Sys2Proof.Machine Sys2Proof.Safety

/-- A request for a reload is answered OK when it is done (R198). -/
theorem reload_answered {kind tag : Byte} (hkind : kind.toNat < 0x80) {src : Settings} {s : State}
    (hs : s.settings.keyRepeat.length = 20) (hc : src.keyRepeat.length = 20) :
    answerThen .applyRate ⟨kind, tag, []⟩ .ok [] (reload src (takeHeld s)) =
      (reload src (takeHeld s)).setLnk (replying s kind tag .ok [] .applyRate) :=
  answerThen_replying hkind (reload_lnk src (s := takeHeld s) hs hc) _ _ _

/-- REVERT_PROFILE with an image that cannot be read, or while a store is in progress (R198). -/
theorem revertProfile_declined {tag : Byte} {s : State} (hdue : Due s 0x23 tag []) :
    (s.pst.storing.isSome = true →
      exec (.revertProfile tag []) s = .next (s.setLnk (replying s 0x23 tag .busy [] .nothing))) ∧
    (s.pst.storing = none → (∀ i, s.pst.image = some i → i.check ≠ imageCheck i.content) →
      exec (.revertProfile tag []) s = .next (s.setLnk (replying s 0x23 tag .refused [] .nothing))) := by
  have hexec : exec (.revertProfile tag []) s =
      .next (revertProfile ⟨0x23, tag, []⟩ (takeHeld s)) := by
    simp only [exec, execRevertProfile, dispatch_of_due hdue]
    rfl
  have hanswer (st : Status) : answer ⟨0x23, tag, []⟩ st [] (takeHeld s) =
      s.setLnk (replying s 0x23 tag st [] .nothing) :=
    answerThen_replying (s := s) (by decide) rfl .nothing st []
  rw [hexec]
  refine ⟨fun hstoring => ?_, fun hstoring himage => ?_⟩
  · unfold revertProfile
    rw [if_pos (show (takeHeld s).pst.storing.isSome = true from hstoring), hanswer]
  · have hnone : (takeHeld s).pst.content? = none := by
      change Pst.content? s.pst = none
      unfold Pst.content?
      cases hi : s.pst.image with
      | none => rfl
      | some i => simp [Image.valid, himage i hi]
    unfold revertProfile
    rw [if_neg (show ¬ (takeHeld s).pst.storing.isSome = true by simp [takeHeld, hstoring]), hnone]
    exact congrArg _ (hanswer .refused)

/-- The two requests for a reload, from a VALID image and from the factory defaults. -/
theorem reload_requested {c : Instr} {kind tag : Byte} {src : Settings} {s : State}
    (hc : (c = .revertProfile tag [] ∧ kind = 0x23 ∧ s.pst.storing = none ∧
        s.pst.image = some ⟨src, imageCheck src⟩) ∨
      (c = .factorySettings tag [] ∧ kind = 0x24 ∧ src = Settings.factory))
    (hdue : Due s kind tag []) (hs : s.settings.keyRepeat.length = 20) (hsrc : src.keyRepeat.length = 20) :
    exec c s = .next ((reload src (takeHeld s)).setLnk (replying s kind tag .ok [] .applyRate)) := by
  rcases hc with ⟨rfl, rfl, hstoring, himage⟩ | ⟨rfl, rfl, rfl⟩
  · have hcontent : (takeHeld s).pst.content? = some src := by
      change Pst.content? s.pst = some src
      simp [Pst.content?, himage, Image.valid]
    have hrevert : revertProfile ⟨0x23, tag, []⟩ (takeHeld s) =
        answerThen .applyRate ⟨0x23, tag, []⟩ .ok [] (reload src (takeHeld s)) := by
      unfold revertProfile
      rw [if_neg (show ¬ (takeHeld s).pst.storing.isSome = true by simp [takeHeld, hstoring]), hcontent]
    rw [← reload_answered (by decide) hs hsrc, ← hrevert]
    simp only [exec, execRevertProfile, dispatch_of_due hdue]
    rfl
  · rw [← reload_answered (by decide) hs hsrc]
    simp only [exec, execFactorySettings, dispatch_of_due hdue]
    rfl

/-- Settles O42: a reload in its parts, each read off at the state before it. -/
theorem profileReload : Obligations.ProfileReload := by
  refine ⟨fun tag s hdue => revertProfile_declined hdue,
    fun c kind tag src s hc hdue hs hsrc hkeys => ⟨_, reload_requested hc hdue hs hsrc, ?_⟩⟩
  have hs' : (takeHeld s).settings.keyRepeat.length = 20 := hs
  have hkeys' : (takeHeld s).ksu.keys.length = 20 := hkeys
  have hframe := reload_frame hs' hsrc hkeys'
  have hsettings := reload_settings hs' hsrc
  have hweu := reload_weu hs' hsrc
  have hzone := fun z => reload_zone hs' hsrc z
  have hkey := fun k hk => reload_key (k := k) hs' hsrc hkeys' hk
  have hsilent := reload_silent hs' hsrc hkeys'
  have hconds := reload_conds hs' hsrc hkeys'
  have hunits := reload_units hs' hsrc
  have hchords := reload_chords hs' hsrc
  generalize reload src (takeHeld s) = t at *
  refine ⟨congrArg (State.setLnk · _) hframe, hsettings, hzone, hweu, fun k hk => ?_, hsilent, hconds.1,
    hconds.2, hunits, hchords⟩
  obtain ⟨hk', htold⟩ := hkey k hk
  change if k < src.keypad.keysFitted then t.ksu.key k = s.ksu.key k
    else (t.ksu.key k).state = .idle ∧ (t.ksu.key k).baseline = none ∧ (t.ksu.key k).raw = 0 ∧
      (t.ksu.key k).delta = 0 ∧ _
  rw [hk']
  by_cases hf : k < src.keypad.keysFitted
  · rw [if_pos hf, if_neg (by omega)]
    rfl
  · rw [if_neg hf, if_pos (by omega)]
    exact ⟨rfl, rfl, rfl, rfl, htold (by omega)⟩

end Sys2Proof.Proofs

namespace Sys2Proof.Machine
open Sys2Proof.Safety

/-! ### What a round brings about (R1) -/

/-- The conditions that ZMON owns. -/
def Cond.byZmon : Cond → Bool
  | .sensorFault _ | .supplyLow => true
  | .heaterFault _ | .warmTimeout | .thermalStop | .fanStall | .filterClog | .wdExpired | .wdEarly
  | .bootTimeout | .powerFail | .lockout | .keyStuck | .keysLost | .suppressed | .triggerT _ | .eventsLost
  | .profileDefaulted | .storeFailed | .supervisorReset => false

theorem Cond.byHost_of_byZmon {c : Cond} (h : c.byZmon = true) : c.byHost = false := by
  cases c with
  | sensorFault z => rfl
  | supplyLow => rfl
  | _ => cases h

/-- Neither a raise nor an end of another cause than SUPPRESSED's, nor a notice. -/
def Emit.ofPad : Emit → Bool
  | .raise c | .endCause c => c == .suppressed
  | .notify _ => false
  | .post _ | .offer _ => true

theorem giveRelease_out (now : Word32) (k : Nat) (r : KeyRec) (a b : Bool) (p : Pad) :
    (giveRelease now k r a b p).out =
      p.out ++ [.post (event .keyRelease k (heldMs now r)), keyOffer now k (.release a b)] := by
  simp [giveRelease, Pad.emit]

theorem suppressKey_ofPad (now : Word32) (k : Nat) {p : Pad} (h : ∀ e ∈ p.out, e.ofPad = true) :
    ∀ e ∈ (suppressKey now k p).out, e.ofPad = true := by
  unfold suppressKey
  dsimp only
  split
  · rw [giveRelease_out]
    simpa [Pad.setKey, Emit.ofPad, keyOffer, or_imp, forall_and] using h
  · exact h

theorem startSuppression_ofPad (now : Word32) (cause : Nat) {p : Pad} (h : ∀ e ∈ p.out, e.ofPad = true) :
    ∀ e ∈ (startSuppression now cause p).out, e.ofPad = true := by
  have hkeys : ∀ e ∈ (eachKey (suppressKey now) p).out, e.ofPad = true :=
    List.foldlRecOn (motive := fun q : Pad => ∀ e ∈ q.out, e.ofPad = true) _ _ h
      fun _ hq k _ => suppressKey_ofPad now k hq
  simpa [startSuppression, Pad.emit, Emit.ofPad, or_imp, forall_and] using hkeys

/-- KSU at a completed round hands on releases, and what becomes of SUPPRESSED (R126, R128, R130). -/
theorem keypadRound_ofPad (c : KeypadSettings) (now : Word32) (t0 t3 : Option Int) (u : Ksu) :
    ∀ e ∈ (keypadRound c now t0 t3 u).out, e.ofPad = true := by
  unfold keypadRound
  dsimp only
  split
  · exact startSuppression_ofPad _ _ (by simp)
  · split
    · simp [endSuppression, Pad.emit, Emit.ofPad]
    · split <;> simp

/-- What ZMON hands on raises the conditions of its own that the round has brought (R4, R12), and ends none. -/
theorem zmonEmits_raise {old m : Zmon} {c : Cond} (h : Emit.raise c ∈ zmonEmits old m) :
    (∃ z, c = .sensorFault z ∧ (old.zones.get z).valid = true ∧ (m.zones.get z).valid = false) ∨
      (c = .supplyLow ∧ old.supplyLow = false ∧ m.supplyLow = true) := by
  simp only [zmonEmits, List.mem_append, List.mem_flatMap] at h
  rcases h with ((⟨z, -, h⟩ | h) | ⟨z, -, h⟩) | h
  · unfold zoneLatches at h
    split at h
    · simp_all
    · cases h
  · unfold supplyLatches at h
    split at h
    · simp_all
    · cases h
  · unfold zoneEvents at h
    split at h <;> simp at h
  · unfold supplyEvents at h
    split at h
    · simp at h
    · split at h <;> simp at h

theorem zmonEmits_no_end (old m : Zmon) (c : Cond) : Emit.endCause c ∉ zmonEmits old m := by
  simp only [zmonEmits, List.mem_append, List.mem_flatMap, zoneLatches, supplyLatches, zoneEvents,
    supplyEvents]
  rintro (((⟨z, -, h⟩ | h) | ⟨z, -, h⟩) | h)
  · split at h <;> simp at h
  · split at h <;> simp at h
  · split at h <;> simp at h
  · split at h
    · simp at h
    · split at h <;> simp at h

/-- A cause that is present stays so where nothing ends it. -/
theorem causeAfter_of_true {c : Cond} {es : List Emit} (h : Emit.endCause c ∉ es) :
    causeAfter c es true = true := by
  induction es with
  | nil => rfl
  | cons e es ih =>
    have hthen : causeThen c true e = true := by
      cases e with
      | endCause d =>
        have hd : d ≠ c := fun h' => h (h' ▸ List.mem_cons_self ..)
        simp [causeThen, hd]
      | _ => simp [causeThen]
    rw [show causeAfter c (e :: es) true = causeAfter c es (causeThen c true e) from rfl, hthen]
    exact ih fun h' => h (List.mem_cons_of_mem _ h')

/-- Of the state a round's tasks touch HPS, WEU, CPT, KSU, KEQ, the inbox, CNU and LNK's held requests. -/
structure RoundKept (s t : State) : Prop where
  time : t.time = s.time
  settings : t.settings = s.settings
  zmon : t.zmon = s.zmon
  hsch : t.hsch = s.hsch
  afm : t.afm = s.afm
  pst : t.pst = s.pst
  hold : t.hold = s.hold
  powerGood : t.powerGood = s.powerGood
  lastSent : t.lastSent = s.lastSent
  pending : t.pending = s.pending
  units : t.tmx.units = s.tmx.units
  link : LinkKept s t

theorem RoundKept.refl (s : State) : RoundKept s s :=
  ⟨rfl, rfl, rfl, rfl, rfl, rfl, rfl, rfl, rfl, rfl, rfl, rfl⟩

theorem RoundKept.trans {s t u : State} (h : RoundKept s t) (k : RoundKept t u) : RoundKept s u :=
  ⟨k.time.trans h.time, k.settings.trans h.settings, k.zmon.trans h.zmon, k.hsch.trans h.hsch,
    k.afm.trans h.afm, k.pst.trans h.pst, k.hold.trans h.hold, k.powerGood.trans h.powerGood,
    k.lastSent.trans h.lastSent, k.pending.trans h.pending, k.units.trans h.units, by
      have hk := k.link
      unfold LinkKept at hk ⊢
      rw [hk, h.link]⟩

theorem RoundKept.of_reach {s t : State} (h : HostReach s t) : RoundKept s t :=
  ⟨h.kept.time, h.kept.settings, h.kept.zmon, h.kept.hsch, h.kept.afm, h.kept.pst, h.kept.hold,
    h.kept.powerGood, h.kept.lastSent, h.kept.pending, h.units, h.link⟩

theorem RoundKept.emitAll (es : List Emit) (s : State) : RoundKept s (emitAll es s) :=
  ⟨emitAll_time _ _, emitAll_settings _ _, emitAll_zmon _ _, emitAll_hsch _ _, emitAll_afm _ _,
    emitAll_pst _ _, emitAll_hold _ _, emitAll_powerGood _ _, emitAll_lastSent _ _, emitAll_pending _ _,
    by rw [emitAll_eq]; rfl, by unfold LinkKept; rw [emitAll_lnk]⟩

theorem RoundKept.eq {s t : State} (h : RoundKept s t) : t = { s with
    zmon := t.zmon, hps := t.hps, weu := t.weu, cpt := t.cpt, ksu := t.ksu, keq := t.keq
    tmx := { s.tmx with inbox := t.tmx.inbox }, cnu := t.cnu, lnk := { s.lnk with held := t.lnk.held } } := by
  have hl : t.lnk = { s.lnk with held := t.lnk.held } := h.link
  change (⟨t.time, t.settings, t.zmon, t.hsch, t.afm, t.hps, t.weu, t.cpt, t.ksu, t.keq,
    ⟨t.tmx.inbox, t.tmx.units⟩, t.cnu, t.lnk, t.pst, t.hold, t.powerGood, t.lastSent, t.pending⟩ : State) = _
  rw [h.time, h.settings, h.hsch, h.afm, h.pst, h.hold, h.powerGood, h.lastSent, h.pending, h.units, ← hl]

/-- What the tasks `ts` of a round have brought about so far, from the state `p` with the records published:
ZMON's conditions and events are told by the report alone (R4, R9, R12). -/
structure RoundDone (old : Zmon) (p : State) (ts : List RoundTask) (s : State) : Prop where
  kept : RoundKept p s
  tells : Tells p s
  live : ∀ c : Cond, c.byZmon = true → s.live c = p.live c
  latched : ∀ c : Cond, c.byZmon = true →
    s.latched c = (p.latched c || decide (.report ∈ ts ∧ Emit.raise c ∈ zmonEmits old p.zmon))
  told : .report ∈ ts → ∀ e, Emit.post e ∈ zmonEmits old p.zmon → Told e s

theorem RoundDone.start (old : Zmon) (p : State) : RoundDone old p [] p :=
  ⟨RoundKept.refl p, Tells.refl p, fun _ _ => rfl, fun _ _ => by simp, fun h => by cases h⟩

/-- A task that tells nothing of ZMON. -/
theorem RoundDone.other {old : Zmon} {p s t : State} {ts : List RoundTask} {task : RoundTask}
    (h : RoundDone old p ts s) (htask : task ≠ .report) (hkept : RoundKept s t) (htells : Tells s t)
    (hlive : ∀ c : Cond, c.byZmon = true → t.live c = s.live c)
    (hlatched : ∀ c : Cond, c.byZmon = true → t.latched c = s.latched c) :
    RoundDone old p (ts ++ [task]) t := by
  have hmem : .report ∈ ts ++ [task] ↔ .report ∈ ts := by simp [htask.symm]
  refine ⟨h.kept.trans hkept, h.tells.trans htells, fun c hc => (hlive c hc).trans (h.live c hc),
    fun c hc => ?_, fun hr e he => told_mono (h.told (hmem.1 hr) e he) htells⟩
  rw [hlatched c hc, h.latched c hc]
  simp only [hmem]

theorem RoundDone.host {old : Zmon} {p s t : State} {ts : List RoundTask} {task : RoundTask}
    (h : RoundDone old p ts s) (htask : task ≠ .report) (hreach : HostReach s t) (htells : HostTells s t) :
    RoundDone old p (ts ++ [task]) t :=
  h.other htask (.of_reach hreach) htells.tells
    (fun c hc => htells.live c (by rintro rfl; cases hc) (by rintro rfl; cases hc))
    (fun c hc => htells.latched c (Cond.byHost_of_byZmon hc))

theorem RoundDone.report {old : Zmon} {p s : State} {ts : List RoundTask} (h : RoundDone old p ts s)
    (hp : ∀ c, Emit.raise c ∈ zmonEmits old p.zmon → p.live c = true) :
    RoundDone old p (ts ++ [.report]) (roundTask old .report s) := by
  have htask : roundTask old .report s = emitAll (zmonEmits old p.zmon) s := by
    rw [← h.kept.zmon]; rfl
  rw [htask]
  refine ⟨h.kept.trans (.emitAll _ _), h.tells.trans (Tells.emitAll _ _), fun c hc => ?_, fun c hc => ?_,
    fun _ e he => emitAll_told he s⟩
  · rw [emitAll_live_cond, h.live c hc]
    by_cases hr : Emit.raise c ∈ zmonEmits old p.zmon
    · rw [hp c hr]
      exact causeAfter_of_true (zmonEmits_no_end _ _ _)
    · exact causeAfter_of_untouched hr (zmonEmits_no_end _ _ _) _
  · rw [emitAll_latched_cond _ _ (by rintro rfl; cases hc) (by rintro rfl; cases hc), h.latched c hc]
    by_cases hr : Emit.raise c ∈ zmonEmits old p.zmon <;> simp [hr]

theorem RoundDone.keypad {old : Zmon} {p s : State} {ts : List RoundTask} (h : RoundDone old p ts s) :
    RoundDone old p (ts ++ [.keypad]) (roundTask old .keypad s) := by
  simp only [roundTask]
  generalize hpad : keypadRound s.settings.keypad s.time.ms (s.zoneTemp .n0) (s.zoneTemp .n3) s.ksu = pad
  have hout : ∀ e ∈ pad.out, e.ofPad = true := hpad ▸ keypadRound_ofPad _ _ _ _ _
  have hraise : ∀ c : Cond, c.byZmon = true → Emit.raise c ∉ pad.out := fun c hc hm => by
    have := hout _ hm
    simp only [Emit.ofPad, beq_iff_eq] at this
    subst this; cases hc
  have hend : ∀ c : Cond, c.byZmon = true → Emit.endCause c ∉ pad.out := fun c hc hm => by
    have := hout _ hm
    simp only [Emit.ofPad, beq_iff_eq] at this
    subst this; cases hc
  have hksu : RoundKept s (s.setKsu pad.ksu) := ⟨rfl, rfl, rfl, rfl, rfl, rfl, rfl, rfl, rfl, rfl, rfl, rfl⟩
  refine h.other (by decide) (hksu.trans (.emitAll _ _)) ?_ (fun c hc => ?_) fun c hc => ?_
  · exact Tells.trans (t := s.setKsu pad.ksu) ⟨List.prefix_refl _, fun _ h => h⟩ (Tells.emitAll _ _)
  · rw [emitAll_live_cond, causeAfter_of_untouched (hraise c hc) (hend c hc)]
    rfl
  · rw [emitAll_latched_cond _ _ (by rintro rfl; cases hc) (by rintro rfl; cases hc)]
    simp only [hraise c hc, decide_false, Bool.or_false]
    rfl

theorem RoundDone.task {old : Zmon} {p s : State} {ts : List RoundTask} (h : RoundDone old p ts s)
    (hp : ∀ c, Emit.raise c ∈ zmonEmits old p.zmon → p.live c = true) (task : RoundTask) :
    RoundDone old p (ts ++ [task]) (roundTask old task s) := by
  cases task with
  | report => exact h.report hp
  | crit z =>
    simp only [roundTask]
    split
    · exact h.host (by simp) (critExcursion_reach z s) (critExcursion_tells z s)
    · exact h.host (by simp) (HostReach.refl s) (HostTells.refl s)
  | admission => exact h.host (by simp) (testAdmission_reach s) (testAdmission_tells s)
  | keypad => exact h.keypad

/-- The tasks of a round in any order. -/
theorem RoundDone.tasks {old : Zmon} {p : State}
    (hp : ∀ c, Emit.raise c ∈ zmonEmits old p.zmon → p.live c = true) (order : List RoundTask) :
    RoundDone old p order (order.foldl (fun s t => roundTask old t s) p) := by
  induction order using List.reverseRecOn with
  | nil => exact .start old p
  | append_singleton ts t ih => rw [List.foldl_append]; exact ih.task hp t

/-- The state in which a round's records stand published, before its tasks (R1). -/
def published (raw : PerFour Int) (supply : Int) (s : State) : State :=
  publishRound (roundZmon raw supply s) s

theorem published_raised {raw : PerFour Int} {supply : Int} {s : State} {c : Cond}
    (h : Emit.raise c ∈ zmonEmits s.zmon (published raw supply s).zmon) :
    (published raw supply s).live c = true := by
  unfold published at h ⊢
  rw [publishRound_live]
  rw [publishRound_zmon] at h
  rcases zmonEmits_raise h with ⟨z, rfl, -, hz⟩ | ⟨rfl, -, hz⟩
  · simp [hz]
  · exact hz

theorem takeRound_done (raw : PerFour Int) (supply : Int) (order : List RoundTask) (s : State) :
    RoundDone s.zmon (published raw supply s) order (takeRound raw supply order s) :=
  RoundDone.tasks (fun _ => published_raised) order

theorem report_mem {order : List RoundTask} (h : order.isPerm RoundTask.all = true) :
    .report ∈ order := ((List.isPerm_iff.1 h).mem_iff).2 (by decide)

theorem execSampleRound_eq {raw : PerFour Int} {supply : Int} {order : List RoundTask} {s : State}
    (h : order.isPerm RoundTask.all = true) (hs : s.hold = false) :
    exec (.sampleRound raw supply order) s = .next (takeRound raw supply order s) := by
  simp [exec, execSampleRound, h, hs]

end Sys2Proof.Machine

namespace Sys2Proof.Machine
open Sys2Proof.Safety

/-! ### A zone record through a round (R2 to R11) -/

/-- The in-window timer after a round with this temperature (R7). -/
def inWindowAfter (c : ZoneSettings) (n : Nat) : Option Int → Nat
  | some t => if c.admitLow ≤ t ∧ t ≤ c.admitHigh then satInc 65535 n else 0
  | none => 0

/-- The alarm state after a round with this temperature (R9, R10). -/
def alarmAfter (c : ZoneSettings) (a : Alarm) : Option Int → Alarm
  | some t => nextAlarm c a t
  | none => a

/-- The crit timer after a round with this temperature (R11). -/
def critAfter (c : ZoneSettings) (n : Nat) : Option Int → Nat
  | some t => if c.crit < t then satInc 10 n else 0
  | none => 0

/-- The blind timer after a round (R8). -/
def blindAfter (blindCond valid : Bool) (n : Nat) : Nat :=
  if valid then 0 else if blindCond then satInc 65535 n else n

theorem stepInWindow_eq (c : ZoneSettings) (z : ZoneRec) :
    stepInWindow c z = { z with inWindow := inWindowAfter c z.inWindow z.temp } := by
  unfold stepInWindow inWindowAfter
  cases z.temp with
  | none => rfl
  | some t => dsimp only; split <;> rfl

theorem stepBlind_eq (b : Bool) (z : ZoneRec) :
    stepBlind b z = { z with blind := blindAfter b z.valid z.blind } := by
  unfold stepBlind blindAfter
  split
  · rfl
  · split <;> rfl

theorem stepAlarm_eq (c : ZoneSettings) (z : ZoneRec) :
    stepAlarm c z = { z with alarm := alarmAfter c z.alarm z.temp } := by
  unfold stepAlarm alarmAfter
  cases z.temp <;> rfl

theorem stepCrit_eq (c : ZoneSettings) (z : ZoneRec) :
    stepCrit c z = { z with critTimer := critAfter c z.critTimer z.temp } := by
  unfold stepCrit critAfter
  cases z.temp with
  | none => rfl
  | some t => dsimp only; split <;> rfl

/-- The validity, its runs, the ring and the filtered temperature of a round (R4, R5). -/
def sampled (x : Int) (z : ZoneRec) : ZoneRec :=
  filterSample x z.valid (judgeValidity (sampleValid x) z)

theorem judgeValidity_others (ok : Bool) (z : ZoneRec) : judgeValidity ok z =
    { z with
      valid := (judgeValidity ok z).valid, invalidRun := (judgeValidity ok z).invalidRun
      validRun := (judgeValidity ok z).validRun } := by
  unfold judgeValidity
  split
  · split
    · rfl
    · split <;> rfl
  · split
    · split <;> rfl
    · rfl

theorem filterSample_others (x : Int) (was : Bool) (z : ZoneRec) : filterSample x was z =
    { z with ring := (filterSample x was z).ring, filtered := (filterSample x was z).filtered } := by
  unfold filterSample
  split <;> rfl

theorem sampled_others (x : Int) (z : ZoneRec) : sampled x z =
    { z with
      valid := (judgeValidity (sampleValid x) z).valid
      invalidRun := (judgeValidity (sampleValid x) z).invalidRun
      validRun := (judgeValidity (sampleValid x) z).validRun
      ring := (sampled x z).ring, filtered := (sampled x z).filtered } := by
  have hj := judgeValidity_others (sampleValid x) z
  refine (filterSample_others x z.valid _).trans (ZoneRec.mk.injEq .. ▸ ?_)
  exact ⟨rfl, rfl, rfl, rfl, rfl, by rw [hj], by rw [hj], by rw [hj], by rw [hj]⟩

/-- A zone record after a round, timer by timer. -/
theorem stepZone_eq (c : ZoneSettings) (b : Bool) (x : Int) (z : ZoneRec) : stepZone c b x z =
    { sampled x z with
      inWindow := inWindowAfter c z.inWindow (sampled x z).temp
      blind := blindAfter b (sampled x z).valid z.blind
      alarm := alarmAfter c z.alarm (sampled x z).temp
      critTimer := critAfter c z.critTimer (sampled x z).temp } := by
  have hz : (sampled x z).inWindow = z.inWindow ∧ (sampled x z).blind = z.blind ∧
      (sampled x z).alarm = z.alarm ∧ (sampled x z).critTimer = z.critTimer := by
    rw [sampled_others]; exact ⟨rfl, rfl, rfl, rfl⟩
  obtain ⟨hw, hb, ha, hc⟩ := hz
  change stepCrit c (stepAlarm c (stepBlind b (stepInWindow c (sampled x z)))) = _
  rw [stepInWindow_eq, stepBlind_eq, stepAlarm_eq, stepCrit_eq, hw]
  rw [← hb, ← ha, ← hc]
  rfl

theorem sampleValid_iff (x : Int) : sampleValid x = true ↔ -550 ≤ x ∧ x ≤ 1250 := by
  simp [sampleValid]

/-- The validity judgement, case by case (R4). -/
theorem judgeValidity_cases (x : Int) (o : ZoneRec) :
    let n := judgeValidity (sampleValid x) o
    let ok : Prop := -550 ≤ x ∧ x ≤ 1250
    (o.valid = true → ok → n.valid = true ∧ n.invalidRun = 0) ∧
    (o.valid = true → ¬ ok →
      if o.invalidRun + 1 < 3 then n.valid = true ∧ n.invalidRun = o.invalidRun + 1
      else n.valid = false ∧ n.invalidRun = 0 ∧ n.validRun = 0) ∧
    (o.valid = false → ok →
      if o.validRun + 1 < 10 then n.valid = false ∧ n.validRun = o.validRun + 1
      else n.valid = true ∧ n.invalidRun = 0 ∧ n.validRun = 0) ∧
    (o.valid = false → ¬ ok → n.valid = false ∧ n.validRun = 0) := by
  intro n ok
  have hok : sampleValid x = decide ok := by rw [Bool.eq_iff_iff, decide_eq_true_iff, sampleValid_iff]
  simp only [n, judgeValidity, hok]
  refine ⟨fun hv h => ?_, fun hv h => ?_, fun hv h => ?_, fun hv h => ?_⟩
  · simp [hv, h]
  · by_cases hr : o.invalidRun + 1 < 3
    · simp [hv, h, hr, Nat.not_le.2 hr]
    · simp [hv, h, hr, Nat.not_lt.1 hr]
  · by_cases hr : o.validRun + 1 < 10
    · simp [hv, h, hr, Nat.not_le.2 hr]
    · simp [hv, h, hr, Nat.not_lt.1 hr]
  · simp [hv, h]

/-- The ring and the filtered temperature, case by case (R5). -/
theorem sampled_ring (x : Int) (o : ZoneRec) :
    let n := sampled x o
    let ok : Prop := -550 ≤ x ∧ x ≤ 1250
    (n.valid = false → n.filtered = none) ∧
    (n.valid = true →
      n.ring =
        (if o.valid = false then [x]
         else if ok then
           (if o.ring.length < 4 then o.ring ++ [x] else o.ring.drop 1 ++ [x])
         else o.ring) ∧
      n.filtered =
        (if n.ring = [] then none else some (Int.fdiv n.ring.sum n.ring.length))) := by
  intro n ok
  have hring : (judgeValidity (sampleValid x) o).ring = o.ring := by rw [judgeValidity_others]
  have hvalid : n.valid = (judgeValidity (sampleValid x) o).valid := by
    simp only [n]; rw [sampled_others]
  rw [hvalid]
  simp only [n, sampled, filterSample, hring]
  refine ⟨fun h => by simp [h], fun h => ?_⟩
  rw [if_pos h]
  refine ⟨?_, by simp [ringMean]⟩
  cases ho : o.valid with
  | false => rfl
  | true =>
    by_cases hx : ok
    · have happend : ringAppend x o.ring =
          if o.ring.length < 4 then o.ring ++ [x] else o.ring.drop 1 ++ [x] := by
        unfold ringAppend
        by_cases hl : o.ring.length < 4
        · rw [if_pos hl, if_pos (by simp; omega)]
        · rw [if_neg hl, if_neg (by simp; omega), List.drop_append_of_le_length (by omega)]
      simp [(sampleValid_iff x).2 hx, show -550 ≤ x ∧ x ≤ 1250 from hx, ok, happend]
    · have hx' : sampleValid x = false := by
        rw [Bool.eq_false_iff, Ne, sampleValid_iff]; exact hx
      simp [hx', hx]

/-- Where the band between the alarms is not empty, the alarm state a temperature gives (R9). -/
theorem nextAlarm_eq {c : ZoneSettings} (hc : c.floor + 20 ≤ c.ceiling) (a : Alarm) (t : Int) :
    nextAlarm c a t =
      if t < c.floor then .low else if c.ceiling < t then .high
      else if c.floor + 10 ≤ t ∧ t ≤ c.ceiling - 10 then .normal else a := by
  cases a <;> simp only [nextAlarm] <;> grind

end Sys2Proof.Machine

namespace Sys2Proof.Machine
open Sys2Proof.Safety

/-! ### The records a round publishes -/

theorem stepSupply_zones (low sample : Nat) (m : Zmon) : (stepSupply low sample m).zones = m.zones := by
  unfold stepSupply
  dsimp only
  split
  · split
    · split <;> rfl
    · rfl
  · split
    · split <;> rfl
    · rfl

/-- A zone's record in a round follows its own sample (R2). -/
theorem roundZmon_zone (raw : PerFour Int) (supply : Int) (s : State) (z : Zone) :
    (roundZmon raw supply s).zones.get z =
      stepZone (s.settings.zone.get z) (s.blindCond z) (raw.get z) (s.zmon.zones.get z) := by
  unfold roundZmon
  rw [stepSupply_zones]
  cases z <;> rfl

/-- The validity, its runs, the ring and the filtered temperature of a round are those of its sample. -/
theorem stepZone_sampled (c : ZoneSettings) (b : Bool) (x : Int) (o : ZoneRec) :
    let n := stepZone c b x o
    n.valid = (judgeValidity (sampleValid x) o).valid ∧
    n.invalidRun = (judgeValidity (sampleValid x) o).invalidRun ∧
    n.validRun = (judgeValidity (sampleValid x) o).validRun ∧
    n.valid = (sampled x o).valid ∧ n.ring = (sampled x o).ring ∧ n.filtered = (sampled x o).filtered := by
  intro n
  simp only [n]
  rw [stepZone_eq]
  refine ⟨?_, ?_, ?_, rfl, rfl, rfl⟩ <;> (rw [sampled_others])

/-- The timers and the alarm state of a round follow the zone's new temperature. -/
theorem stepZone_timers (c : ZoneSettings) (b : Bool) (x : Int) (o : ZoneRec) :
    let n := stepZone c b x o
    n.inWindow = inWindowAfter c o.inWindow n.temp ∧ n.blind = blindAfter b n.valid o.blind ∧
    n.alarm = alarmAfter c o.alarm n.temp ∧ n.critTimer = critAfter c o.critTimer n.temp := by
  intro n
  simp only [n]
  rw [stepZone_eq]
  exact ⟨rfl, rfl, rfl, rfl⟩

theorem satInc_eq_min (n : Nat) : satInc 65535 n = min 65535 (n + 1) := by
  unfold satInc
  split <;> omega

/-- The blind condition, by heater number (R8): Z3 has none. -/
theorem blindCond_iff (s : State) (z : Zone) : s.blindCond z = true ↔ ∀ h : Heater, h.num = z.num →
    (s.hsch.heaters.get h).enabled = true ∧ s.latched (.heaterFault h) = false ∧
      1 ≤ (s.hsch.heaters.get h).fallback := by
  have hall (p : Heater → Prop) : (∀ h, p h) ↔ p .n0 ∧ p .n1 ∧ p .n2 :=
    ⟨fun hp => ⟨hp _, hp _, hp _⟩, fun hp h => by cases h <;> simp [hp]⟩
  cases z <;> simp [hall, State.blindCond, Three.num, Four.num, and_assoc]

/-- The blind timer, case by case (R8). -/
theorem blindAfter_cases {b valid : Bool} (n : Nat) {counts : Prop} (h : b = true ↔ counts) :
    (valid = true → blindAfter b valid n = 0) ∧
    (valid = false → counts → blindAfter b valid n = min 65535 (n + 1)) ∧
    (valid = false → ¬ counts → blindAfter b valid n = n) := by
  refine ⟨fun hv => ?_, fun hv hc => ?_, fun hv hc => ?_⟩
  · simp [blindAfter, hv]
  · simp [blindAfter, hv, h.2 hc, satInc_eq_min]
  · have hb : b = false := Bool.eq_false_iff.2 fun hb => hc (h.1 hb)
    simp [blindAfter, hv, hb]

/-- The report of a round raises a zone's fault where the zone has become INVALID, and nowhere else (R4). -/
theorem sensorFault_raised_iff (old m : Zmon) (z : Zone) : Emit.raise (.sensorFault z) ∈ zmonEmits old m ↔
    (old.zones.get z).valid = true ∧ (m.zones.get z).valid = false := by
  constructor
  · intro h
    rcases zmonEmits_raise h with ⟨z', hz, h1, h2⟩ | ⟨hc, -, -⟩
    · cases hz; exact ⟨h1, h2⟩
    · cases hc
  · rintro ⟨h1, h2⟩
    have hall : z ∈ Four.all := by cases z <;> decide
    simp only [zmonEmits, List.mem_append, List.mem_flatMap]
    exact .inl (.inl (.inl ⟨z, hall, by simp [zoneLatches, h1, h2]⟩))

theorem sensorFault_raised (old m : Zmon) (z : Zone) :
    decide (Emit.raise (.sensorFault z) ∈ zmonEmits old m) =
      ((old.zones.get z).valid && !(m.zones.get z).valid) := by
  simp only [sensorFault_raised_iff]
  cases (old.zones.get z).valid <;> cases (m.zones.get z).valid <;> rfl

/-- A changed alarm state is posted by the report (R9). -/
theorem alarm_reported {old m : Zmon} {z : Zone} (h : (m.zones.get z).alarm ≠ (old.zones.get z).alarm) :
    Emit.post (event (m.zones.get z).alarm.cls z.num ((m.zones.get z).temp.getD 0)) ∈ zmonEmits old m := by
  have hall : z ∈ Four.all := by cases z <;> decide
  simp only [zmonEmits, List.mem_append, List.mem_flatMap]
  exact .inl (.inr ⟨z, hall, by simp [zoneEvents, h]⟩)

theorem takeRound_zmon (raw : PerFour Int) (supply : Int) (order : List RoundTask) (s : State) :
    (takeRound raw supply order s).zmon = roundZmon raw supply s :=
  (takeRound_done raw supply order s).kept.zmon

/-- Of the state a round changes ZMON's records and what its tasks touch (R1). -/
theorem takeRound_frame (raw : PerFour Int) (supply : Int) (order : List RoundTask) (s : State) :
    takeRound raw supply order s = { s with
      zmon := (takeRound raw supply order s).zmon, hps := (takeRound raw supply order s).hps
      weu := (takeRound raw supply order s).weu, cpt := (takeRound raw supply order s).cpt
      ksu := (takeRound raw supply order s).ksu, keq := (takeRound raw supply order s).keq
      tmx := { s.tmx with inbox := (takeRound raw supply order s).tmx.inbox }
      cnu := (takeRound raw supply order s).cnu
      lnk := { s.lnk with held := (takeRound raw supply order s).lnk.held } } :=
  (takeRound_done raw supply order s).kept.eq

/-- The live causes of ZMON's conditions after a round (R4, R12). -/
theorem takeRound_live (raw : PerFour Int) (supply : Int) (order : List RoundTask) (s : State) :
    (∀ z, (takeRound raw supply order s).live (.sensorFault z) =
      !((roundZmon raw supply s).zones.get z).valid) ∧
    (takeRound raw supply order s).live .supplyLow = (roundZmon raw supply s).supplyLow := by
  have hdone := takeRound_done raw supply order s
  refine ⟨fun z => (hdone.live _ rfl).trans ?_, (hdone.live _ rfl).trans ?_⟩
  · exact publishRound_live _ _ (.sensorFault z)
  · exact publishRound_live _ _ .supplyLow

/-- The latches of ZMON's conditions after a round whose report has been made (R4, R12). -/
theorem takeRound_latched {raw : PerFour Int} {supply : Int} {order : List RoundTask} (s : State)
    (h : .report ∈ order) {c : Cond} (hc : c.byZmon = true) :
    (takeRound raw supply order s).latched c =
      (s.latched c || decide (Emit.raise c ∈ zmonEmits s.zmon (roundZmon raw supply s))) := by
  rw [(takeRound_done raw supply order s).latched c hc]
  simp only [h, true_and]
  rfl

theorem takeRound_told {raw : PerFour Int} {supply : Int} {order : List RoundTask} (s : State)
    (h : .report ∈ order) {e : Event} (he : Emit.post e ∈ zmonEmits s.zmon (roundZmon raw supply s)) :
    Told e (takeRound raw supply order s) :=
  (takeRound_done raw supply order s).told h e he

end Sys2Proof.Machine

namespace Sys2Proof.Proofs
open Sys2Proof.Machine Sys2Proof.Safety

/-- Settles O43: the records are those of the round whatever its tasks do, and the report tells their changes
wherever in the order it falls. -/
theorem sampleRoundUpdatesZones : Obligations.SampleRoundUpdatesZones := by
  intro raw supply order s horder hhold
  have hreport := report_mem horder
  refine ⟨_, execSampleRound_eq horder hhold, takeRound_frame raw supply order s, fun z => ?_⟩
  have hlive := (takeRound_live raw supply order s).1 z
  have hlatched := takeRound_latched (raw := raw) (supply := supply) s hreport (c := .sensorFault z) rfl
  rw [sensorFault_raised] at hlatched
  have htold := fun h => takeRound_told (raw := raw) (supply := supply) s hreport
    (alarm_reported (old := s.zmon) (z := z) h)
  have hzmon := takeRound_zmon raw supply order s
  generalize takeRound raw supply order s = t at *
  have hn := roundZmon_zone raw supply s z
  rw [← hzmon] at hn hlive hlatched htold
  have htemp : t.zoneTemp z = (t.zmon.zones.get z).temp := rfl
  have hsampled := stepZone_sampled (s.settings.zone.get z) (s.blindCond z) (raw.get z) (s.zmon.zones.get z)
  have htimers := stepZone_timers (s.settings.zone.get z) (s.blindCond z) (raw.get z) (s.zmon.zones.get z)
  have hcounts := blindCond_iff s z
  simp only [← hn] at hsampled htimers
  obtain ⟨hvalid, hinvalidRun, hvalidRun, hvalid', hring, hfiltered⟩ := hsampled
  obtain ⟨hwindow, hblind, halarm, hcrit⟩ := htimers
  have hjudged := judgeValidity_cases (raw.get z) (s.zmon.zones.get z)
  have hringed := sampled_ring (raw.get z) (s.zmon.zones.get z)
  simp only [← hvalid, ← hinvalidRun, ← hvalidRun] at hjudged
  simp only [← hvalid', ← hring, ← hfiltered] at hringed
  rw [htemp]
  generalize t.zmon.zones.get z = n at *
  obtain ⟨hv1, hv2, hv3, hv4⟩ := hjudged
  refine ⟨hv1, hv2, hv3, hv4, hlive, hlatched, hringed.1, hringed.2, ?_, ?_, fun hband => ?_,
    fun hne => ?_, ?_⟩
  · rw [hwindow]
    cases n.temp <;> rfl
  · rw [hblind]
    exact blindAfter_cases _ hcounts
  · rw [halarm]
    cases n.temp with
    | none => rfl
    | some v => exact nextAlarm_eq hband _ v
  · have hcls : ∀ a : Alarm, a.cls =
        match a with | .low => .zoneLow | .high => .zoneHigh | .normal => .zoneNormal :=
      fun a => by cases a <;> rfl
    have h := htold hne
    rw [event, hcls] at h
    exact h
  · rw [hcrit]
    cases n.temp <;> rfl

end Sys2Proof.Proofs

namespace Sys2Proof.Machine
open Sys2Proof.Safety

/-! ### What leaves the host aside -/

theorem queueNotice_keeps {q : List Notice} {n m : Notice} (hm : m.isShutdown = false) (hn : n ∈ q) :
    n ∈ (queueNotice q m).1 := by
  unfold queueNotice
  simp only [hm, Bool.false_and]
  split
  · exact hn
  · split
    · contradiction
    · split
      · exact List.mem_append_left _ hn
      · exact hn

/-- A SHUTDOWN_REQUEST always finds a place: another's, a free one, or the newest notice's (R174). -/
theorem queueNotice_shutdown {q : List Notice} {n : Notice} (hn : n.isShutdown = true) :
    n ∈ (queueNotice q n).1 := by
  have hcoalesces : coalesces q n = false := by
    unfold coalesces
    unfold Notice.isShutdown at hn
    split at hn
    · rename_i h; rw [h]
    · cases hn
  unfold queueNotice
  rw [if_neg (by simp [hcoalesces])]
  split
  · rename_i h
    simp only [hn, Bool.true_and, List.any_eq_true] at h
    obtain ⟨m, hm, hs⟩ := h
    exact List.mem_map.2 ⟨m, hm, by simp [hs]⟩
  · split
    · exact List.mem_append_right _ (List.mem_singleton_self _)
    · exact List.mem_append_right _ (List.mem_singleton_self _)

/-- HPS, WEU, LNK, THERMAL_STOP's latch and the host state that CNU has seen are as they were; no notice has
left the queue. -/
structure Aside (s t : State) : Prop where
  hps : t.hps = s.hps
  weu : t.weu = s.weu
  lnk : t.lnk = s.lnk
  thermal : t.latched .thermalStop = s.latched .thermalStop
  seen : t.cnu.seen = s.cnu.seen
  notices : ∀ n ∈ s.cnu.notices, n ∈ t.cnu.notices

theorem Aside.refl (s : State) : Aside s s := ⟨rfl, rfl, rfl, rfl, rfl, fun _ h => h⟩

theorem Aside.trans {s t u : State} (h : Aside s t) (k : Aside t u) : Aside s u :=
  ⟨k.hps.trans h.hps, k.weu.trans h.weu, k.lnk.trans h.lnk, k.thermal.trans h.thermal,
    k.seen.trans h.seen, fun n hn => k.notices n (h.notices n hn)⟩

/-- Every notice but a SHUTDOWN_REQUEST joins the queue or is dropped (R174). -/
theorem Aside.notify {b : NoticeBody} (h : ∀ time, Notice.isShutdown ⟨time, b⟩ = false) (s : State) :
    Aside s (notify b s) := by
  refine ⟨notify_hps _ _, notify_weu _ _, notify_lnk _ _, notify_latched_cond _ _ _, notify_seen _ _,
    fun n hn => ?_⟩
  unfold Machine.notify
  split
  · exact queueNotice_keeps (h _) hn
  · exact hn

theorem Aside.raise {c : Cond} (h : c ≠ .thermalStop) (s : State) : Aside s (raise c s) := by
  refine ⟨raise_hps _ _, raise_weu _ _, raise_lnk _ _, raise_latched_of_ne h s, raise_seen _ _,
    fun n hn => ?_⟩
  unfold Machine.raise
  split
  · exact (Aside.notify (fun _ => rfl) (setLatch c s)).notices n hn
  · exact hn

theorem Aside.post (e : Event) (s : State) : Aside s (post e s) := by
  unfold Machine.post
  split
  · exact ⟨rfl, rfl, rfl, rfl, rfl, fun _ h => h⟩
  · exact Aside.raise (by decide) s

theorem Aside.offer (r : KeyEvent) (s : State) : Aside s (offer r s) := by
  have hkeq (q : Keq) : Aside s (s.setKeq q) := ⟨rfl, rfl, rfl, rfl, rfl, fun _ h => h⟩
  unfold Machine.offer
  split
  · dsimp only
    split
    · exact (hkeq _).trans (Aside.raise (by decide) _)
    · exact hkeq _
  · exact Aside.refl s

/-- The hand-on raises no THERMAL_STOP and is no notice. -/
def Emit.isAside : Emit → Bool
  | .raise c => c != .thermalStop
  | .notify _ => false
  | .post _ | .offer _ | .endCause _ => true

theorem Aside.emitAll {es : List Emit} (h : ∀ e ∈ es, e.isAside = true) (s : State) :
    Aside s (emitAll es s) := by
  induction es generalizing s with
  | nil => exact Aside.refl s
  | cons e es ih =>
    obtain ⟨he, hes⟩ := List.forall_mem_cons.1 h
    refine Aside.trans ?_ (ih hes (emit e s))
    cases e with
    | post e => exact Aside.post e s
    | offer r => exact Aside.offer r s
    | raise c => exact Aside.raise (by simpa [Emit.isAside] using he) s
    | endCause c => exact ⟨rfl, rfl, rfl, rfl, rfl, fun _ h => h⟩
    | notify b => cases he

theorem Emit.isAside_of_ofPad {e : Emit} (h : e.ofPad = true) : e.isAside = true := by
  cases e with
  | raise c =>
    simp only [Emit.ofPad, beq_iff_eq] at h
    subst h
    rfl
  | notify b => cases h
  | _ => rfl

theorem zmonEmits_aside (old m : Zmon) : ∀ e ∈ zmonEmits old m, e.isAside = true := by
  intro e he
  cases e with
  | raise c =>
    rcases zmonEmits_raise he with ⟨z, rfl, -⟩ | ⟨rfl, -⟩
    · rfl
    · rfl
  | notify b =>
    simp only [zmonEmits, List.mem_append, List.mem_flatMap, zoneLatches, supplyLatches, zoneEvents,
      supplyEvents] at he
    rcases he with ((⟨z, -, h⟩ | h) | ⟨z, -, h⟩) | h
    · split at h <;> simp at h
    · split at h <;> simp at h
    · split at h <;> simp at h
    · split at h
      · simp at h
      · split at h <;> simp at h
  | _ => rfl

end Sys2Proof.Machine

namespace Sys2Proof.Machine
open Sys2Proof.Safety

/-! ### The tasks of a round at the host (R11, R54, R65) -/

/-- The records of the round with which the state began have come to a crit excursion of the zone (R11). -/
def reachedIn (s : State) (m : Zmon) (z : Zone) : Prop :=
  critReached (s.zmon.zones.get z) (m.zones.get z) = true

/-- What every task of the round of `s` finds: the records `m` published, the settings and the time of `s`. -/
structure Midway (s : State) (m : Zmon) (u : State) : Prop where
  zmon : u.zmon = m
  settings : u.settings = s.settings
  time : u.time = s.time
  hold : u.hold = s.hold
  supplyLow : u.live .supplyLow = m.supplyLow

theorem RoundDone.midway {raw : PerFour Int} {supply : Int} {s u : State} {ts : List RoundTask}
    (h : RoundDone s.zmon (published raw supply s) ts u) : Midway s (roundZmon raw supply s) u :=
  ⟨h.kept.zmon, h.kept.settings, h.kept.time, h.kept.hold,
    (h.live .supplyLow rfl).trans (publishRound_live _ _ .supplyLow)⟩

theorem Aside.of_report (old : Zmon) (s : State) : Aside s (roundTask old .report s) :=
  Aside.emitAll (zmonEmits_aside _ _) s

theorem Aside.of_keypad (old : Zmon) (s : State) : Aside s (roundTask old .keypad s) := by
  have hksu (k : Ksu) : Aside s (s.setKsu k) := ⟨rfl, rfl, rfl, rfl, rfl, fun _ h => h⟩
  exact (hksu _).trans (Aside.emitAll (fun e he => Emit.isAside_of_ofPad (keypadRound_ofPad _ _ _ _ _ e he)) _)

section
variable {raw : PerFour Int} {supply : Int} {s : State} {after : State → Prop}

/-- The outcome of a round at the host: `after` from the first crit excursion on, and nothing before it, where
admission is not met before it. -/
theorem tasks_outcome
    (hadmission : ∀ u, Midway s (roundZmon raw supply s) u → Aside (published raw supply s) u →
      testAdmission u = u)
    (hfirst : ∀ u z, Midway s (roundZmon raw supply s) u → Aside (published raw supply s) u →
      reachedIn s (roundZmon raw supply s) z → after (critExcursion z u))
    (hagain : ∀ u z, Midway s (roundZmon raw supply s) u → after u → after (critExcursion z u))
    (hadmitted : ∀ u, Midway s (roundZmon raw supply s) u → after u → after (testAdmission u))
    (haside : ∀ u v, after u → Aside u v → after v) (ts : List RoundTask) :
    ((∀ z, .crit z ∈ ts → ¬ reachedIn s (roundZmon raw supply s) z) →
      Aside (published raw supply s)
        (ts.foldl (fun s' t => roundTask s.zmon t s') (published raw supply s))) ∧
    ((∃ z, .crit z ∈ ts ∧ reachedIn s (roundZmon raw supply s) z) →
      after (ts.foldl (fun s' t => roundTask s.zmon t s') (published raw supply s))) := by
  induction ts using List.reverseRecOn with
  | nil => exact ⟨fun _ => Aside.refl _, by simp⟩
  | append_singleton ts t ih =>
    have hmid := (RoundDone.tasks (old := s.zmon) (p := published raw supply s)
      (fun _ => published_raised) ts).midway
    rw [List.foldl_append]
    change (_ → Aside _ (roundTask s.zmon t _)) ∧ (_ → after (roundTask s.zmon t _))
    generalize ts.foldl (fun s' t => roundTask s.zmon t s') (published raw supply s) = u at ih hmid ⊢
    obtain ⟨hnone, hsome⟩ := ih
    have hsilent : t = .report ∨ t = .keypad → Aside u (roundTask s.zmon t u) := by
      rintro (rfl | rfl)
      · exact Aside.of_report _ u
      · exact Aside.of_keypad _ u
    cases t with
    | crit z =>
      simp only [roundTask, hmid.zmon]
      by_cases hz : critReached (s.zmon.zones.get z) ((roundZmon raw supply s).zones.get z) = true
      · rw [if_pos hz]
        refine ⟨fun h => absurd hz (h z (by simp)), fun _ => ?_⟩
        by_cases hbefore : ∃ z, .crit z ∈ ts ∧ reachedIn s (roundZmon raw supply s) z
        · exact hagain u z hmid (hsome hbefore)
        · exact hfirst u z hmid (hnone fun z' hm hr => hbefore ⟨z', hm, hr⟩) hz
      · rw [if_neg hz]
        refine ⟨fun h => hnone fun z' hm => h z' (by simp [hm]), fun ⟨z', hm, hr⟩ => hsome ⟨z', ?_, hr⟩⟩
        have hne : z' ≠ z := fun h => hz (h ▸ hr)
        simpa [hne] using hm
    | admission =>
      refine ⟨fun h => ?_, fun ⟨z, hm, hr⟩ => hadmitted u hmid (hsome ⟨z, by simpa using hm, hr⟩)⟩
      have hu := hnone fun z hm => h z (by simp [hm])
      simp only [roundTask, hadmission u hmid hu]
      exact hu
    | report =>
      exact ⟨fun h => (hnone fun z hm => h z (by simp [hm])).trans (hsilent (.inl rfl)),
        fun ⟨z, hm, hr⟩ => haside u _ (hsome ⟨z, by simpa using hm, hr⟩) (hsilent (.inl rfl))⟩
    | keypad =>
      exact ⟨fun h => (hnone fun z hm => h z (by simp [hm])).trans (hsilent (.inr rfl)),
        fun ⟨z, hm, hr⟩ => haside u _ (hsome ⟨z, by simpa using hm, hr⟩) (hsilent (.inr rfl))⟩

end

theorem crit_mem {order : List RoundTask} (h : order.isPerm RoundTask.all = true) (z : Zone) :
    .crit z ∈ order := ((List.isPerm_iff.1 h).mem_iff).2 (by cases z <;> decide)

/-! ### Entries and admission -/

@[simp] theorem restartReport_lnk (s : State) : (restartReport s).lnk = s.lnk := by
  unfold restartReport
  split
  · dsimp only; split
    · rw [notify_lnk]; rfl
    · rfl
  · rfl

@[simp] theorem reportEntry_lnk (new old : HostState) (s : State) : (reportEntry new old s).lnk = s.lnk := by
  unfold reportEntry
  dsimp only
  split
  · exact restartReport_lnk _
  · rfl

@[simp] theorem leaveCauses_lnk (old new : HostState) (s : State) : (leaveCauses old new s).lnk = s.lnk := by
  unfold leaveCauses
  dsimp only
  split <;> split <;> rfl

/-- HELD requests are discarded when HOST_RST_N becomes asserted or HOST_PWR_EN deasserted (R186). -/
theorem enterState_lnk (new : HostState) (stage : Stage) (timer : Option Nat) (s : State) :
    (enterState new stage timer s).lnk =
      if (!s.hostRstN && resetAsserted new) || (s.hostPwrEn && !powerEnabled new stage) then
        { s.lnk with held := [] }
      else s.lnk := by
  unfold enterState
  dsimp only
  rw [reportEntry_lnk, post_lnk, leaveCauses_lnk]
  split <;> rename_i h
  · exact (if_pos h).symm
  · exact (if_neg h).symm

/-- CNU has seen the state entered (R175). -/
theorem enterState_seen (new : HostState) (stage : Stage) (timer : Option Nat) (s : State) :
    (enterState new stage timer s).cnu.seen = new := by
  unfold enterState reportEntry
  dsimp only
  simp only [State.setCnu_cnu]
  split <;> rfl

theorem zonePasses_iff (c : ZoneSettings) (blindSoak : Nat) (z : ZoneRec) :
    zonePasses c blindSoak z = true ↔ Passes c blindSoak z := by
  unfold zonePasses Passes
  cases z.valid <;> simp [Option.isSome_iff_ne_none, and_assoc]

/-- Admission as R55 gives it. -/
theorem admission_iff (s : State) :
    admission s = true ↔ Admissible s.settings s.zmon.zones (s.live .supplyLow) := by
  have hall (p : Zone → Bool) : Four.all.all p = true ↔ ∀ z, p z = true := by
    simp only [List.all_eq_true]
    exact ⟨fun h z => h z (by cases z <;> decide), fun h z _ => h z⟩
  have hany (p : Zone → Bool) : Four.all.any p = true ↔ ∃ z, p z = true := by
    simp only [List.any_eq_true]
    exact ⟨fun ⟨z, _, h⟩ => ⟨z, h⟩, fun ⟨z, h⟩ => ⟨z, by cases z <;> decide, h⟩⟩
  have htemp (z : Zone) : (s.zoneTemp z).isSome = true ↔
      (s.zmon.zones.get z).valid = true ∧ (s.zmon.zones.get z).filtered ≠ none := by
    unfold State.zoneTemp ZoneRec.temp
    cases (s.zmon.zones.get z).valid <;> simp [Option.isSome_iff_ne_none]
  simp only [admission, Bool.and_eq_true, hall, hany, htemp, Bool.or_eq_true, Bool.not_eq_true', zonePasses_iff,
    Admissible, and_assoc]
  refine and_congr_left' (forall_congr' fun z => ?_)
  cases (s.settings.zone.get z).gating <;> simp

end Sys2Proof.Machine

namespace Sys2Proof.Machine
open Sys2Proof.Safety

/-! ### A host that is abandoned (R54, R65) -/

theorem startWarmUp_hps (s : State) : (startWarmUp s).hps =
    if s.hps.state = .powering then s.hps
    else { s.hps with qualClock := 0, qualMs := 0, warmTimeout := false } := by
  unfold startWarmUp
  split <;> rfl

theorem startWarmUp_lnk (s : State) : (startWarmUp s).lnk = s.lnk := by
  unfold startWarmUp
  split <;> rfl

/-- The host waits in QUALIFYING, or has a power-on pending, as admission says; its supply is off. -/
structure Qualified (admitted : Prop) (clock : Nat) (held : List Request) (t : State) : Prop where
  waiting : ¬ admitted → t.hps.state = .qualifying ∧ t.hps.stage = .noStage ∧ t.hps.pendingOn = false
  pending : admitted → t.hps.state = .powering ∧ t.hps.stage = .pending ∧ t.hps.pendingOn = true
  clock : t.hps.qualClock = clock
  off : t.hostPwrEn = false
  held : t.lnk.held = held

/-- The test of admission on entry to QUALIFYING (R54, R56). -/
theorem testAdmission_qualified {u : State} {clock : Nat} {held : List Request}
    (hstate : u.hps.state = .qualifying) (hstage : u.hps.stage = .noStage)
    (hpending : u.hps.pendingOn = false) (hclock : u.hps.qualClock = clock) (hheld : u.lnk.held = held) :
    Qualified (admission u = true) clock held (testAdmission u) := by
  have hoff : u.hostPwrEn = false := by simp [State.hostPwrEn, hstate, powerEnabled]
  unfold testAdmission
  by_cases h : admission u = true
  · rw [if_pos ⟨hstate, h⟩]
    refine ⟨fun h' => absurd h h', fun _ => ?_, ?_, ?_, ?_⟩
    · simp [admitHost]
    · simpa [admitHost] using hclock
    · simp [admitHost, State.hostPwrEn, powerEnabled]
    · simp [admitHost, enterState_lnk, State.hostPwrEn, State.hostRstN, hstate, resetAsserted, powerEnabled,
        hheld]
  · rw [if_neg fun hc => h hc.2]
    exact ⟨fun _ => ⟨hstate, hstage, hpending⟩, fun h' => absurd h' h, hclock, hoff, hheld⟩

/-- A host with its reset asserted enters QUALIFYING, and goes on where admission is met (R54, R56, R186). -/
theorem enterQualifying_qualified {u : State} (hrst : u.hostRstN = true) :
    Qualified (Admissible u.settings u.zmon.zones (u.live .supplyLow))
      (if u.hps.state = .powering then u.hps.qualClock else 0)
      (if u.hostPwrEn then [] else u.lnk.held) (enterQualifying u) := by
  have hstart : HostReach u (startWarmUp u) ∧ HostTells u (startWarmUp u) := by
    unfold startWarmUp
    split
    · exact ⟨HostReach.refl u, HostTells.refl u⟩
    · exact ⟨HostReach.setHps _ _, HostTells.setHps _ _⟩
  have hreach := (enterState_reach .qualifying .noStage none _).step hstart.1
  have htells := (enterState_tells .qualifying .noStage none _).step hstart.2
  have hhps := enterState_hps .qualifying .noStage none (startWarmUp u)
  have hlnk := enterState_lnk .qualifying .noStage none (startWarmUp u)
  have hpins : (startWarmUp u).hostRstN = u.hostRstN ∧ (startWarmUp u).hostPwrEn = u.hostPwrEn := by
    simp only [State.hostRstN, State.hostPwrEn, startWarmUp_hps]
    split <;> exact ⟨rfl, rfl⟩
  rw [hpins.1, hpins.2, hrst, startWarmUp_lnk] at hlnk
  unfold enterQualifying
  dsimp only
  generalize enterState .qualifying .noStage none (startWarmUp u) = e at *
  obtain ⟨w, hw, hwhps, hwlnk, hwsettings, hwzmon, hwlive⟩ : ∃ w,
      (if e.hps.warmTimeout = true then raise .warmTimeout e else e) = w ∧ w.hps = e.hps ∧ w.lnk = e.lnk ∧
      w.settings = e.settings ∧ w.zmon = e.zmon ∧ w.live .supplyLow = e.live .supplyLow := by
    refine ⟨_, rfl, ?_⟩
    split
    · exact ⟨raise_hps _ _, raise_lnk _ _, raise_settings _ _, raise_zmon _ _,
        (HostTells.raise (by rfl) e).live _ (by decide) (by decide)⟩
    · exact ⟨rfl, rfl, rfl, rfl, rfl⟩
  rw [hw]
  have hadmission : admission w = true ↔ Admissible u.settings u.zmon.zones (u.live .supplyLow) := by
    rw [admission_iff, hwsettings, hwzmon, hwlive, hreach.kept.settings, hreach.kept.zmon,
      htells.live _ (by decide) (by decide)]
  rw [← hadmission]
  refine testAdmission_qualified ?_ ?_ ?_ ?_ ?_
  · rw [hwhps, hhps]
  · rw [hwhps, hhps]
  · rw [hwhps, hhps]; rfl
  · rw [hwhps, hhps, startWarmUp_hps]
    split <;> rfl
  · rw [hwlnk, hlnk]
    cases u.hostPwrEn <;> rfl

/-- The crit excursion of a host that is POWERING or RESETTING (R65). -/
theorem critExcursion_abandons (z : Zone) {u : State}
    (h : u.hps.state = .powering ∨ u.hps.state = .resetting) :
    critExcursion z u = enterQualifying (raise .thermalStop u) := by
  unfold critExcursion
  rcases h with h | h <;> rw [h]

theorem critExcursion_qualified (z : Zone) {u : State}
    (h : u.hps.state = .powering ∨ u.hps.state = .resetting) :
    Qualified (Admissible u.settings u.zmon.zones (u.live .supplyLow))
      (if u.hps.state = .powering then u.hps.qualClock else 0)
      (if u.hostPwrEn then [] else u.lnk.held) (critExcursion z u) ∧
    (critExcursion z u).latched .thermalStop = true := by
  have hrst : (raise .thermalStop u).hostRstN = true := by
    rw [State.hostRstN, raise_hps]
    rcases h with h | h <;> rw [h] <;> rfl
  have hq := enterQualifying_qualified hrst
  rw [critExcursion_abandons z h]
  simp only [raise_settings, raise_zmon, raise_hps, raise_lnk, State.hostPwrEn,
    raise_live_of_event (d := .thermalStop) rfl] at hq
  exact ⟨hq, (enterQualifying_tells _).tells.latched _ (raise_latched_self _ u)⟩

/-! ### A stop that begins (R65, R66) -/

/-- While the host listens a SHUTDOWN_REQUEST joins CNU's queue (R174). -/
theorem shutdownRequest_queued {v : State} (h : v.cnuListening = true) (cause : StopCause)
    (zone : Option Zone) (grace : Nat) : (⟨v.time.sec, .shutdownRequest cause zone grace⟩ : Notice) ∈
      (notify (.shutdownRequest cause zone grace) v).cnu.notices := by
  unfold notify
  rw [if_pos h]
  exact queueNotice_shutdown rfl

/-- The host is in a THERMAL stop for a zone of the round, in its grace, and CNU's queue holds the request. -/
theorem beginStop_thermal (z : Zone) {u : State} (hhold : u.hold = false) :
    (beginStop .thermal (some z) .qualifying u).hps =
      { u.hps with
        stopCause := .thermal, stopZone := some z, destination := .qualifying, stopRequest := none
        state := .stopping, prev := u.hps.state, stage := .grace
        stageTimer := some (u.settings.hostPower.stopGrace * 1000), pendingOn := false } ∧
    (⟨u.time.sec, .shutdownRequest .thermal (some z) u.settings.hostPower.stopGrace⟩ : Notice) ∈
      (beginStop .thermal (some z) .qualifying u).cnu.notices := by
  unfold beginStop
  dsimp only
  refine ⟨by rw [notify_hps, enterState_hps]; rfl, ?_⟩
  generalize hv : enterState .stopping .grace _ _ = v
  have hreach : HostReach u v := hv ▸ (enterState_reach _ _ _ _).step (HostReach.setHps u _)
  have hlistening : v.cnuListening = true := by
    unfold State.cnuListening
    rw [hreach.kept.hold, hhold, ← hv, enterState_seen]
    rfl
  rw [← hreach.kept.time]
  exact shutdownRequest_queued hlistening _ _ _

end Sys2Proof.Machine

namespace Sys2Proof.Machine
open Sys2Proof.Safety

/-! ### A crit excursion by host state (R65) -/

theorem critExcursion_ignored (z : Zone) {u : State}
    (h : u.hps.state = .off ∨ u.hps.state = .qualifying ∨ u.hps.state = .cycling ∨
      u.hps.state = .suspended ∨ u.hps.state = .lockedOut ∨
      (u.hps.state = .stopping ∧ u.hps.stopCause = .thermal)) : critExcursion z u = u := by
  unfold critExcursion
  rcases h with h | h | h | h | h | ⟨h, hc⟩ <;> rw [h]
  exact if_neg (by rw [hc]; decide)

theorem critExcursion_stops (z : Zone) {u : State}
    (h : u.hps.state = .booting ∨ (u.hps.state = .running ∧ u.hps.stage ≠ .stopDelay)) :
    critExcursion z u = beginStop .thermal (some z) .qualifying (raise .thermalStop u) := by
  unfold critExcursion
  rcases h with h | ⟨h, hs⟩ <;> rw [h]
  exact if_neg hs

theorem critExcursion_in_delay (z : Zone) {u : State} (h : u.hps.state = .running)
    (hs : u.hps.stage = .stopDelay) : critExcursion z u = raise .thermalStop u := by
  unfold critExcursion
  rw [h]
  exact if_pos hs

/-- A TRIGGER stop becomes THERMAL, with its grace begun again (R65). -/
theorem critExcursion_converts (z : Zone) {u : State} (h : u.hps.state = .stopping)
    (hc : u.hps.stopCause = .trigger) :
    (critExcursion z u).hps = { u.hps with
      stopCause := .thermal, stopZone := some z, destination := .qualifying
      stageTimer := if u.hps.stage = .grace then some (u.settings.hostPower.stopGrace * 1000)
        else u.hps.stageTimer } ∧
    (critExcursion z u).weu = u.weu ∧ (critExcursion z u).lnk = u.lnk ∧
    (critExcursion z u).latched .thermalStop = true ∧
    (u.hps.stage = .grace → u.cnuListening = true →
      (⟨u.time.sec, .shutdownRequest .thermal (some z) u.settings.hostPower.stopGrace⟩ : Notice) ∈
        (critExcursion z u).cnu.notices) := by
  unfold critExcursion
  rw [h]
  simp only [hc, if_true]
  generalize hv : u.setHps { u.hps with
    stopCause := .thermal, stopZone := some z, destination := .qualifying } = v
  have hstage : (raise .thermalStop v).hps.stage = u.hps.stage := by rw [raise_hps, ← hv]; rfl
  rw [hstage]
  by_cases hg : u.hps.stage = .grace
  · simp only [if_pos hg]
    refine ⟨?_, ?_, ?_, ?_, fun _ hl => ?_⟩
    · rw [notify_hps, State.setHps_hps, raise_hps, raise_settings, ← hv]; rfl
    · rw [notify_weu, State.setHps_weu, raise_weu, ← hv]; rfl
    · rw [notify_lnk, State.setHps_lnk, raise_lnk, ← hv]; rfl
    · rw [notify_latched_cond]
      exact raise_latched_self .thermalStop v
    · have hkept : (raise .thermalStop v).settings = u.settings ∧ (raise .thermalStop v).time = u.time ∧
          (raise .thermalStop v).cnuListening = u.cnuListening := by
        simp [State.cnuListening, ← hv]
      obtain ⟨hsettings, htime, hlistening⟩ := hkept
      rw [hsettings, ← htime]
      generalize raise .thermalStop v = r at *
      refine shutdownRequest_queued (v := r.setHps _) ?_ _ _ _
      exact hlistening.trans hl
  · simp only [if_neg hg]
    refine ⟨?_, ?_, ?_, raise_latched_self _ _, fun h' => absurd h' hg⟩
    · rw [raise_hps, ← hv]; rfl
    · rw [raise_weu, ← hv]; rfl
    · rw [raise_lnk, ← hv]; rfl

/-! ### A round at the host -/

theorem testAdmission_of_ne {u : State} (h : u.hps.state ≠ .qualifying) : testAdmission u = u := by
  unfold testAdmission
  exact if_neg fun hc => h hc.1

section
variable {raw : PerFour Int} {supply : Int} {s : State} {order : List RoundTask}

/-- Admission midway through a round is that of the records published (R54). -/
theorem Midway.admission_iff {m : Zmon} {u : State} (h : Midway s m u) :
    admission u = true ↔ Admissible s.settings m.zones m.supplyLow := by
  rw [Machine.admission_iff, h.settings, h.zmon, h.supplyLow]

theorem takeRound_outcome {after : State → Prop} (horder : order.isPerm RoundTask.all = true)
    (hadmission : ∀ u, Midway s (roundZmon raw supply s) u → Aside (published raw supply s) u →
      testAdmission u = u)
    (hfirst : ∀ u z, Midway s (roundZmon raw supply s) u → Aside (published raw supply s) u →
      reachedIn s (roundZmon raw supply s) z → after (critExcursion z u))
    (hagain : ∀ u z, Midway s (roundZmon raw supply s) u → after u → after (critExcursion z u))
    (hadmitted : ∀ u, Midway s (roundZmon raw supply s) u → after u → after (testAdmission u))
    (haside : ∀ u v, after u → Aside u v → after v) :
    ((∀ z, ¬ reachedIn s (roundZmon raw supply s) z) →
      Aside (published raw supply s) (takeRound raw supply order s)) ∧
    ((∃ z, reachedIn s (roundZmon raw supply s) z) → after (takeRound raw supply order s)) := by
  obtain ⟨hnone, hsome⟩ := tasks_outcome hadmission hfirst hagain hadmitted haside order
  exact ⟨fun h => hnone fun z _ => h z, fun ⟨z, h⟩ => hsome ⟨z, crit_mem horder z, h⟩⟩

/-- A host that is not QUALIFYING is left aside by a round without a crit excursion. -/
theorem takeRound_aside (horder : order.isPerm RoundTask.all = true) (hs : s.hps.state ≠ .qualifying)
    (h : ∀ z, ¬ reachedIn s (roundZmon raw supply s) z) :
    Aside (published raw supply s) (takeRound raw supply order s) :=
  (takeRound_outcome (after := fun _ => True) horder
    (fun u _ ha => testAdmission_of_ne (by rw [ha.hps]; exact hs)) (fun _ _ _ _ _ => trivial)
    (fun _ _ _ _ => trivial) (fun _ _ _ => trivial) fun _ _ _ _ => trivial).1 h

/-- A host that no crit excursion concerns is left aside by a round in which it is not admitted. -/
theorem takeRound_ignored (horder : order.isPerm RoundTask.all = true)
    (hcrit : ∀ u : State, u.hps = s.hps → ∀ z, critExcursion z u = u)
    (hadmission : s.hps.state = .qualifying →
      ¬ Admissible s.settings (roundZmon raw supply s).zones (roundZmon raw supply s).supplyLow) :
    Aside (published raw supply s) (takeRound raw supply order s) := by
  have hadmit : ∀ u, Midway s (roundZmon raw supply s) u → Aside (published raw supply s) u →
      testAdmission u = u := fun u hm ha => by
    unfold testAdmission
    refine if_neg fun hc => hadmission ?_ (hm.admission_iff.1 hc.2)
    rw [← hc.1, ha.hps]
    rfl
  have hboth := takeRound_outcome (after := Aside (published raw supply s)) horder hadmit
    (fun u z _ ha _ => by rw [hcrit u ha.hps z]; exact ha)
    (fun u z _ ha => by rw [hcrit u ha.hps z]; exact ha)
    (fun u hm ha => by rw [hadmit u hm ha]; exact ha) fun _ _ ha hv => ha.trans hv
  by_cases h : ∃ z, reachedIn s (roundZmon raw supply s) z
  · exact hboth.2 h
  · exact hboth.1 fun z hz => h ⟨z, hz⟩

/-- The THERMAL stop of a round has begun (R65, R66). -/
structure StopBegun (s : State) (m : Zmon) (u : State) : Prop where
  state : u.hps.state = .stopping
  prev : u.hps.prev = s.hps.state
  stage : u.hps.stage = .grace
  timer : u.hps.stageTimer = some (s.settings.hostPower.stopGrace * 1000)
  cause : u.hps.stopCause = .thermal
  destination : u.hps.destination = .qualifying
  request : u.hps.stopRequest = none
  told : ∃ z, u.hps.stopZone = some z ∧ reachedIn s m z ∧
    (⟨s.time.sec, .shutdownRequest .thermal (some z) s.settings.hostPower.stopGrace⟩ : Notice) ∈ u.cnu.notices
  latched : u.latched .thermalStop = true

theorem StopBegun.aside {m : Zmon} {u v : State} (h : StopBegun s m u) (ha : Aside u v) : StopBegun s m v := by
  obtain ⟨z, hz, hr, hn⟩ := h.told
  exact ⟨ha.hps ▸ h.state, ha.hps ▸ h.prev, ha.hps ▸ h.stage, ha.hps ▸ h.timer, ha.hps ▸ h.cause,
    ha.hps ▸ h.destination, ha.hps ▸ h.request, ⟨z, ha.hps ▸ hz, hr, ha.notices _ hn⟩, ha.thermal.trans h.latched⟩

theorem takeRound_stops (horder : order.isPerm RoundTask.all = true) (hhold : s.hold = false)
    (hs : s.hps.state = .booting ∨ (s.hps.state = .running ∧ s.hps.stage ≠ .stopDelay))
    (h : ∃ z, reachedIn s (roundZmon raw supply s) z) :
    StopBegun s (roundZmon raw supply s) (takeRound raw supply order s) := by
  refine (takeRound_outcome horder (fun u _ ha => testAdmission_of_ne ?_) (fun u z hm ha hr => ?_)
    (fun u z _ hu => ?_) (fun u _ hu => ?_) fun u v hu hv => hu.aside hv).2 h
  · rw [ha.hps]
    change s.hps.state ≠ .qualifying
    rcases hs with hs | ⟨hs, -⟩ <;> rw [hs] <;> decide
  · have hhps : u.hps = s.hps := ha.hps
    rw [critExcursion_stops z (by rw [hhps]; exact hs)]
    have hhold' : (raise .thermalStop u).hold = false := by rw [raise_hold, hm.hold, hhold]
    obtain ⟨hstop, hnotice⟩ := beginStop_thermal z hhold'
    have htells := beginStop_tells .thermal (some z) .qualifying (raise .thermalStop u)
    rw [raise_hps, hhps, raise_settings, hm.settings] at hstop
    rw [raise_time, hm.time, raise_settings, hm.settings] at hnotice
    generalize beginStop .thermal (some z) .qualifying (raise .thermalStop u) = v at *
    exact ⟨by rw [hstop], by rw [hstop], by rw [hstop], by rw [hstop], by rw [hstop], by rw [hstop],
      by rw [hstop], ⟨z, by rw [hstop], hr, hnotice⟩, htells.tells.latched _ (raise_latched_self _ u)⟩
  · rw [critExcursion_ignored z (by simp [hu.state, hu.cause])]
    exact hu
  · rw [testAdmission_of_ne (by rw [hu.state]; decide)]
    exact hu

/-- In a stop delay of RUNNING a crit excursion latches THERMAL_STOP, and no more (R65). -/
theorem takeRound_in_delay (horder : order.isPerm RoundTask.all = true) (hs : s.hps.state = .running)
    (hstage : s.hps.stage = .stopDelay) (h : ∃ z, reachedIn s (roundZmon raw supply s) z) :
    (takeRound raw supply order s).hps = s.hps ∧ (takeRound raw supply order s).weu = s.weu ∧
      (takeRound raw supply order s).lnk = s.lnk ∧
      (takeRound raw supply order s).latched .thermalStop = true := by
  have hcrit : ∀ u : State, u.hps = s.hps → ∀ z, critExcursion z u = raise .thermalStop u := fun u hu z =>
    critExcursion_in_delay z (by rw [hu, hs]) (by rw [hu, hstage])
  have hadmit : ∀ u : State, u.hps = s.hps → testAdmission u = u := fun u hu =>
    testAdmission_of_ne (by rw [hu, hs]; decide)
  have hraise (u : State) (hu : u.hps = s.hps ∧ u.weu = s.weu ∧ u.lnk = s.lnk) :
      (raise .thermalStop u).hps = s.hps ∧ (raise .thermalStop u).weu = s.weu ∧
        (raise .thermalStop u).lnk = s.lnk ∧ (raise .thermalStop u).latched .thermalStop = true :=
    ⟨(raise_hps _ _).trans hu.1, (raise_weu _ _).trans hu.2.1, (raise_lnk _ _).trans hu.2.2,
      raise_latched_self _ _⟩
  refine (takeRound_outcome (after := fun u => u.hps = s.hps ∧ u.weu = s.weu ∧ u.lnk = s.lnk ∧
    u.latched .thermalStop = true) horder (fun u _ ha => hadmit u ha.hps) (fun u z _ ha _ => ?_)
    (fun u z _ ⟨hu, hw, hl, _⟩ => ?_) (fun u _ hu => ?_) fun u v ⟨hu, hw, hl, ht⟩ hv => ?_).2 h
  · rw [hcrit u ha.hps z]
    exact hraise u ⟨ha.hps, ha.weu, ha.lnk⟩
  · rw [hcrit u hu z]
    exact hraise u ⟨hu, hw, hl⟩
  · rw [hadmit u hu.1]
    exact hu
  · exact ⟨hv.hps.trans hu, hv.weu.trans hw, hv.lnk.trans hl, hv.thermal.trans ht⟩

/-- The TRIGGER stop of a round's beginning has become THERMAL (R65). -/
structure StopConverted (s : State) (m : Zmon) (u : State) : Prop where
  hps : u.hps = { s.hps with
    stopCause := .thermal, stopZone := u.hps.stopZone, destination := .qualifying
    stageTimer := if s.hps.stage = .grace then some (s.settings.hostPower.stopGrace * 1000)
      else s.hps.stageTimer }
  told : ∃ z, u.hps.stopZone = some z ∧ reachedIn s m z ∧
    (s.hps.stage = .grace → s.cnu.seen.listening = true →
      (⟨s.time.sec, .shutdownRequest .thermal (some z) s.settings.hostPower.stopGrace⟩ : Notice) ∈
        u.cnu.notices)
  weu : u.weu = s.weu
  lnk : u.lnk = s.lnk
  latched : u.latched .thermalStop = true

theorem StopConverted.aside {m : Zmon} {u v : State} (h : StopConverted s m u) (ha : Aside u v) :
    StopConverted s m v := by
  obtain ⟨z, hz, hr, hn⟩ := h.told
  exact ⟨by rw [ha.hps]; exact h.hps, ⟨z, ha.hps ▸ hz, hr, fun hg hl => ha.notices _ (hn hg hl)⟩,
    ha.weu.trans h.weu, ha.lnk.trans h.lnk, ha.thermal.trans h.latched⟩

theorem takeRound_converts (horder : order.isPerm RoundTask.all = true) (hhold : s.hold = false)
    (hs : s.hps.state = .stopping) (hc : s.hps.stopCause = .trigger)
    (h : ∃ z, reachedIn s (roundZmon raw supply s) z) :
    StopConverted s (roundZmon raw supply s) (takeRound raw supply order s) := by
  have hstate : ∀ {u}, StopConverted s (roundZmon raw supply s) u →
      u.hps.state = .stopping ∧ u.hps.stopCause = .thermal := fun hu => by
    rw [hu.hps]; exact ⟨hs, rfl⟩
  refine (takeRound_outcome horder (fun u _ ha => testAdmission_of_ne ?_) (fun u z hm ha hr => ?_)
    (fun u z _ hu => ?_) (fun u _ hu => ?_) fun u v hu hv => hu.aside hv).2 h
  · rw [ha.hps]
    change s.hps.state ≠ .qualifying
    rw [hs]; decide
  · have hhps : u.hps = s.hps := ha.hps
    obtain ⟨h1, h2, h3, h4, h5⟩ := critExcursion_converts z (u := u) (by rw [hhps, hs]) (by rw [hhps, hc])
    rw [hhps, hm.settings] at h1
    rw [hhps, hm.time, hm.settings] at h5
    refine ⟨by rw [h1], ⟨z, by rw [h1], hr, fun hg hl => h5 hg ?_⟩, h2.trans ha.weu, h3.trans ha.lnk, h4⟩
    have hseen : u.cnu.seen = s.cnu.seen := ha.seen
    simp [State.cnuListening, hm.hold, hhold, hseen, hl]
  · rw [critExcursion_ignored z (.inr (.inr (.inr (.inr (.inr (hstate hu))))))]
    exact hu
  · rw [testAdmission_of_ne (by rw [(hstate hu).1]; decide)]
    exact hu

/-- POWERING and RESETTING are abandoned, and the host is admitted again as the round's records say (R65, R54). -/
theorem takeRound_abandons (horder : order.isPerm RoundTask.all = true)
    (hs : s.hps.state = .powering ∨ s.hps.state = .resetting)
    (h : ∃ z, reachedIn s (roundZmon raw supply s) z) :
    Qualified (Admissible s.settings (roundZmon raw supply s).zones (roundZmon raw supply s).supplyLow)
      (if s.hps.state = .powering then s.hps.qualClock else 0)
      (if s.hostPwrEn then [] else s.lnk.held) (takeRound raw supply order s) ∧
    (takeRound raw supply order s).latched .thermalStop = true := by
  refine (takeRound_outcome (after := fun u =>
    Qualified (Admissible s.settings (roundZmon raw supply s).zones (roundZmon raw supply s).supplyLow)
      (if s.hps.state = .powering then s.hps.qualClock else 0)
      (if s.hostPwrEn then [] else s.lnk.held) u ∧ u.latched .thermalStop = true) horder
    (fun u _ ha => testAdmission_of_ne ?_) (fun u z hm ha hr => ?_) (fun u z hm ⟨hu, hl⟩ => ?_)
    (fun u hm ⟨hu, hl⟩ => ?_) fun u v ⟨hu, hl⟩ hv => ?_).2 h
  · rw [ha.hps]
    change s.hps.state ≠ .qualifying
    rcases hs with hs | hs <;> rw [hs] <;> decide
  · have hhps : u.hps = s.hps := ha.hps
    have hlnk : u.lnk = s.lnk := ha.lnk
    have hq := critExcursion_qualified z (u := u) (by rw [hhps]; exact hs)
    simp only [hm.settings, hm.zmon, hm.supplyLow, hhps, hlnk, State.hostPwrEn] at hq
    exact hq
  · by_cases hadm : Admissible s.settings (roundZmon raw supply s).zones (roundZmon raw supply s).supplyLow
    · have hpowering := (hu.pending hadm).1
      have hq := critExcursion_qualified z (.inl hpowering)
      rw [if_pos hpowering, hu.off, hm.settings, hm.zmon, hm.supplyLow, hu.clock, hu.held] at hq
      exact hq
    · rw [critExcursion_ignored z (.inr (.inl (hu.waiting hadm).1))]
      exact ⟨hu, hl⟩
  · have hnot : testAdmission u = u := by
      unfold testAdmission
      refine if_neg fun hc => ?_
      have hpowering := (hu.pending (hm.admission_iff.1 hc.2)).1
      rw [hc.1] at hpowering
      cases hpowering
    rw [hnot]
    exact ⟨hu, hl⟩
  · exact ⟨⟨hv.hps ▸ hu.waiting, hv.hps ▸ hu.pending, hv.hps ▸ hu.clock,
      by rw [State.hostPwrEn, hv.hps]; exact hu.off, hv.lnk ▸ hu.held⟩, hv.thermal.trans hl⟩

end

end Sys2Proof.Machine

namespace Sys2Proof.Machine
open Sys2Proof.Safety

/-! ### The supply record (R12) -/

/-- The supply record through a round, case by case. -/
theorem stepSupply_cases (low x : Nat) (m : Zmon) :
    let n := stepSupply low x m
    let counts : Prop := if m.supplyLow then low + 10 ≤ x else x < low
    n.supply = x ∧
    (¬ counts → n.supplyLow = m.supplyLow ∧ n.supplyRun = 0) ∧
    (counts → m.supplyRun + 1 < 3 → n.supplyLow = m.supplyLow ∧ n.supplyRun = m.supplyRun + 1) ∧
    (counts → 3 ≤ m.supplyRun + 1 → n.supplyLow = (!m.supplyLow) ∧ n.supplyRun = 0) := by
  intro n counts
  have hn : n = if counts then
      if m.supplyRun + 1 ≥ 3 then { m with supply := x, supplyLow := !m.supplyLow, supplyRun := 0 }
      else { m with supply := x, supplyRun := m.supplyRun + 1 }
    else { m with supply := x, supplyRun := 0 } := rfl
  by_cases hc : counts
  · by_cases hr : m.supplyRun + 1 ≥ 3
    · rw [if_pos hc, if_pos hr] at hn
      rw [hn]
      exact ⟨rfl, fun h => absurd hc h, fun _ h => absurd h (by omega), fun _ _ => ⟨rfl, rfl⟩⟩
    · rw [if_pos hc, if_neg hr] at hn
      rw [hn]
      exact ⟨rfl, fun h => absurd hc h, fun _ _ => ⟨rfl, rfl⟩, fun _ h => absurd h (by omega)⟩
  · rw [if_neg hc] at hn
    rw [hn]
    exact ⟨rfl, fun _ => ⟨rfl, rfl⟩, fun h => absurd h hc, fun h => absurd h hc⟩

/-- The report of a round raises SUPPLY_LOW where the supply has become LOW, and nowhere else (R12). -/
theorem supplyLow_raised (old m : Zmon) : decide (Emit.raise .supplyLow ∈ zmonEmits old m) =
    (!old.supplyLow && m.supplyLow) := by
  rw [Bool.eq_iff_iff, decide_eq_true_iff, Bool.and_eq_true, Bool.not_eq_true']
  constructor
  · intro h
    rcases zmonEmits_raise h with ⟨z, hc, -⟩ | ⟨-, h1, h2⟩
    · cases hc
    · exact ⟨h1, h2⟩
  · rintro ⟨h1, h2⟩
    simp only [zmonEmits, List.mem_append]
    exact .inl (.inl (.inr (by simp [supplyLatches, h1, h2])))

/-- A changed supply state is posted by the report (R12). -/
theorem supply_reported {old m : Zmon} (h : m.supplyLow = !old.supplyLow) :
    Emit.post ⟨.supply, if old.supplyLow then 1 else 0, m.supply⟩ ∈ zmonEmits old m := by
  simp only [zmonEmits, List.mem_append]
  refine .inr ?_
  cases ho : old.supplyLow <;> simp [supplyEvents, h, ho, event]

theorem reachedIn_iff (s : State) (m : Zmon) (z : Zone) : reachedIn s m z ↔
    (s.zmon.zones.get z).critTimer < 10 ∧ (m.zones.get z).critTimer = 10 := by
  simp [reachedIn, critReached]

/-! ### What each outcome of a round says of the host, in the terms of R65 -/

theorem Aside.of_published {raw : PerFour Int} {supply : Int} {s t : State}
    (h : Aside (published raw supply s) t) :
    t.hps = s.hps ∧ t.weu = s.weu ∧ t.lnk = s.lnk ∧ t.latched .thermalStop = s.latched .thermalStop :=
  ⟨h.hps, h.weu, h.lnk, h.thermal⟩

/-- A stop keeps the host powered, with its reset released (R52). -/
theorem StopBegun.pins {s u : State} {m : Zmon} (h : StopBegun s m u) :
    u.hostRstN = false ∧ u.hostPwrEn = true := by
  simp [State.hostRstN, State.hostPwrEn, h.state, resetAsserted, powerEnabled]

/-- The host states in which a crit excursion is ignored, those of a host that waits for admission among them. -/
theorem ignored_of_state {s : State} {admitted : Prop}
    (h : s.hps.state = .off ∨ s.hps.state = .cycling ∨ s.hps.state = .suspended ∨
      s.hps.state = .lockedOut ∨ (s.hps.state = .qualifying ∧ ¬ admitted) ∨
      (s.hps.state = .stopping ∧ s.hps.stopCause = .thermal)) :
    (∀ u : State, u.hps = s.hps → ∀ z, critExcursion z u = u) ∧
      (s.hps.state = .qualifying → ¬ admitted) := by
  refine ⟨fun u hu z => critExcursion_ignored z ?_, fun hq => ?_⟩
  · rw [hu]
    tauto
  · simpa [hq] using h

end Sys2Proof.Machine

namespace Sys2Proof.Proofs
open Sys2Proof.Machine Sys2Proof.Safety

/-- Settles O44: the supply record and its report as for the zones; and for each row of R65 what holds from the
first crit excursion of the round on, whatever tasks and excursions follow. -/
theorem sampleRoundSupplyAndCrit : Obligations.SampleRoundSupplyAndCrit := by
  intro raw supply order s horder hhold
  have hreport := report_mem horder
  have hzmon := takeRound_zmon raw supply order s
  refine ⟨_, execSampleRound_eq horder hhold, ?_, ?_, ?_⟩
  · rw [hzmon]
    exact (stepSupply_cases _ _ _).1
  · obtain ⟨hsupply, hstays, hcounts, hturns⟩ := stepSupply_cases s.settings.budget.supplyLow
      (supplySample supply) { s.zmon with zones := (roundZmon raw supply s).zones }
    have hround : stepSupply s.settings.budget.supplyLow (supplySample supply)
        { s.zmon with zones := (roundZmon raw supply s).zones } = roundZmon raw supply s := by
      have hzones : (roundZmon raw supply s).zones = PerFour.of fun z =>
          stepZone (s.settings.zone.get z) (s.blindCond z) (raw.get z) (s.zmon.zones.get z) := by
        unfold roundZmon
        rw [stepSupply_zones]
      rw [hzones]
      rfl
    rw [hround] at hsupply hstays hcounts hturns
    have hlive := (takeRound_live raw supply order s).2
    have hlatched := takeRound_latched (raw := raw) (supply := supply) s hreport (c := .supplyLow) rfl
    rw [supplyLow_raised] at hlatched
    rw [hzmon]
    refine ⟨hstays, hcounts, fun hc hr => ?_, hlive, hlatched⟩
    obtain ⟨hlow, hrun⟩ := hturns hc hr
    have htold := takeRound_told (raw := raw) (supply := supply) s hreport (supply_reported hlow)
    rw [hsupply] at htold
    exact ⟨hlow, hrun, htold⟩
  · have hstops := takeRound_stops (raw := raw) (supply := supply) horder hhold
    have hdelay := takeRound_in_delay (raw := raw) (supply := supply) (s := s) horder
    have hconverts := takeRound_converts (raw := raw) (supply := supply) horder hhold
    have habandons := takeRound_abandons (raw := raw) (supply := supply) (s := s) horder
    have haside := takeRound_aside (raw := raw) (supply := supply) (s := s) horder
    have hignored := takeRound_ignored (raw := raw) (supply := supply) (s := s) horder
    rw [hzmon]
    refine ⟨fun hnone hne => (haside hne fun z => mt (reachedIn_iff ..).1 (hnone z)).of_published,
      fun hstate => (hignored (ignored_of_state hstate).1 (ignored_of_state hstate).2).of_published,
      fun ⟨z, hz⟩ => ?_⟩
    have hreached : ∃ z, reachedIn s (roundZmon raw supply s) z := ⟨z, (reachedIn_iff ..).2 hz⟩
    refine ⟨fun hstate => ?_, fun hrunning hstage => hdelay hrunning hstage hreached,
      fun hstopping hcause => ?_, fun hstate => ?_⟩
    · have hbegun := hstops hstate hreached
      obtain ⟨y, hy, hyr, hyn⟩ := hbegun.told
      exact ⟨hbegun.state, hbegun.prev, hbegun.stage, hbegun.timer, hbegun.cause, hbegun.destination,
        hbegun.request, ⟨y, hy, (reachedIn_iff ..).1 hyr, fun _ => hyn⟩, hbegun.latched, hbegun.pins⟩
    · have hconverted := hconverts hstopping hcause hreached
      obtain ⟨y, hy, hyr, hyn⟩ := hconverted.told
      have hyr := (reachedIn_iff ..).1 hyr
      exact ⟨hconverted.hps, ⟨y, hy, hyr⟩, fun hgrace => ⟨y, hy, hyr, hyn hgrace⟩, hconverted.weu,
        hconverted.lnk, hconverted.latched⟩
    · obtain ⟨hq, hlatched⟩ := habandons hstate hreached
      exact ⟨hq.waiting, hq.pending, hq.clock, hq.off, hq.held, hlatched⟩

end Sys2Proof.Proofs

namespace Sys2Proof

theorem PerThree.set_get_self {α : Type} (x : PerThree α) (i : Three) : x.set i (x.get i) = x := by
  cases i <;> rfl

@[simp] theorem PerThree.get_of {α : Type} (f : Three → α) (i : Three) : (PerThree.of f).get i = f i := by
  cases i <;> rfl

end Sys2Proof

namespace Sys2Proof.Machine
open Sys2Proof.Safety

/-! ### Acknowledgement (R33, R169) -/

theorem condIn_and_not (a b : Word32) (c : Cond) :
    condIn (a &&& ~~~b) c = (condIn a c && !condIn b c) := by
  have hid : c.id < 32 := Nat.lt_of_lt_of_le c.id_lt (by decide)
  simp [condIn, hid]

/-- An acknowledgement clears what it names that is latched with no live cause (R169). -/
theorem condIn_cleared (set : Word32) (s : State) (c : Cond) :
    condIn (cleared set s) c = (condIn set c && s.latched c && !s.live c) := by
  rw [cleared, condIn_and_not]
  simp [condIn, State.latched, State.live, Bool.and_comm]

/-- A heater's fault kind once the conditions of `gone` are cleared (R33). -/
def kindCleared (gone : Word32) (h : Heater) (k : FaultKind) : FaultKind :=
  if condIn gone (.heaterFault h) then .none else k

/-- A heater's record once the conditions of `gone` are cleared (R33). -/
def runsCleared (gone : Word32) (h : Heater) (r : HeaterRec) : HeaterRec :=
  if condIn gone (.heaterFault h) then { r with lowRun := 0, highRun := 0 } else r

theorem clearHeater_eq (gone : Word32) (h : Heater) (s : State) : clearHeater gone h s =
    (s.setCnu { s.cnu with kinds := s.cnu.kinds.set h (kindCleared gone h (s.cnu.kinds.get h)) }).setHsch
      { s.hsch with heaters := s.hsch.heaters.set h (runsCleared gone h (s.hsch.heaters.get h)) } := by
  unfold clearHeater kindCleared runsCleared
  split
  · rfl
  · rw [PerThree.set_get_self, PerThree.set_get_self]; rfl

theorem acknowledge_eq (set : Word32) (s : State) : acknowledge set s =
    (s.setCnu { s.cnu with
      latched := s.cnu.latched &&& ~~~cleared set s
      kinds := .of fun h => kindCleared (cleared set s) h (s.cnu.kinds.get h) }).setHsch
      { s.hsch with
        heaters := .of fun h => runsCleared (cleared set s) h (s.hsch.heaters.get h) } := by
  unfold acknowledge
  rw [clearHeater_eq, clearHeater_eq, clearHeater_eq]
  rfl

theorem u8_flag (b : Bool) : u8 (if b then 1 else 0) = [if b then 1 else 0] := by
  cases b <;> rfl

end Sys2Proof.Machine

namespace Sys2Proof.Proofs
open Sys2Proof.Machine Sys2Proof.Safety

/-- Settles O14, by the equation of the acknowledgement; the two reads by their owners' equations. -/
theorem acknowledgeAndFetch : Obligations.AcknowledgeAndFetch := by
  refine ⟨fun tag b3 b2 b1 b0 s hdue => ?_, fun tag s hdue => ?_, fun tag s hdue => ?_⟩
  · have hexec : exec (.ackConditions tag [b3, b2, b1, b0]) s = .next
        (answer ⟨0x04, tag, [b3, b2, b1, b0]⟩ .ok
          (bytes32 (acknowledge (word32 b3 b2 b1 b0) (takeHeld s)).cnu.latched)
          (acknowledge (word32 b3 b2 b1 b0) (takeHeld s))) :=
      congrArg _ (dispatch_of_due hdue _)
    refine ⟨_, hexec, ?_⟩
    have hlnk : (acknowledge (word32 b3 b2 b1 b0) (takeHeld s)).lnk = (takeHeld s).lnk := by
      rw [acknowledge_eq]; rfl
    rw [answer, answerThen_replying (by decide) hlnk, acknowledge_eq]
    intro gone
    have hgone : gone = condIn (cleared (word32 b3 b2 b1 b0) s) :=
      funext fun c => (condIn_cleared _ s c).symm
    clear_value gone
    subst hgone
    exact ⟨condIn_and_not _ _, rfl, fun h => ⟨PerThree.get_of _ h, PerThree.get_of _ h⟩, rfl, rfl⟩
  · have hkind : (0x05 : Byte).toNat < 0x80 := by decide
    refine congrArg _ ((dispatch_of_due hdue (ofLength 0 _ (fetchNotices _))).trans ?_)
    rw [ofLength, if_pos List.length_nil, fetchNotices, List.length_take, List.length_drop, u8_flag]
    exact answerThen_replying (s := s) hkind (by rfl) _ _ _
  · have hkind : (0x06 : Byte).toNat < 0x80 := by decide
    refine congrArg _ ((dispatch_of_due hdue (ofLength 0 _ (readKeys _))).trans ?_)
    rw [ofLength, if_pos List.length_nil, readKeys, List.length_take, List.length_drop]
    exact answerThen_replying (s := s) hkind (by rfl) _ _ _

end Sys2Proof.Proofs

namespace Sys2Proof

theorem PerThree.set_set {α : Type} (x : PerThree α) (i : Three) (a b : α) :
    (x.set i a).set i b = x.set i b := by
  cases i <;> rfl

end Sys2Proof

namespace Sys2Proof.Machine
open Sys2Proof.Safety

/-! ### A slot's end (R31, R32) -/

/-- A condition without a live cause is latched, with its notice, and CNU changes no further (R168). -/
theorem raise_eq_of_event {c : Cond} (h : c.isLive = false) (s : State) :
    raise c s = s.setCnu { s.cnu with
      latched := (raise c s).cnu.latched, notices := (raise c s).cnu.notices
      overflow := (raise c s).cnu.overflow } := by
  rw [raise, notify_eq]
  simp only [setLatch, h]
  split <;> rfl

/-- What the readings of a slot's end may change beside HSCH's records: the inbox, and CNU's latches, kinds and
notices. -/
def SlotReach (s t : State) : Prop :=
  t = { s with
    hsch := t.hsch, tmx := { s.tmx with inbox := t.tmx.inbox }
    cnu := { s.cnu with
      latched := t.cnu.latched, kinds := t.cnu.kinds, notices := t.cnu.notices, overflow := t.cnu.overflow } }

theorem SlotReach.refl (s : State) : SlotReach s s := rfl

theorem SlotReach.trans {s t u : State} (h : SlotReach s t) (k : SlotReach t u) : SlotReach s u := by
  unfold SlotReach at *
  rw [k, h]

theorem SlotReach.setHsch (s : State) (x : Hsch) : SlotReach s (s.setHsch x) := rfl

theorem SlotReach.raise {c : Cond} (h : c.isLive = false) (s : State) : SlotReach s (raise c s) := by
  rw [raise_eq_of_event h]; rfl

theorem SlotReach.raiseHeater (i : Heater) (k : FaultKind) (s : State) : SlotReach s (raiseHeater i k s) :=
  (SlotReach.raise (c := .heaterFault i) rfl s).trans rfl

theorem SlotReach.post (e : Event) (s : State) : SlotReach s (post e s) := by
  unfold Machine.post
  split
  · rfl
  · exact SlotReach.raise rfl s

/-- HSCH with the record of one heater replaced. -/
def State.setHeater (s : State) (i : Heater) (h : HeaterRec) : State :=
  s.setHsch { s.hsch with heaters := s.hsch.heaters.set i h }

/-- The record of a heater that faults: off, with no grant left (R32). -/
def HeaterRec.faulted (h : HeaterRec) : HeaterRec :=
  { h with output := false, g := 0, lowRun := 0, highRun := 0 }

/-- The event of a fault (R32). -/
def faultEvent (i : Heater) (k : FaultKind) : Event :=
  ⟨.heater, BitVec.ofNat 8 i.num, if k = .short then 1 else 0⟩

/-- The fault that a reading brings a heater to: two low ones in a row an open load, two high ones a short; none
while its output is off (R31, R32). -/
def faultOf (x : Int) (h : HeaterRec) : Option FaultKind :=
  if h.output = false then none
  else if 2 ≤ (testCurrent (currentReading x) h).lowRun then some .openLoad
  else if 2 ≤ (testCurrent (currentReading x) h).highRun then some .short
  else none

/-- A heater's record after the reading of the slot that ends (R31, R32). -/
def afterReading (x : Int) (h : HeaterRec) : HeaterRec :=
  if h.output = false then h
  else if (faultOf x h).isSome then (testCurrent (currentReading x) h).faulted
  else testCurrent (currentReading x) h

/-! ### The fault of a reading (R32) -/

theorem faultOf_of_runs {x : Int} {h : HeaterRec} (hon : h.output = true)
    (hruns : 2 ≤ (testCurrent (currentReading x) h).lowRun ∨
      2 ≤ (testCurrent (currentReading x) h).highRun) :
    faultOf x h =
      some (if 2 ≤ (testCurrent (currentReading x) h).lowRun then .openLoad else .short) := by
  rw [faultOf, if_neg (by simp [hon])]
  split
  · rfl
  · exact if_pos (hruns.resolve_left ‹_›)

theorem faultOf_of_not_runs {x : Int} {h : HeaterRec}
    (hruns : ¬ (h.output = true ∧ (2 ≤ (testCurrent (currentReading x) h).lowRun ∨
      2 ≤ (testCurrent (currentReading x) h).highRun))) : faultOf x h = none := by
  unfold faultOf
  split
  · rfl
  · rename_i hon
    obtain ⟨hlow, hhigh⟩ := not_or.1 fun h => hruns ⟨by simpa using hon, h⟩
    exact (if_neg hlow).trans (if_neg hhigh)

theorem afterReading_of_fault {x : Int} {h : HeaterRec} {k : FaultKind} (hf : faultOf x h = some k) :
    afterReading x h = (testCurrent (currentReading x) h).faulted := by
  have hon : ¬ h.output = false := fun hoff => by simp [faultOf, hoff] at hf
  rw [afterReading, if_neg hon, hf]
  rfl

theorem afterReading_of_clear {x : Int} {h : HeaterRec} (hf : faultOf x h = none) :
    afterReading x h = { h with
      lowRun := if h.output then (testCurrent (currentReading x) h).lowRun else h.lowRun
      highRun := if h.output then (testCurrent (currentReading x) h).highRun else h.highRun
      lastCurrent := if h.output then currentReading x else h.lastCurrent } := by
  rw [afterReading, hf]
  by_cases hon : h.output = true
  · rw [if_neg (by simp [hon])]
    simp only [if_pos hon]
    rfl
  · rw [if_pos (by simpa using hon)]
    simp only [if_neg hon]

theorem faultEvent_of_run (i : Heater) (low : Prop) [Decidable low] :
    faultEvent i (if low then .openLoad else .short) =
      ⟨.heater, BitVec.ofNat 8 i.num, if low then 0 else 1⟩ := by
  split <;> rfl

/-! ### One reading -/

theorem readHeater_of_off {i : Heater} {s : State} (h : (s.hsch.heaters.get i).output = false) (x : Int) :
    readHeater x i s = s := by
  unfold readHeater
  exact if_neg (by simp [h])

theorem readHeater_of_fault {x : Int} {i : Heater} {s : State} {k : FaultKind}
    (h : faultOf x (s.hsch.heaters.get i) = some k) : readHeater x i s =
      heaterFaults i k (s.setHeater i (testCurrent (currentReading x) (s.hsch.heaters.get i))) := by
  unfold faultOf at h
  unfold readHeater
  cases hon : (s.hsch.heaters.get i).output with
  | false => simp [hon] at h
  | true =>
    simp only [hon, Bool.true_eq_false, if_false] at h
    dsimp only
    rw [if_pos hon]
    split at h
    · cases h
      exact if_pos ‹_›
    · split at h
      · cases h
        exact (if_neg ‹_›).trans (if_pos ‹_›)
      · cases h

theorem readHeater_of_clear {x : Int} {i : Heater} {s : State} (hon : (s.hsch.heaters.get i).output = true)
    (h : faultOf x (s.hsch.heaters.get i) = none) : readHeater x i s =
      s.setHeater i (testCurrent (currentReading x) (s.hsch.heaters.get i)) := by
  unfold faultOf at h
  unfold readHeater
  simp only [hon, Bool.true_eq_false, if_false] at h
  dsimp only
  rw [if_pos hon]
  split at h
  · cases h
  · split at h
    · cases h
    · exact (if_neg ‹_›).trans (if_neg ‹_›)

theorem heaterFaults_eq (i : Heater) (k : FaultKind) (s : State) : heaterFaults i k s =
    post (faultEvent i k) (raiseHeater i k (s.setHeater i (s.hsch.heaters.get i).faulted)) := rfl

/-- What one reading does: its heater's record, and the latch, the kind and the event of a fault. -/
structure HeaterRead (x : Int) (i : Heater) (s t : State) : Prop where
  reach : SlotReach s t
  hsch : t.hsch = { s.hsch with
    heaters := s.hsch.heaters.set i (afterReading x (s.hsch.heaters.get i)) }
  latched : ∀ j, t.latched (.heaterFault j) = (s.latched (.heaterFault j) ||
    (decide (i = j) && (faultOf x (s.hsch.heaters.get i)).isSome))
  kinds : t.cnu.kinds =
    s.cnu.kinds.set i ((faultOf x (s.hsch.heaters.get i)).getD (s.cnu.kinds.get i))
  tells : Tells s t
  told : ∀ k, faultOf x (s.hsch.heaters.get i) = some k → Told (faultEvent i k) t

theorem Tells.setHsch (s : State) (x : Hsch) : Tells s (s.setHsch x) :=
  ⟨List.prefix_refl _, fun _ h => h⟩

theorem Tells.raiseHeater (i : Heater) (k : FaultKind) (s : State) : Tells s (raiseHeater i k s) :=
  have h := Tells.raise (.heaterFault i) s
  ⟨h.inbox, h.latched⟩

theorem post_kinds (e : Event) (s : State) : (post e s).cnu.kinds = s.cnu.kinds := by
  unfold post
  split
  · rfl
  · exact raise_kinds _ _

theorem HeaterRead.of_fault {x : Int} {i : Heater} {s : State} {k : FaultKind}
    (h : faultOf x (s.hsch.heaters.get i) = some k) (hon : (s.hsch.heaters.get i).output = true) :
    HeaterRead x i s (heaterFaults i k
      (s.setHeater i (testCurrent (currentReading x) (s.hsch.heaters.get i)))) := by
  rw [heaterFaults_eq]
  refine ⟨?_, ?_, fun j => ?_, ?_, ?_, fun k' hk => ?_⟩
  · exact (SlotReach.setHsch s _).trans ((SlotReach.raiseHeater _ _ _).trans (SlotReach.post _ _))
  · rw [post_hsch, raiseHeater]
    simp [State.setHeater, afterReading, hon, h, PerThree.set_set]
  · rw [post_latched_of_ne _ _ (by simp)]
    exact (raise_is_latched _ _ _).trans (by simp [h]; rfl)
  · rw [post_kinds, raiseHeater, h]
    exact congrArg (PerThree.set · i k) (raise_kinds _ _)
  · exact (Tells.setHsch s _).trans ((Tells.raiseHeater _ _ _).trans (Tells.post _ _))
  · cases h.symm.trans hk
    exact post_told _ _

/-- A reading that brings no fault changes its heater's record alone. -/
theorem HeaterRead.of_clear {x : Int} {i : Heater} {s t : State}
    (h : faultOf x (s.hsch.heaters.get i) = none)
    (ht : t = s.setHeater i (afterReading x (s.hsch.heaters.get i))) : HeaterRead x i s t := by
  subst ht
  refine ⟨SlotReach.setHsch s _, rfl, fun j => ?_, ?_, Tells.setHsch s _, fun k hk => ?_⟩
  · rw [h]; simp; rfl
  · rw [h]; exact (PerThree.set_get_self _ _).symm
  · rw [h] at hk; cases hk

theorem readHeater_read (x : Int) (i : Heater) (s : State) : HeaterRead x i s (readHeater x i s) := by
  cases hon : (s.hsch.heaters.get i).output with
  | false =>
    rw [readHeater_of_off hon]
    refine .of_clear (if_pos hon) ?_
    rw [afterReading, if_pos hon, State.setHeater, PerThree.set_get_self]; rfl
  | true =>
    cases hf : faultOf x (s.hsch.heaters.get i) with
    | some k =>
      rw [readHeater_of_fault hf]
      exact .of_fault hf hon
    | none =>
      rw [readHeater_of_clear hon hf]
      exact .of_clear hf (by simp [afterReading, hon, hf])

/-! ### The readings of a slot, in any order -/

/-- What the readings of the heaters of `is` have made of the state with which the slot ended. -/
structure ReadingsDone (current : PerThree Int) (is : List Heater) (s t : State) : Prop where
  reach : SlotReach s t
  hsch : t.hsch = { s.hsch with heaters := t.hsch.heaters }
  heater : ∀ j, t.hsch.heaters.get j =
    if j ∈ is then afterReading (current.get j) (s.hsch.heaters.get j) else s.hsch.heaters.get j
  latched : ∀ j, t.latched (.heaterFault j) = (s.latched (.heaterFault j) ||
    (decide (j ∈ is) && (faultOf (current.get j) (s.hsch.heaters.get j)).isSome))
  kind : ∀ j, t.cnu.kinds.get j =
    if j ∈ is then (faultOf (current.get j) (s.hsch.heaters.get j)).getD (s.cnu.kinds.get j)
    else s.cnu.kinds.get j
  told : ∀ j ∈ is, ∀ k, faultOf (current.get j) (s.hsch.heaters.get j) = some k → Told (faultEvent j k) t

theorem ReadingsDone.snoc {current : PerThree Int} {is : List Heater} {i : Heater} {s t u : State}
    (h : ReadingsDone current is s t) (hi : i ∉ is) (k : HeaterRead (current.get i) i t u) :
    ReadingsDone current (is ++ [i]) s u := by
  have hrec : t.hsch.heaters.get i = s.hsch.heaters.get i := (h.heater i).trans (if_neg hi)
  have hkind : t.cnu.kinds.get i = s.cnu.kinds.get i := (h.kind i).trans (if_neg hi)
  refine ⟨h.reach.trans k.reach, ?_, fun j => ?_, fun j => ?_, fun j => ?_, fun j hj f hf => ?_⟩
  · rw [k.hsch, h.hsch]
  · rw [k.hsch, hrec, PerThree.get_set]
    by_cases hij : i = j
    · subst hij; simp
    · simp [hij, Ne.symm hij, h.heater]
  · rw [k.latched, hrec, h.latched]
    by_cases hij : i = j
    · subst hij; simp [hi]
    · simp [hij, Ne.symm hij]
  · rw [k.kinds, hrec, hkind, PerThree.get_set]
    by_cases hij : i = j
    · subst hij; simp
    · simp [hij, Ne.symm hij, h.kind]
  · rcases List.mem_append.1 hj with hj | hj
    · exact told_mono (h.told j hj f hf) k.tells
    · cases List.mem_singleton.1 hj
      exact k.told f (hrec.symm ▸ hf)

theorem readings_done (current : PerThree Int) (s : State) {is : List Heater} (h : is.Nodup) :
    ReadingsDone current is s (is.foldl (fun s i => readHeater (current.get i) i s) s) := by
  induction is using List.reverseRecOn with
  | nil => exact ⟨.refl s, rfl, by simp, by simp, by simp, by simp⟩
  | append_singleton is i ih =>
    obtain ⟨his, -, hi⟩ := List.nodup_append.1 h
    rw [List.foldl_append]
    exact (ih his).snoc (fun hm => hi i hm i (List.mem_singleton_self i) rfl) (readHeater_read _ _ _)

/-! ### The slot that follows (R30) -/

@[simp] theorem drive_get (slot : Nat) (hs : PerThree HeaterRec) (i : Heater) :
    (drive slot hs).get i = { hs.get i with output := onInSlot i (hs.get i).g slot } :=
  PerThree.get_of _ i

/-- A heater's record as the slot after `slot` begins; after slot 31 none does (R18, R30). -/
def drivenAfter (slot : Nat) (i : Heater) (h : HeaterRec) : HeaterRec :=
  { h with output := if slot < 31 then onInSlot i h.g (slot + 1) else h.output }

theorem nextSlot_eq (s : State) : nextSlot s = s.setHsch { s.hsch with
    slot := if s.hsch.slot < 31 then s.hsch.slot + 1 else s.hsch.slot
    boundaryDue := if s.hsch.slot < 31 then s.hsch.boundaryDue else true
    heaters := .of fun i => drivenAfter s.hsch.slot i (s.hsch.heaters.get i) } := by
  unfold nextSlot drivenAfter
  by_cases h : s.hsch.slot < 31
  · have h32 : s.hsch.slot + 1 < 32 := by omega
    simp only [h, h32, if_true]
    rfl
  · have h32 : ¬ s.hsch.slot + 1 < 32 := by omega
    simp only [h, h32, if_false]
    rfl

theorem not_onInSlot_zero (i : Heater) (slot : Nat) : onInSlot i 0 slot = false := by
  simp [onInSlot]

/-- A heater that has faulted stays off (R32). -/
theorem drivenAfter_faulted (slot : Nat) (i : Heater) (h : HeaterRec) :
    drivenAfter slot i h.faulted = h.faulted := by
  simp [drivenAfter, HeaterRec.faulted, not_onInSlot_zero]

end Sys2Proof.Machine

namespace Sys2Proof.Proofs
open Sys2Proof.Machine Sys2Proof.Safety

/-- Settles O47: the readings by induction over their order, then the slot that follows. -/
theorem slotEndTestsCurrents : Obligations.SlotEndTestsCurrents := by
  intro current order s horder hhold hdue
  have hperm := List.isPerm_iff.1 horder
  have hdone := readings_done current s (hperm.nodup_iff.2 (by decide : heaters.Nodup))
  have hexec : exec (.slotEnd current order) s = .next (endSlot current order s) := by
    simp [exec, execSlotEnd, horder, hhold, hdue]
  refine ⟨_, hexec, ?_⟩
  unfold endSlot
  generalize order.foldl (fun s i => readHeater (current.get i) i s) s = u at hdone ⊢
  have hnext := nextSlot_eq u
  generalize nextSlot u = t at hnext ⊢
  have hslot : u.hsch.slot = s.hsch.slot ∧ u.hsch.boundaryDue = false := by
    rw [hdone.hsch]
    exact ⟨rfl, hdue⟩
  have hcnu : t.cnu = u.cnu := by rw [hnext]; rfl
  have htmx : t.tmx = u.tmx := by rw [hnext]; rfl
  have hreach : SlotReach s t := hdone.reach.trans (hnext ▸ SlotReach.setHsch u _)
  have hhsch : t.hsch = { s.hsch with
      slot := if s.hsch.slot < 31 then s.hsch.slot + 1 else s.hsch.slot
      boundaryDue := decide (31 ≤ s.hsch.slot), heaters := t.hsch.heaters } := by
    rw [hnext, hslot.1, hslot.2, hdone.hsch]
    by_cases h31 : s.hsch.slot < 31
    · simp [h31]
    · simp [h31, Nat.not_lt.1 h31]
  refine ⟨hhsch, hreach, fun i => ?_⟩
  have hi : i ∈ order := hperm.mem_iff.2 (by cases i <;> decide)
  have hheater : t.hsch.heaters.get i =
      drivenAfter s.hsch.slot i (afterReading (current.get i) (s.hsch.heaters.get i)) := by
    rw [hnext, hslot.1]
    exact (PerThree.get_of _ i).trans (by rw [hdone.heater, if_pos hi])
  have hlatched := hdone.latched i
  have hkind := hdone.kind i
  have htold := hdone.told i hi
  rw [if_pos hi] at hkind
  intro h n x low high
  by_cases hfault : h.output = true ∧ (2 ≤ low ∨ 2 ≤ high)
  · have hf : faultOf (current.get i) h = some (if 2 ≤ low then .openLoad else .short) :=
      faultOf_of_runs hfault.1 hfault.2
    rw [if_pos hfault]
    refine ⟨?_, ?_, ?_, ?_⟩
    · rw [afterReading_of_fault hf, drivenAfter_faulted] at hheater
      exact hheater
    · rw [State.latched, hcnu]
      exact hlatched.trans (by rw [hf]; simp [hi])
    · rw [hcnu]
      exact hkind.trans (by rw [hf]; rfl)
    · rw [htmx, State.latched, hcnu, ← faultEvent_of_run]
      exact htold _ hf
  · have hf : faultOf (current.get i) h = none := faultOf_of_not_runs hfault
    rw [if_neg hfault]
    refine ⟨?_, ?_, ?_⟩
    · rw [afterReading_of_clear hf] at hheater
      exact hheater
    · rw [State.latched, hcnu]
      exact hlatched.trans (by rw [hf]; simp)
    · rw [hcnu]
      exact hkind.trans (by rw [hf]; rfl)

end Sys2Proof.Proofs

namespace Sys2Proof

theorem PerThree.mem_list {α : Type} {x : PerThree α} {a : α} : a ∈ x.list ↔ ∃ i, a = x.get i := by
  constructor
  · intro h
    simp only [PerThree.list, List.mem_cons, List.not_mem_nil, or_false] at h
    rcases h with h | h | h
    · exact ⟨.n0, h⟩
    · exact ⟨.n1, h⟩
    · exact ⟨.n2, h⟩
  · rintro ⟨i, rfl⟩
    cases i <;> simp [PerThree.list, PerThree.get]

end Sys2Proof

namespace Sys2Proof.Machine
open Sys2Proof.Safety

/-! ### Sums over the heaters -/

/-- The sum of a quantity over the heaters. -/
def total (f : HeaterRec → Nat) (hs : PerThree HeaterRec) : Nat := (hs.list.map f).sum

theorem total_eq (f : HeaterRec → Nat) (hs : PerThree HeaterRec) :
    total f hs = f (hs.get .n0) + f (hs.get .n1) + f (hs.get .n2) := by
  simp [total, PerThree.list, PerThree.get, Nat.add_assoc]

theorem total_congr {f g : HeaterRec → Nat} {hs ks : PerThree HeaterRec}
    (h : ∀ i, f (hs.get i) = g (ks.get i)) : total f hs = total g ks := by
  simp only [total_eq, h]

theorem total_le {f g : HeaterRec → Nat} {hs : PerThree HeaterRec}
    (h : ∀ i, f (hs.get i) ≤ g (hs.get i)) : total f hs ≤ total g hs := by
  simp only [total_eq]
  exact Nat.add_le_add (Nat.add_le_add (h _) (h _)) (h _)

theorem total_add (f g : HeaterRec → Nat) (hs : PerThree HeaterRec) :
    total (fun h => f h + g h) hs = total f hs + total g hs := List.sum_map_add

theorem total_mul (f : HeaterRec → Nat) (c : Nat) (hs : PerThree HeaterRec) :
    total (fun h => f h * c) hs = total f hs * c := List.sum_map_mul_right ..

theorem rankSpent_eq (r : Nat) (hs : PerThree HeaterRec) :
    rankSpent r hs = total (fun h => if h.rank = r then h.g * h.rating else 0) hs := rfl

/-- What the ranks from 1 on, below `r`, spend together (R28). -/
def spentBelow (r : Nat) (hs : PerThree HeaterRec) : Nat :=
  total (fun h => if 1 ≤ h.rank ∧ h.rank < r then h.g * h.rating else 0) hs

theorem spentBelow_one (hs : PerThree HeaterRec) : spentBelow 1 hs = 0 := by
  have h (i : Heater) : ¬ (1 ≤ (hs.get i).rank ∧ (hs.get i).rank < 1) := by omega
  simp only [spentBelow, total_eq, h, if_false]

theorem spentBelow_succ {r : Nat} (hr : 1 ≤ r) (hs : PerThree HeaterRec) :
    spentBelow (r + 1) hs = spentBelow r hs + rankSpent r hs := by
  rw [rankSpent_eq, spentBelow, spentBelow, ← total_add]
  refine total_congr fun i => ?_
  rcases Nat.lt_trichotomy (hs.get i).rank r with h | h | h
  · have hle : (hs.get i).rank < r + 1 := by omega
    simp [h, hle, h.ne]
  · simp [h, hr]
  · have hnot : ¬ (hs.get i).rank < r + 1 := by omega
    simp [hnot, h.not_gt, h.ne']

/-! ### One rank is served (R28) -/

theorem grantOf_g_le (rem d : Nat) (h : HeaterRec) : (grantOf rem d h).g ≤ h.dem := by
  unfold grantOf
  dsimp only
  split
  · exact Nat.le_refl _
  · exact Nat.div_le_of_le_mul (by rw [Nat.mul_comm d]; exact Nat.mul_le_mul_left _ (by omega))

/-- A rank is granted no more than what is left for it: all it asks for, or shares rounded down (R28). -/
theorem grants_le (r rem : Nat) (hs : PerThree HeaterRec) :
    total (fun h => if h.rank = r then (grantOf rem (rankDemand r hs) h).g * h.rating else 0) hs ≤ rem := by
  by_cases hd : rankDemand r hs ≤ rem
  · simp only [grantOf, if_pos hd]
    exact hd
  · have hpos : 0 < rankDemand r hs := by omega
    refine Nat.le_of_mul_le_mul_right ?_ hpos
    calc total (fun h => if h.rank = r then (grantOf rem (rankDemand r hs) h).g * h.rating else 0) hs *
          rankDemand r hs
        = total (fun h => (if h.rank = r then (grantOf rem (rankDemand r hs) h).g * h.rating else 0) *
            rankDemand r hs) hs := (total_mul ..).symm
      _ ≤ total (fun h => (if h.rank = r then h.dem * h.rating else 0) * rem) hs := by
          refine total_le fun i => ?_
          simp only [grantOf, if_neg hd]
          split
          · have hshare := Nat.div_mul_le_self ((hs.get i).dem * rem) (rankDemand r hs)
            calc (hs.get i).dem * rem / rankDemand r hs * (hs.get i).rating * rankDemand r hs
                = (hs.get i).dem * rem / rankDemand r hs * rankDemand r hs * (hs.get i).rating :=
                  Nat.mul_right_comm ..
              _ ≤ (hs.get i).dem * rem * (hs.get i).rating := Nat.mul_le_mul_right _ hshare
              _ = (hs.get i).dem * (hs.get i).rating * rem := Nat.mul_right_comm ..
          · simp
      _ = rankDemand r hs * rem := total_mul ..
      _ = rem * rankDemand r hs := Nat.mul_comm ..

theorem serveRank_get (r : Nat) (x : PerThree HeaterRec × Nat) (i : Heater) :
    (serveRank r x).1.get i =
      if (x.1.get i).rank = r then grantOf x.2 (rankDemand r x.1) (x.1.get i) else x.1.get i :=
  PerThree.get_of _ i

theorem serveRank_spends (r : Nat) (x : PerThree HeaterRec × Nat) :
    rankSpent r (serveRank r x).1 + (serveRank r x).2 = x.2 := by
  have hle : rankSpent r (serveRank r x).1 ≤ x.2 := by
    refine Nat.le_trans (Nat.le_of_eq ?_) (grants_le r x.2 x.1)
    refine total_congr fun i => ?_
    rw [serveRank_get]
    by_cases h : (x.1.get i).rank = r
    · simp [h, grantOf]
    · simp [h]
  have hrest : (serveRank r x).2 = x.2 - rankSpent r (serveRank r x).1 := rfl
  omega

/-! ### The ranks in turn (R28) -/

/-- The ranks 1 to `r` have been served from an energy budget of `e`. -/
structure Served (e : Nat) (hs : PerThree HeaterRec) (r : Nat) (x : PerThree HeaterRec × Nat) : Prop where
  same : ∀ i, x.1.get i = { hs.get i with g := (x.1.get i).g }
  waiting : ∀ i, ¬ (1 ≤ (hs.get i).rank ∧ (hs.get i).rank ≤ r) → x.1.get i = hs.get i
  granted : ∀ i, 1 ≤ (hs.get i).rank → (hs.get i).rank ≤ r → (x.1.get i).g =
    (grantOf (e - spentBelow (hs.get i).rank x.1) (rankDemand (hs.get i).rank hs) (hs.get i)).g
  budget : spentBelow (r + 1) x.1 + x.2 = e

theorem Served.none (e : Nat) (hs : PerThree HeaterRec) : Served e hs 0 (hs, e) where
  same _ := rfl
  waiting _ _ := rfl
  granted i h1 h0 := absurd h1 (by omega)
  budget := by rw [spentBelow_one, Nat.zero_add]

theorem Served.rank {e r : Nat} {hs : PerThree HeaterRec} {x : PerThree HeaterRec × Nat}
    (h : Served e hs r x) (i : Heater) : (x.1.get i).rank = (hs.get i).rank := by rw [h.same]

theorem Served.demand {e r : Nat} {hs : PerThree HeaterRec} {x : PerThree HeaterRec × Nat}
    (h : Served e hs r x) (q : Nat) : rankDemand q x.1 = rankDemand q hs :=
  total_congr fun i => by rw [h.same]

theorem Served.next {e r : Nat} {hs : PerThree HeaterRec} {x : PerThree HeaterRec × Nat}
    (h : Served e hs r x) : Served e hs (r + 1) (serveRank (r + 1) x) := by
  have hget (i : Heater) : (serveRank (r + 1) x).1.get i =
      if (hs.get i).rank = r + 1 then grantOf x.2 (rankDemand (r + 1) hs) (x.1.get i) else x.1.get i := by
    rw [serveRank_get, h.rank, h.demand]
  have hbelow {q : Nat} (hq : q ≤ r + 1) :
      spentBelow q (serveRank (r + 1) x).1 = spentBelow q x.1 := by
    refine total_congr fun i => ?_
    rw [hget]
    by_cases hr : (hs.get i).rank = r + 1
    · have hnot : ¬ r + 1 < q := by omega
      simp [hr, grantOf, h.rank, hnot]
    · simp [hr]
  refine ⟨fun i => ?_, fun i hi => ?_, fun i h1 hr => ?_, ?_⟩
  · rw [hget]
    split
    · rw [h.same i]
      rfl
    · exact h.same i
  · rw [hget, if_neg (by omega), h.waiting i (by omega)]
  · rw [hget, hbelow hr]
    by_cases hlast : (hs.get i).rank = r + 1
    · have hrem : e - spentBelow (r + 1) x.1 = x.2 := by have := h.budget; omega
      rw [if_pos hlast, hlast, hrem, h.same i]
      rfl
    · rw [if_neg hlast]
      exact h.granted i h1 (by omega)
  · rw [spentBelow_succ (by omega), hbelow (Nat.le_refl _), Nat.add_assoc, serveRank_spends, h.budget]

theorem allocate_served (e : Nat) (hs : PerThree HeaterRec) : Served e hs 3 (allocate e hs) :=
  (Served.none e hs).next.next.next

/-- The grants of a period keep to its energy budget (R28). -/
structure KeepsBudget (e : Nat) (hs : PerThree HeaterRec) (unspent : Nat) : Prop where
  granted : ∀ i, 1 ≤ (hs.get i).rank → (hs.get i).rank ≤ 3 → (hs.get i).g =
    if rankDemand (hs.get i).rank hs ≤ e - spentBelow (hs.get i).rank hs then (hs.get i).dem
    else (hs.get i).dem * (e - spentBelow (hs.get i).rank hs) / rankDemand (hs.get i).rank hs
  spent : total (fun h => h.g * h.rating) hs + unspent = e
  within : ∀ i, (hs.get i).g ≤ (hs.get i).dem

/-- The ranks served in turn keep to the budget, where nothing had been granted before. -/
theorem Served.keepsBudget {e : Nat} {hs : PerThree HeaterRec} {x : PerThree HeaterRec × Nat}
    (h : Served e hs 3 x) (hg : ∀ i, (hs.get i).g = 0) : KeepsBudget e x.1 x.2 := by
  have hdem (i : Heater) : (x.1.get i).dem = (hs.get i).dem := by rw [h.same]
  refine ⟨fun i h1 h3 => ?_, ?_, fun i => ?_⟩
  · rw [h.rank] at h1 h3 ⊢
    rw [h.granted i h1 h3, h.demand, hdem]
    rfl
  · refine Eq.trans (congrArg (· + x.2) (total_congr fun i => ?_)) h.budget
    by_cases hr : 1 ≤ (hs.get i).rank ∧ (hs.get i).rank ≤ 3
    · rw [if_pos (by rw [h.rank]; omega)]
    · rw [h.waiting i hr, hg, if_neg (by omega), Nat.zero_mul]
  · rw [hdem]
    by_cases hr : 1 ≤ (hs.get i).rank ∧ (hs.get i).rank ≤ 3
    · rw [h.granted i hr.1 hr.2]
      exact grantOf_g_le ..
    · rw [h.waiting i hr, hg]
      exact Nat.zero_le _

/-- What drives the outputs leaves the budget as it is. -/
theorem KeepsBudget.drive {e unspent : Nat} {hs : PerThree HeaterRec} (h : KeepsBudget e hs unspent)
    (slot : Nat) : KeepsBudget e (drive slot hs) unspent := by
  have hdemand (r : Nat) : rankDemand r (Machine.drive slot hs) = rankDemand r hs :=
    total_congr fun i => by rw [drive_get]
  have hspent (r : Nat) : spentBelow r (Machine.drive slot hs) = spentBelow r hs :=
    total_congr fun i => by rw [drive_get]
  refine ⟨fun i h1 h3 => ?_, ?_, fun i => ?_⟩
  · rw [drive_get] at h1 h3 ⊢
    rw [hdemand, hspent]
    exact h.granted i h1 h3
  · exact Eq.trans (congrArg (· + unspent) (total_congr fun i => by rw [drive_get])) h.spent
  · rw [drive_get]
    exact h.within i

/-! ### Targets and demands (R20 to R24) -/

theorem targetFor_eq (c : ZoneSettings) (st : HostState) (preheat : Bool) : targetFor c st preheat =
    if st = .qualifying ∨ st = .cycling ∨ (st = .suspended ∧ preheat = true) then c.warmTarget
    else if st = .off ∨ st = .lockedOut ∨ st = .suspended then c.idleTarget
    else c.holdTarget := by
  cases st with
  | suspended => cases preheat <;> rfl
  | _ => rfl

/-- The runs restart where a current limit has changed (R31). -/
theorem copySettings_eq (c : HeaterSettings) (o : HeaterRec) : copySettings c o =
    { o with
      enabled := c.enabled, rating := c.rating, rank := c.rank, fallback := c.fallback
      iMin := c.iMin, iMax := c.iMax
      lowRun := if o.iMin != c.iMin || o.iMax != c.iMax then 0 else o.lowRun
      highRun := if o.iMin != c.iMin || o.iMax != c.iMax then 0 else o.highRun } := by
  unfold copySettings
  by_cases h : o.iMin = c.iMin ∧ o.iMax = c.iMax
  · have hsame : ¬ (o.iMin != c.iMin || o.iMax != c.iMax) = true := by simp [h]
    simp only [if_pos h, if_neg hsame]
  · have hchanged : (o.iMin != c.iMin || o.iMax != c.iMax) = true := by
      simpa [imp_iff_not_or] using not_and_or.1 h
    simp only [if_neg h, if_pos hchanged]

/-- The demand of a heater that is enabled or not, faulted or not, from its zone's temperature (R22 to R24). -/
def demandOf (gain : Nat) (target : Int) (fault : Bool) (temp : Option Int) (h : HeaterRec) : Nat :=
  if h.enabled = false ∨ fault = true then 0
  else
    match temp with
    | some x => demandFor gain (target - x)
    | none => h.fallback

theorem demandOf_le {gain : Nat} {target : Int} {fault : Bool} {temp : Option Int} {h : HeaterRec}
    (hf : h.fallback ≤ 32) : demandOf gain target fault temp h ≤ 32 := by
  unfold demandOf
  split
  · exact Nat.zero_le _
  · split
    · exact Nat.min_le_left _ _
    · exact hf

theorem heaterDemand_eq (z : ZoneSettings) (st : HostState) (preheat fault : Bool) (temp : Option Int)
    (h : HeaterRec) : ∃ fromError, heaterDemand z st preheat fault temp h =
      { h with
        target := some (targetFor z st preheat), g := 0, fromError := fromError
        dem := demandOf z.gain (targetFor z st preheat) fault temp h } := by
  unfold heaterDemand demandOf
  cases h.enabled with
  | false => exact ⟨false, by simp⟩
  | true =>
    cases fault with
    | true => exact ⟨false, by simp⟩
    | false =>
      cases temp with
      | some x => exact ⟨true, by simp⟩
      | none => exact ⟨false, by simp⟩

/-! ### What HSCH finds at a boundary (R19, R25) -/

theorem hpsBoundary_reach (s : State) : HostReach s (hpsBoundary s) := by
  unfold hpsBoundary
  split
  · split
    · exact enterQualifying_reach s
    · split <;> exact HostReach.setHps _ _
  · exact HostReach.refl s

theorem hpsBoundary_tells (s : State) : HostTells s (hpsBoundary s) := by
  unfold hpsBoundary
  split
  · split
    · exact enterQualifying_tells s
    · split <;> exact HostTells.setHps _ _
  · exact HostTells.refl s

/-- A power-on that is pending is withdrawn while the supply is low, and not admitted again (R55, R58). -/
theorem hpsBoundary_withdraws {s : State} (hpending : s.hps.pendingOn = true)
    (hpowering : s.hps.state = .powering) (hlow : s.live .supplyLow = true) :
    (hpsBoundary s).hps.state = .qualifying := by
  have hrst : s.hostRstN = true := by rw [State.hostRstN, hpowering]; rfl
  have hq := enterQualifying_qualified hrst
  rw [hpsBoundary, if_pos hpending, if_pos hlow]
  exact (hq.waiting fun h => by simp [Admissible, hlow] at h).1

/-- A power-on that is pending is asserted otherwise: the host's supply is on (R52, R58). -/
theorem hpsBoundary_asserts {s : State} (hpending : s.hps.pendingOn = true)
    (hpowering : s.hps.state = .powering) (hlow : s.live .supplyLow = false) :
    (hpsBoundary s).hps.state = s.hps.state ∧ (hpsBoundary s).hps.preheat = s.hps.preheat ∧
      (hpsBoundary s).hostPwrEn = true := by
  rw [hpsBoundary, if_pos hpending, if_neg (by simp [hlow])]
  split
  · exact ⟨rfl, rfl, by simp [State.hostPwrEn, hpowering, powerEnabled]⟩
  · exact ⟨rfl, rfl, by simp [State.hostPwrEn, hpowering, powerEnabled]⟩

theorem hpsBoundary_of_not_pending {s : State} (h : s.hps.pendingOn = false) : hpsBoundary s = s :=
  if_neg (by simp [h])

/-- Without a pending power-on HPS leaves the boundary aside (R58). -/
theorem takeBoundary_of_not_pending {first : Bool} {s : State} (h : s.hps.pendingOn = false) :
    takeBoundary first s = hschBoundary (afmBoundary s) := by
  have hafm : (afmBoundary s).hps.pendingOn = false := h
  have hhsch : (hschBoundary (afmBoundary s)).hps.pendingOn = false := h
  unfold takeBoundary
  dsimp only
  rw [hpsBoundary_of_not_pending hafm, hpsBoundary_of_not_pending hhsch, ite_self]

/-- The state that HSCH reads at the boundary: HPS has taken it before, or will after (R19, R25). -/
def seenByHsch (first : Bool) (s : State) : State :=
  if first then hpsBoundary (afmBoundary s) else afmBoundary s

theorem takeBoundary_hsch (first : Bool) (s : State) :
    (takeBoundary first s).hsch = (hschBoundary (seenByHsch first s)).hsch := by
  cases first with
  | true => rfl
  | false => exact (hpsBoundary_reach _).kept.hsch

theorem takeBoundary_afm (first : Bool) (s : State) :
    (takeBoundary first s).afm = (seenByHsch first s).afm := by
  cases first with
  | true => rfl
  | false => exact (hpsBoundary_reach _).kept.afm

/-- The host state that HSCH reads: a pending power-on that HPS has just withdrawn is QUALIFYING (R58). -/
def readState (first : Bool) (s : State) : HostState :=
  if first = true ∧ s.hps.pendingOn = true ∧ s.live .supplyLow = true then .qualifying else s.hps.state

/-- HSCH finds the settings, the records and the causes of the state that the boundary came to, and the host as
`st` says. -/
structure FoundAs (s : State) (st : HostState) (u : State) : Prop where
  settings : u.settings = s.settings
  zmon : u.zmon = s.zmon
  hsch : u.hsch = s.hsch
  low : u.live .supplyLow = s.live .supplyLow
  fault : ∀ i, u.latched (.heaterFault i) = s.latched (.heaterFault i)
  target : ∀ c, targetFor c u.hps.state u.hps.preheat = targetFor c st s.hps.preheat
  reserve : s.live .supplyLow = false → u.hostReserveNow = s.hostReserveNow

theorem FoundAs.of_reach {s : State} {st : HostState} {u : State} (h : HostReach (afmBoundary s) u)
    (k : HostTells (afmBoundary s) u)
    (target : ∀ c, targetFor c u.hps.state u.hps.preheat = targetFor c st s.hps.preheat)
    (reserve : s.live .supplyLow = false → u.hostReserveNow = s.hostReserveNow) : FoundAs s st u :=
  ⟨h.kept.settings, h.kept.zmon, h.kept.hsch, k.live _ (by decide) (by decide), fun i => k.latched _ rfl,
    target, reserve⟩

theorem seenByHsch_found {s : State} (first : Bool)
    (hp : s.hps.pendingOn = (s.hps.state == .powering && s.hps.stage == .pending)) :
    FoundAs s (readState first s) (seenByHsch first s) := by
  by_cases hearly : first = true ∧ s.hps.pendingOn = true
  · obtain ⟨rfl, hpending⟩ := hearly
    have hpowering : s.hps.state = .powering := by
      rw [hpending] at hp
      simpa using (Bool.and_eq_true_iff.1 hp.symm).1
    have hreach := hpsBoundary_reach (afmBoundary s)
    have htells := hpsBoundary_tells (afmBoundary s)
    cases hlow : s.live .supplyLow with
    | true =>
      have hstate := hpsBoundary_withdraws (s := afmBoundary s) hpending hpowering hlow
      have hread : readState true s = .qualifying := if_pos ⟨rfl, hpending, hlow⟩
      refine .of_reach hreach htells (fun c => ?_) (by simp [hlow])
      rw [hread, seenByHsch, if_pos rfl, hstate]
      rfl
    | false =>
      obtain ⟨hstate, hpreheat, hpower⟩ :=
        hpsBoundary_asserts (s := afmBoundary s) hpending hpowering hlow
      have hread : readState true s = s.hps.state := if_neg (by simp [hlow])
      refine .of_reach hreach htells (fun c => ?_) (fun _ => ?_)
      · rw [hread, seenByHsch, if_pos rfl, hstate, hpreheat]
        rfl
      · simp [State.hostReserveNow, seenByHsch, hpower, hpending]
  · have hseen : seenByHsch first s = afmBoundary s := by
      cases first with
      | false => rfl
      | true => exact if_neg fun h => hearly ⟨rfl, h⟩
    have hread : readState first s = s.hps.state := if_neg fun h => hearly ⟨h.1, h.2.1⟩
    rw [hseen, hread]
    exact .of_reach (HostReach.refl _) (HostTells.refl _) (fun _ => rfl) (fun _ => rfl)

/-! ### HSCH at a boundary -/

/-- The heaters with their settings copied and their demands computed, before any grant (R20 to R24). -/
def demanded (s : State) : PerThree HeaterRec :=
  .of fun i => heaterDemand (s.settings.zone.get (heatedZone i)) s.hps.state s.hps.preheat
    (s.latched (.heaterFault i)) (s.zoneTemp (heatedZone i))
    (copySettings (s.settings.heater.get i) (s.hsch.heaters.get i))

/-- The budget of the period that begins (R25 to R27). -/
def budgetNow (s : State) : Nat :=
  available s.settings.budget s.hostReserveNow (decide (0 < s.afm.duty)) (s.live .supplyLow)

theorem hschBoundary_eq (s : State) : (hschBoundary s).hsch =
    { heaters := drive 0 (allocate (32 * budgetNow s) (demanded s)).1, slot := 0, boundaryDue := false
      hostReserve := s.hostReserveNow, fanReserve := decide (0 < s.afm.duty), shed := s.live .supplyLow
      avail := budgetNow s, energy := 32 * budgetNow s
      unspent := (allocate (32 * budgetNow s) (demanded s)).2 } := rfl

theorem demanded_get (s : State) (i : Heater) : ∃ fromError, (demanded s).get i =
    { copySettings (s.settings.heater.get i) (s.hsch.heaters.get i) with
      target := some (targetFor (s.settings.zone.get (heatedZone i)) s.hps.state s.hps.preheat), g := 0
      fromError := fromError
      dem := demandOf (s.settings.zone.get (heatedZone i)).gain
        (targetFor (s.settings.zone.get (heatedZone i)) s.hps.state s.hps.preheat)
        (s.latched (.heaterFault i)) (s.zoneTemp (heatedZone i))
        (copySettings (s.settings.heater.get i) (s.hsch.heaters.get i)) } := by
  rw [demanded, PerThree.get_of]
  exact heaterDemand_eq ..

theorem hschBoundary_budget (s : State) : KeepsBudget (hschBoundary s).hsch.energy
    (hschBoundary s).hsch.heaters (hschBoundary s).hsch.unspent := by
  have hg (i : Heater) : ((demanded s).get i).g = 0 := by
    obtain ⟨_, h⟩ := demanded_get s i
    rw [h]
  exact ((allocate_served _ (demanded s)).keepsBudget hg).drive 0

/-- A heater's record after the boundary, but for its grant what its settings and its demand make it. -/
theorem FoundAs.heater {s u : State} {st : HostState} (h : FoundAs s st u) (i : Heater) : ∃ fromError g,
    (hschBoundary u).hsch.heaters.get i =
      { copySettings (s.settings.heater.get i) (s.hsch.heaters.get i) with
        target := some (targetFor (s.settings.zone.get (heatedZone i)) st s.hps.preheat)
        fromError := fromError, g := g, output := onInSlot i g 0
        dem := demandOf (s.settings.zone.get (heatedZone i)).gain
          (targetFor (s.settings.zone.get (heatedZone i)) st s.hps.preheat)
          (s.latched (.heaterFault i)) (s.zoneTemp (heatedZone i))
          (copySettings (s.settings.heater.get i) (s.hsch.heaters.get i)) } := by
  obtain ⟨fromError, hrec⟩ := demanded_get u i
  rw [h.target, h.fault, State.zoneTemp, h.zmon, h.settings, h.hsch] at hrec
  rw [hschBoundary_eq, drive_get, (allocate_served _ (demanded u)).same i, hrec]
  exact ⟨fromError, _, rfl⟩

/-- The budget that HSCH computes (R25 to R27): none while the supply is low. -/
theorem FoundAs.budget {s u : State} {st : HostState} (h : FoundAs s st u) : budgetNow u =
    if s.live .supplyLow then 0
    else s.settings.budget.cabinetBudget -
      (if s.hostPwrEn || s.powerGood || s.hps.pendingOn then s.settings.budget.hostReserve else 0) -
      (if 0 < u.afm.duty then s.settings.budget.fanReserve else 0) := by
  rw [budgetNow, available, h.low, h.settings]
  cases hlow : s.live .supplyLow with
  | true => rfl
  | false =>
    rw [h.reserve hlow]
    by_cases hfan : 0 < u.afm.duty
    · simp [State.hostReserveNow, hfan]
    · simp [State.hostReserveNow, hfan]

end Sys2Proof.Machine

namespace Sys2Proof.Proofs
open Sys2Proof.Machine Sys2Proof.Safety

/-- Settles O45: the ranks served in turn keep to the budget, and HSCH reads the host before or after HPS. -/
theorem boundaryServesHeatersWithinBudget : Obligations.BoundaryServesHeatersWithinBudget := by
  intro first s hhold hdue hpending
  have hexec : exec (.climateBoundary first) s = .next (takeBoundary first s) := by
    simp [exec, execClimateBoundary, hhold, hdue]
  refine ⟨_, hexec, ?_⟩
  have hfound := seenByHsch_found first hpending
  have hhsch := takeBoundary_hsch first s
  have hafm := takeBoundary_afm first s
  have hquiet : s.hps.pendingOn = false → takeBoundary first s = { s with
      hsch := (takeBoundary first s).hsch, afm := (takeBoundary first s).afm } := fun h => by
    rw [takeBoundary_of_not_pending h]
    rfl
  generalize seenByHsch first s = u at hfound hhsch hafm
  generalize takeBoundary first s = t at hhsch hafm hquiet ⊢
  have hbudget := hschBoundary_budget u
  have hheater := hfound.heater
  rw [← hhsch] at hbudget hheater
  rw [hschBoundary_eq u] at hhsch
  refine ⟨hquiet, ?_, ?_, fun i => ?_, ?_, ?_, ?_, ?_, fun h hm => ?_, hbudget.spent, fun h hm => ?_,
    fun hfallback h hm => ?_⟩
  · rw [hhsch]
  · rw [hhsch]
  · obtain ⟨fromError, g, hrec⟩ := hheater i
    intro h c zs target
    have htarget : target = targetFor zs (readState first s) s.hps.preheat := (targetFor_eq ..).symm
    rw [copySettings_eq] at hrec
    have hrec : h = _ := hrec
    clear_value target h
    subst htarget hrec
    exact ⟨rfl, rfl, rfl, rfl, rfl, rfl, rfl, ⟨rfl, rfl, rfl⟩, rfl, rfl⟩
  · rw [hhsch]
    exact hfound.low
  · rw [hhsch, hafm]
  · rw [hhsch, hafm]
    exact hfound.budget
  · rw [hhsch]
  · obtain ⟨i, rfl⟩ := PerThree.mem_list.1 hm
    exact hbudget.granted i
  · obtain ⟨i, rfl⟩ := PerThree.mem_list.1 hm
    exact hbudget.within i
  · obtain ⟨i, rfl⟩ := PerThree.mem_list.1 hm
    refine (hbudget.within i).trans ?_
    obtain ⟨fromError, g, hrec⟩ := hheater i
    rw [hrec]
    exact demandOf_le (hfallback i)

end Sys2Proof.Proofs

namespace Sys2Proof.Machine
open Sys2Proof.Safety

/-! ### Expiries of TMX and CNU, and the start of a learn (R46, R158, R173) -/

/-- An arm window runs out while its unit is COUNTING or READY (R158). -/
theorem windowOver_iff (r : UnitRec) :
    r.windowOver = true ↔ (r.state = .counting ∨ r.state = .ready) ∧ r.window = some 0 := by
  have hactive : r.state.active = true ↔ r.state = .counting ∨ r.state = .ready := by
    cases r.state <;> simp [UnitState.active]
  simp only [UnitRec.windowOver, Bool.and_eq_true, hactive, beq_iff_eq]

/-- AFM once a learn has been asked for: begun, unless one is under way (R46). -/
def Afm.learnStarted (a : Afm) : Afm :=
  if a.learn = .idle then { a with learn := .waiting, readings := 0, sum := 0 } else a

/-- The answer to FILTER_SERVICED (R46). -/
theorem filterServiced_eq {tag : Byte} {s : State} (h : Due s 0x31 tag []) :
    exec (.filterServiced tag []) s = .next (
      (s.setAfm s.afm.learnStarted).setLnk
        (replying s 0x31 tag (if s.afm.learn = .idle then .accepted else .busy) [] .nothing)) := by
  have hexec : exec (.filterServiced tag []) s = .next (filterServiced ⟨0x31, tag, []⟩ (takeHeld s)) :=
    congrArg Host.Outcome.next (dispatch_of_due h _)
  have hanswer (st : Status) (a : Afm) : answer ⟨0x31, tag, []⟩ st [] ((takeHeld s).setAfm a) =
      (s.setAfm a).setLnk (replying s 0x31 tag st [] .nothing) :=
    answerThen_replying (t := (takeHeld s).setAfm a) (by decide) rfl .nothing st []
  have hlearn : (takeHeld s).afm.learn = s.afm.learn := rfl
  rw [hexec, filterServiced, Afm.learnStarted, hlearn]
  by_cases hidle : s.afm.learn = .idle
  · rw [if_pos hidle, if_pos hidle, if_pos hidle]
    exact congrArg _ (hanswer .accepted _)
  · rw [if_neg hidle, if_neg hidle, if_neg hidle]
    exact congrArg _ (hanswer .busy s.afm)

end Sys2Proof.Machine

namespace Sys2Proof.Proofs
open Sys2Proof.Machine Sys2Proof.Safety

/-- Settles O60: the two expiries by their tests, FILTER_SERVICED by the equation of its answer. -/
theorem windowsPulsesAndLearnStarts : Obligations.WindowsPulsesAndLearnStarts := by
  refine ⟨fun u s => ?_, fun s htimer => ?_, fun tag s hdue => ?_⟩
  · exact congrArg Host.Outcome.next (if_congr (windowOver_iff _) rfl rfl)
  · simp [exec, execSvcTimerExpiry, htimer]
  · rw [filterServiced_eq hdue, Afm.learnStarted]
    by_cases hidle : s.afm.learn = .idle
    · simp only [if_pos hidle]
    · simp only [if_neg hidle, State.setAfm_self]

end Sys2Proof.Proofs

namespace Sys2Proof.Machine
open Sys2Proof.Safety

/-! ### AFM at a boundary (R40, R41, R46) -/

/-- The hysteresis of running (R41): on from fan_on, off below it by more than 20 tenths. -/
theorem nextRunning_some (c : FanSettings) (running : Bool) (x : Int) :
    nextRunning c running (some x) = decide (c.fanOn ≤ x ∨ (running = true ∧ c.fanOn - 20 ≤ x)) := by
  unfold nextRunning
  by_cases hon : c.fanOn ≤ x
  · simp [hon]
  · simp [hon]

theorem boost_iff (s : State) : s.boost = true ↔
    ∃ (z : Zone) (x : Int), s.zoneTemp z = some x ∧ (s.settings.zone.get z).ceiling < x := by
  have habove (z : Zone) : (match s.zoneTemp z with
      | some t => decide ((s.settings.zone.get z).ceiling < t)
      | none => false) = true ↔ ∃ x, s.zoneTemp z = some x ∧ (s.settings.zone.get z).ceiling < x := by
    cases s.zoneTemp z <;> simp
  have hall (z : Zone) : z ∈ Four.all := by cases z <;> decide
  simp only [State.boost, List.any_eq_true]
  exact ⟨fun ⟨z, _, h⟩ => ⟨z, (habove z).1 h⟩, fun ⟨z, h⟩ => ⟨z, hall z, (habove z).2 h⟩⟩

/-- The computed duty lies between min_duty and 100 (R40). -/
theorem computedDuty_cast (c : FanSettings) (x : Int) : (computedDuty c x : Int) =
    max (c.minDuty : Int)
      (min (c.minDuty + Int.fdiv ((x - c.fanOn) * (100 - c.minDuty)) (c.fanFull - c.fanOn)) 100) :=
  Int.toNat_of_nonneg (le_max_of_le_left (Int.natCast_nonneg _))

end Sys2Proof.Machine

namespace Sys2Proof.Proofs
open Sys2Proof.Machine Sys2Proof.Safety

/-- Settles O46: HPS and HSCH leave AFM's record as its own boundary made it; its cases in the order of R40. -/
theorem boundarySetsTheFanDuty : Obligations.BoundarySetsTheFanDuty := by
  intro first s hhold hdue
  refine ⟨takeBoundary first s, by simp [exec, execClimateBoundary, hhold, hdue], ?_⟩
  have hafm : (takeBoundary first s).afm = (afmBoundary s).afm := by
    rw [takeBoundary_afm]
    cases first with
    | true => exact (hpsBoundary_reach _).kept.afm
    | false => rfl
  rw [hafm]
  refine ⟨?_, fun hlearn => ?_, fun hidle => ⟨?_, ?_⟩, rfl⟩
  · change nextRunning _ _ (s.zoneTemp .n3) = _
    cases s.zoneTemp .n3 with
    | none => rfl
    | some x => exact nextRunning_some _ _ _
  · simp [afmBoundary, fanDuty, hlearn]
  · simp [afmBoundary, hidle]
  · have hduty : ((afmBoundary s).afm.duty, (afmBoundary s).afm.reason) =
        fanDuty false (afmBoundary s).afm.running s := by
      simp [afmBoundary, hidle]
    obtain ⟨hduty, hreason⟩ := Prod.ext_iff.1 hduty
    dsimp only at hduty hreason
    rw [hduty, hreason, fanDuty, if_neg Bool.false_ne_true]
    cases s.zoneTemp .n3 with
    | none => exact ⟨rfl, rfl⟩
    | some x =>
      dsimp only
      rw [← boost_iff]
      refine ⟨fun hboost => ?_, fun hboost hoff => ?_, fun hboost hrunning => ?_⟩
      · rw [if_pos hboost]
        exact ⟨rfl, rfl⟩
      · rw [if_neg hboost, hoff]
        exact ⟨rfl, rfl⟩
      · rw [if_neg hboost, hrunning]
        exact ⟨rfl, computedDuty_cast _ _⟩

end Sys2Proof.Proofs

namespace Sys2Proof.Machine
open Sys2Proof.Safety

/-! ### Lists for CNU alone, and lists of events (R39, R149) -/

theorem emitAll_append (es fs : List Emit) (s : State) :
    emitAll (es ++ fs) s = emitAll fs (emitAll es s) := List.foldl_append

theorem causeAfter_append (c : Cond) (es fs : List Emit) (b : Bool) :
    causeAfter c (es ++ fs) b = causeAfter c fs (causeAfter c es b) := List.foldl_append

/-- The hand-on goes to CNU: a latch, the end of a live cause, a notice. -/
def Emit.isForCnu : Emit → Bool
  | .raise _ | .endCause _ | .notify _ => true
  | .post _ | .offer _ => false

theorem emitAll_of_forCnu {es : List Emit} (h : ∀ e ∈ es, e.isForCnu = true) (s : State) :
    emitAll es s = s.setCnu (emitAll es s).cnu := by
  induction es generalizing s with
  | nil => rfl
  | cons e es ih =>
    obtain ⟨he, hes⟩ := List.forall_mem_cons.1 h
    have hemit : emit e s = s.setCnu (emit e s).cnu := by
      cases e with
      | raise c => exact raise_eq c s
      | endCause c => rfl
      | notify b =>
        change notify b s = s.setCnu (notify b s).cnu
        rw [notify_eq]
        rfl
      | post e => cases he
      | offer r => cases he
    rw [emitAll_cons, ih hes, hemit]
    rfl

/-- The hand-on is an event. -/
def Emit.isEvent : Emit → Bool
  | .post _ => true
  | .raise _ | .endCause _ | .notify _ | .offer _ => false

theorem Emit.isEvent_iff (e : Emit) : e.isEvent = true ↔ ∃ x, e = .post x := by
  cases e <;> simp [Emit.isEvent]

theorem Emit.isPlain_of_isEvent {e : Emit} (h : e.isEvent = true) : e.isPlain = true := by
  obtain ⟨x, rfl⟩ := e.isEvent_iff.1 h
  rfl

theorem emitAll_keq_of_events {es : List Emit} (h : ∀ e ∈ es, e.isEvent = true) (s : State) :
    (emitAll es s).keq = s.keq := by
  induction es generalizing s with
  | nil => rfl
  | cons e es ih =>
    obtain ⟨he, hes⟩ := List.forall_mem_cons.1 h
    obtain ⟨x, rfl⟩ := e.isEvent_iff.1 he
    rw [emitAll_cons, ih hes]
    exact post_keq x s

/-- A full inbox stays as it is, whatever is posted (R149). -/
theorem emitAll_inbox_of_full {es : List Emit} {s : State} (hfull : ¬ s.tmx.inbox.length < Config.inboxSize) :
    (emitAll es s).tmx.inbox = s.tmx.inbox := by
  induction es generalizing s with
  | nil => rfl
  | cons e es ih =>
    have hemit : (emit e s).tmx = s.tmx := by
      cases e with
      | post x => rw [emit, post_of_full x s hfull, raise_tmx]
      | offer r => exact offer_tmx r s
      | raise c => exact raise_tmx c s
      | endCause c => rfl
      | notify b => exact notify_tmx b s
    rw [emitAll_cons, ih (by rwa [hemit]), hemit]

/-- The first event of a list has been posted before the others. -/
theorem posted_emitAll_cons (e : Event) (es : List Emit) (s : State) : Posted e s (emitAll (.post e :: es) s) := by
  unfold Posted
  split
  · rename_i hroom
    have hpost : (post e s).tmx.inbox = s.tmx.inbox ++ [e] := by rw [post_of_room e s hroom]; rfl
    rw [← hpost]
    exact (Tells.emitAll es (post e s)).inbox
  · rename_i hfull
    refine ⟨emitAll_inbox_of_full hfull, (Tells.emitAll es (post e s)).latched _ ?_⟩
    rw [post_of_full e s hfull]
    exact raise_latched_self _ _

end Sys2Proof.Machine

namespace Sys2Proof.Machine
open Sys2Proof.Safety

/-! ### The stall judgement (R44) -/

section
variable {c : FanSettings} {a : Afm}

theorem stepStall_at_rest (hduty : a.duty = 0) : stepStall c a = { a with slowRun := 0, fastRun := 0 } :=
  if_pos hduty

theorem stepStall_of_turning (hduty : a.duty ≠ 0) (hstalled : a.stalled = false)
    (hspeed : ¬ a.speed < c.stallRpm) : stepStall c a = { a with slowRun := 0 } := by
  simp [stepStall, hduty, hstalled, hspeed]

theorem stepStall_of_slow (hduty : a.duty ≠ 0) (hstalled : a.stalled = false) (hspeed : a.speed < c.stallRpm) :
    stepStall c a =
      if a.slowRun + 1 < 5 then { a with slowRun := a.slowRun + 1 }
      else { a with stalled := true, slowRun := 0, fastRun := 0 } := by
  by_cases hrun : a.slowRun + 1 < 5
  · simp [stepStall, hduty, hstalled, hspeed, hrun, Nat.not_le.2 hrun]
  · simp [stepStall, hduty, hstalled, hspeed, hrun, Nat.not_lt.1 hrun]

theorem stepStall_of_stuck (hduty : a.duty ≠ 0) (hstalled : a.stalled = true) (hspeed : a.speed < c.stallRpm) :
    stepStall c a = { a with fastRun := 0 } := by
  simp [stepStall, hduty, hstalled, hspeed]

theorem stepStall_of_fast (hduty : a.duty ≠ 0) (hstalled : a.stalled = true) (hspeed : ¬ a.speed < c.stallRpm) :
    stepStall c a =
      if a.fastRun + 1 < 5 then { a with fastRun := a.fastRun + 1 }
      else { a with stalled := false, slowRun := 0, fastRun := 0 } := by
  by_cases hrun : a.fastRun + 1 < 5
  · simp [stepStall, hduty, hstalled, hspeed, hrun, Nat.not_le.2 hrun]
  · simp [stepStall, hduty, hstalled, hspeed, hrun, Nat.not_lt.1 hrun]

theorem stepStall_others (c : FanSettings) (a : Afm) : stepStall c a = { a with
    stalled := (stepStall c a).stalled, slowRun := (stepStall c a).slowRun
    fastRun := (stepStall c a).fastRun } := by
  unfold stepStall
  split
  · rfl
  · split <;> split
    · rfl
    · split <;> rfl
    · split <;> rfl
    · rfl

/-! ### The clog judgement (R45) -/

/-- The measurements in a row made at 100 % (R45). -/
def Afm.fullAfter (a : Afm) : Nat := if a.duty = 100 then satInc 65535 a.fullRun else 0

/-- The measurement finds the filter clogged (R45). -/
def Afm.Clogs (c : FanSettings) (a : Afm) : Prop :=
  a.clogged = false ∧ a.learn = .idle ∧ 30 ≤ a.fullAfter ∧
    ∃ r, a.reference = some r ∧ clogThreshold c r < a.speed

theorem stepClog_of_clogs (h : a.Clogs c) : stepClog c a = { a with fullRun := a.fullAfter, clogged := true } := by
  obtain ⟨hclogged, hidle, hfull, r, href, hspeed⟩ := h
  unfold Afm.fullAfter at hfull
  simp [stepClog, Afm.fullAfter, hclogged, hidle, hfull, href, hspeed]

theorem stepClog_of_clear (h : ¬ a.Clogs c) : stepClog c a = { a with fullRun := a.fullAfter } := by
  cases href : a.reference with
  | none => simp [stepClog, Afm.fullAfter, href]
  | some r =>
    have hclear : a.clogged = false → a.learn = .idle → 30 ≤ a.fullAfter → ¬ clogThreshold c r < a.speed :=
      fun hclogged hidle hfull hspeed => h ⟨hclogged, hidle, hfull, r, href, hspeed⟩
    simp only [stepClog, href]
    rw [if_neg]
    · rfl
    · simpa [Afm.fullAfter] using hclear

theorem stepClog_others (c : FanSettings) (a : Afm) : stepClog c a = { a with
    fullRun := a.fullAfter, clogged := (stepClog c a).clogged } := by
  by_cases h : a.Clogs c
  · rw [stepClog_of_clogs h]
  · rw [stepClog_of_clear h]

/-! ### A learn reading (R47, R48) -/

/-- The reading is the thirtieth, taken of a fan that turns (R47). -/
abbrev Afm.Completes (a : Afm) : Prop := a.learn = .measuring ∧ a.stalled = false ∧ 30 ≤ a.readings + 1

/-- The reference that thirty readings make (R47). -/
def Afm.mean (a : Afm) : Nat := (a.sum + a.speed) / 30

theorem stepLearn_of_not_measuring (cellOk : Bool) (h : a.learn ≠ .measuring) :
    stepLearn cellOk a = (a, none, [], []) := if_pos h

theorem stepLearn_of_stall (cellOk : Bool) (h : a.learn = .measuring) (hstalled : a.stalled = true) :
    stepLearn cellOk a = ({ a with learn := .idle }, none, [learnDone .stall none], []) := by
  simp [stepLearn, Afm.learnEnded, h, hstalled]

theorem stepLearn_of_reading (cellOk : Bool) (h : a.learn = .measuring) (hstalled : a.stalled = false)
    (hmore : a.readings + 1 < 30) : stepLearn cellOk a =
      ({ a with readings := a.readings + 1, sum := a.sum + a.speed }, none, [], []) := by
  simp [stepLearn, h, hstalled, hmore]

theorem stepLearn_of_completes (cellOk : Bool) (h : a.Completes) : stepLearn cellOk a =
    ({ a with
        readings := a.readings + 1, sum := a.sum + a.speed, reference := some a.mean, clogged := false
        fullRun := 0, learn := .idle },
      some a.mean,
      (if cellOk then [] else [.raise .storeFailed]) ++ (if a.clogged then [.endCause .filterClog] else []) ++
        [if cellOk then learnDone .ok (some a.mean) else learnDone .failed none],
      if a.clogged then [.post (event .airflow 3 a.mean)] else []) := by
  obtain ⟨hmeasuring, hstalled, hlast⟩ := h
  simp [stepLearn, Afm.mean, hmeasuring, hstalled, Nat.not_lt.2 hlast]

/-- A reading that does not complete the learn makes no reference, and hands on no more than the notice of an
aborted learn (R47, R48). -/
theorem stepLearn_of_incomplete (cellOk : Bool) (h : ¬ a.Completes) :
    (stepLearn cellOk a).1 = { a with
      learn := (stepLearn cellOk a).1.learn, readings := (stepLearn cellOk a).1.readings
      sum := (stepLearn cellOk a).1.sum } ∧
    (stepLearn cellOk a).2.1 = none ∧
    ((stepLearn cellOk a).2.2.1 = [] ∨ (stepLearn cellOk a).2.2.1 = [learnDone .stall none]) ∧
    (stepLearn cellOk a).2.2.2 = [] := by
  by_cases hm : a.learn = .measuring
  · by_cases hs : a.stalled = true
    · rw [stepLearn_of_stall cellOk hm hs]
      exact ⟨rfl, rfl, .inr rfl, rfl⟩
    · have hs := Bool.eq_false_of_not_eq_true hs
      rw [stepLearn_of_reading cellOk hm hs (Nat.not_le.1 fun hlast => h ⟨hm, hs, hlast⟩)]
      exact ⟨rfl, rfl, .inl rfl, rfl⟩
  · rw [stepLearn_of_not_measuring cellOk hm]
    exact ⟨rfl, rfl, .inl rfl, rfl⟩

theorem stepLearn_others (cellOk : Bool) (a : Afm) : (stepLearn cellOk a).1 = { a with
    learn := (stepLearn cellOk a).1.learn, readings := (stepLearn cellOk a).1.readings
    sum := (stepLearn cellOk a).1.sum, reference := (stepLearn cellOk a).1.reference
    clogged := (stepLearn cellOk a).1.clogged, fullRun := (stepLearn cellOk a).1.fullRun } := by
  by_cases h : a.Completes
  · rw [stepLearn_of_completes cellOk h]
  · rw [(stepLearn_of_incomplete cellOk h).1]

end

end Sys2Proof.Machine

namespace Sys2Proof.Machine
open Sys2Proof.Safety

/-! ### What a measurement hands on (R44, R45, R47, R48) -/

/-- A change of the stall state hands on its latch or the end of its cause, and its event (R44). -/
theorem stallEmits_cases (old new : Afm) :
    (old.stalled = new.stalled ∧ stallEmits old new = ([], [])) ∨
    (old.stalled = false ∧ new.stalled = true ∧
      stallEmits old new = ([.raise .fanStall], [.post (event .airflow 0 new.speed)])) ∨
    (old.stalled = true ∧ new.stalled = false ∧
      stallEmits old new = ([.endCause .fanStall], [.post (event .airflow 2 new.speed)])) := by
  unfold stallEmits
  cases old.stalled <;> cases new.stalled <;> simp

/-- A clog that begins hands on its latch and its event (R45). -/
theorem clogEmits_cases (old new : Afm) :
    (old.clogged = false ∧ new.clogged = true ∧
      clogEmits old new = ([.raise .filterClog], [.post (event .airflow 1 new.speed)])) ∨
    (¬ (old.clogged = false ∧ new.clogged = true) ∧ clogEmits old new = ([], [])) := by
  unfold clogEmits
  cases old.clogged <;> cases new.clogged <;> simp

theorem stallEmits_cause (c : Cond) (old new : Afm) (b : Bool) : causeAfter c (stallEmits old new).1 b =
    if c = .fanStall ∧ old.stalled ≠ new.stalled then new.stalled else b := by
  rcases stallEmits_cases old new with ⟨hsame, he⟩ | ⟨hold, hnew, he⟩ | ⟨hold, hnew, he⟩
  · rw [he, hsame]
    simp [causeAfter]
  · rw [he, hold, hnew]
    by_cases hc : c = .fanStall <;> simp [causeAfter, causeThen, Cond.isLive, hc, eq_comm]
  · rw [he, hold, hnew]
    by_cases hc : c = .fanStall <;> simp [causeAfter, causeThen, hc, eq_comm]

theorem clogEmits_cause (c : Cond) (old new : Afm) (b : Bool) : causeAfter c (clogEmits old new).1 b =
    if c = .filterClog ∧ old.clogged = false ∧ new.clogged = true then true else b := by
  rcases clogEmits_cases old new with ⟨hold, hnew, he⟩ | ⟨hstays, he⟩
  · rw [he, hold, hnew]
    by_cases hc : c = .filterClog <;> simp [causeAfter, causeThen, Cond.isLive, hc, eq_comm]
  · rw [he, if_neg fun h => hstays h.2]
    rfl

theorem stepLearn_cause (c : Cond) (cellOk : Bool) (a : Afm) (b : Bool) :
    causeAfter c (stepLearn cellOk a).2.2.1 b =
      if c = .filterClog ∧ a.Completes ∧ a.clogged = true then false else b := by
  by_cases h : a.Completes
  · rw [stepLearn_of_completes cellOk h]
    cases cellOk <;> cases hclogged : a.clogged <;> by_cases hc : c = .filterClog <;>
      simp [causeAfter, causeThen, Cond.isLive, learnDone, h, hc, eq_comm]
  · rw [if_neg fun hc => h hc.2.1]
    obtain ⟨-, -, hnone | hnotice, -⟩ := stepLearn_of_incomplete cellOk h
    · rw [hnone]
      rfl
    · rw [hnotice]
      rfl

theorem raise_mem_stallEmits (c : Cond) (old new : Afm) : Emit.raise c ∈ (stallEmits old new).1 ↔
    c = .fanStall ∧ old.stalled = false ∧ new.stalled = true := by
  rcases stallEmits_cases old new with ⟨hsame, he⟩ | ⟨hold, hnew, he⟩ | ⟨hold, hnew, he⟩
  · simp [he, hsame]
  · simp [he, hold, hnew]
  · simp [he, hold]

theorem raise_mem_clogEmits (c : Cond) (old new : Afm) : Emit.raise c ∈ (clogEmits old new).1 ↔
    c = .filterClog ∧ old.clogged = false ∧ new.clogged = true := by
  rcases clogEmits_cases old new with ⟨hold, hnew, he⟩ | ⟨hstays, he⟩
  · simp [he, hold, hnew]
  · simp [he, hstays]

theorem raise_mem_stepLearn (c : Cond) (cellOk : Bool) (a : Afm) :
    Emit.raise c ∈ (stepLearn cellOk a).2.2.1 ↔ c = .storeFailed ∧ a.Completes ∧ cellOk = false := by
  by_cases h : a.Completes
  · rw [stepLearn_of_completes cellOk h]
    rw [and_iff_right h]
    cases cellOk <;> cases a.clogged <;> simp [learnDone]
  · obtain ⟨-, -, hnone | hnotice, -⟩ := stepLearn_of_incomplete cellOk h
    · simp [hnone, h]
    · simp [hnotice, learnDone, h]

theorem stallEmits_kinds (old new : Afm) : (∀ e ∈ (stallEmits old new).1, e.isForCnu = true) ∧
    ∀ e ∈ (stallEmits old new).2, e.isEvent = true := by
  rcases stallEmits_cases old new with ⟨-, he⟩ | ⟨-, -, he⟩ | ⟨-, -, he⟩ <;>
    simp [he, Emit.isForCnu, Emit.isEvent]

theorem clogEmits_kinds (old new : Afm) : (∀ e ∈ (clogEmits old new).1, e.isForCnu = true) ∧
    ∀ e ∈ (clogEmits old new).2, e.isEvent = true := by
  rcases clogEmits_cases old new with ⟨-, -, he⟩ | ⟨-, he⟩ <;> simp [he, Emit.isForCnu, Emit.isEvent]

theorem stepLearn_kinds (cellOk : Bool) (a : Afm) : (∀ e ∈ (stepLearn cellOk a).2.2.1, e.isForCnu = true) ∧
    ∀ e ∈ (stepLearn cellOk a).2.2.2, e.isEvent = true := by
  by_cases h : a.Completes
  · rw [stepLearn_of_completes cellOk h]
    cases cellOk <;> cases a.clogged <;> simp [learnDone, Emit.isForCnu, Emit.isEvent]
  · obtain ⟨-, -, hnone | hnotice, hevents⟩ := stepLearn_of_incomplete cellOk h
    · simp [hnone, hevents]
    · simp [hnotice, hevents, learnDone, Emit.isForCnu]

end Sys2Proof.Machine

namespace Sys2Proof.Machine
open Sys2Proof.Safety

/-! ### A measurement in the order of R39 -/

/-- AFM's record with the speed of the interval, once the stall has been judged (R43, R44). -/
def stallJudged (pulses : Nat) (s : State) : Afm :=
  stepStall s.settings.fan { s.afm with speed := speedOf pulses }

/-- AFM's record once the clog has been judged too (R45). -/
def clogJudged (pulses : Nat) (s : State) : Afm := stepClog s.settings.fan (stallJudged pulses s)

/-- What the measurement hands to CNU. -/
def fanLatches (pulses : Nat) (cellOk : Bool) (s : State) : List Emit :=
  (stallEmits s.afm (stallJudged pulses s)).1 ++ (clogEmits (stallJudged pulses s) (clogJudged pulses s)).1 ++
    (stepLearn cellOk (clogJudged pulses s)).2.2.1

/-- The events that the measurement then posts. -/
def fanEvents (pulses : Nat) (cellOk : Bool) (s : State) : List Emit :=
  (stallEmits s.afm (stallJudged pulses s)).2 ++ (clogEmits (stallJudged pulses s) (clogJudged pulses s)).2 ++
    (stepLearn cellOk (clogJudged pulses s)).2.2.2

/-- The part with AFM's record and the cell as the measurement leaves them, before anything is handed on. -/
def fanRecorded (pulses : Nat) (cellOk : Bool) (s : State) : State :=
  let l := stepLearn cellOk (clogJudged pulses s)
  (s.setAfm l.1).setPst { s.pst with cell := if cellOk then l.2.1.or s.pst.cell else s.pst.cell }

theorem measureFan_eq (pulses : Nat) (cellOk : Bool) (s : State) : measureFan pulses cellOk s =
    emitAll (fanEvents pulses cellOk s) (emitAll (fanLatches pulses cellOk s) (fanRecorded pulses cellOk s)) := by
  rw [← emitAll_append, fanLatches, fanEvents, ← List.append_assoc, ← List.append_assoc]
  refine congrArg (emitAll _) ?_
  dsimp only [fanRecorded, clogJudged, stallJudged]
  split
  · rename_i r href
    rw [href]
    cases cellOk <;> rfl
  · rename_i href
    rw [href]
    cases cellOk <;> rfl

section
variable (pulses : Nat) (cellOk : Bool) (s : State)

theorem fanLatches_forCnu : ∀ e ∈ fanLatches pulses cellOk s, e.isForCnu = true := by
  intro e he
  simp only [fanLatches, List.mem_append] at he
  rcases he with (he | he) | he
  · exact (stallEmits_kinds _ _).1 e he
  · exact (clogEmits_kinds _ _).1 e he
  · exact (stepLearn_kinds _ _).1 e he

theorem fanEvents_isEvent : ∀ e ∈ fanEvents pulses cellOk s, e.isEvent = true := by
  intro e he
  simp only [fanEvents, List.mem_append] at he
  rcases he with (he | he) | he
  · exact (stallEmits_kinds _ _).2 e he
  · exact (clogEmits_kinds _ _).2 e he
  · exact (stepLearn_kinds _ _).2 e he

theorem measureFan_afm : (measureFan pulses cellOk s).afm = (stepLearn cellOk (clogJudged pulses s)).1 := by
  rw [measureFan_eq, emitAll_afm, emitAll_afm]
  rfl

theorem measureFan_cell : (measureFan pulses cellOk s).pst.cell =
    if cellOk then (stepLearn cellOk (clogJudged pulses s)).2.1.or s.pst.cell else s.pst.cell := by
  rw [measureFan_eq, emitAll_pst, emitAll_pst]
  rfl

/-- A measurement reaches AFM's record, the cell, the inbox and CNU. -/
theorem measureFan_frame : measureFan pulses cellOk s = { s with
    afm := (measureFan pulses cellOk s).afm
    pst := { s.pst with cell := (measureFan pulses cellOk s).pst.cell }
    tmx := { s.tmx with inbox := (measureFan pulses cellOk s).tmx.inbox }
    cnu := (measureFan pulses cellOk s).cnu } := by
  rw [measureFan_afm, measureFan_cell, measureFan_eq]
  have hcnu := emitAll_of_forCnu (fanLatches_forCnu pulses cellOk s) (fanRecorded pulses cellOk s)
  generalize emitAll (fanLatches pulses cellOk s) (fanRecorded pulses cellOk s) = u at hcnu
  have hkeq := emitAll_keq_of_events (fanEvents_isEvent pulses cellOk s) u
  conv_lhs => rw [emitAll_eq, hkeq]
  rw [hcnu]
  rfl

theorem measureFan_live (c : Cond) :
    (measureFan pulses cellOk s).live c = causeAfter c (fanLatches pulses cellOk s) (s.live c) := by
  have hevents := fanEvents_isEvent pulses cellOk s
  rw [measureFan_eq, emitAll_live_cond, emitAll_live_cond,
    causeAfter_of_untouched (fun h => by cases hevents _ h) (fun h => by cases hevents _ h)]
  rfl

theorem measureFan_latched {c : Cond} (hevents : c ≠ .eventsLost) (hkeys : c ≠ .keysLost) :
    (measureFan pulses cellOk s).latched c =
      (s.latched c || decide (Emit.raise c ∈ fanLatches pulses cellOk s)) := by
  rw [measureFan_eq, emitAll_latched_of_plain
    (fun e he => Emit.isPlain_of_isEvent (fanEvents_isEvent pulses cellOk s e he)) _ hevents,
    emitAll_latched_cond _ _ hevents hkeys]
  rfl

/-- The event of a change of stall state is posted before any other of the measurement (R39, R44). -/
theorem measureFan_posted {e : Event} (h : (stallEmits s.afm (stallJudged pulses s)).2 = [.post e]) :
    Posted e s (measureFan pulses cellOk s) := by
  rw [measureFan_eq, fanEvents, h]
  have hcnu := emitAll_of_forCnu (fanLatches_forCnu pulses cellOk s) (fanRecorded pulses cellOk s)
  generalize emitAll (fanLatches pulses cellOk s) (fanRecorded pulses cellOk s) = u at hcnu ⊢
  have hinbox : u.tmx.inbox = s.tmx.inbox := by rw [hcnu]; rfl
  have hposted := posted_emitAll_cons e ((clogEmits (stallJudged pulses s) (clogJudged pulses s)).2 ++
    (stepLearn cellOk (clogJudged pulses s)).2.2.2) u
  unfold Posted at hposted ⊢
  rwa [hinbox] at hposted

/-- Of AFM's record the judgement of the clog and the learn leave what R43 and R44 concern. -/
theorem measureFan_stall :
    (measureFan pulses cellOk s).afm.running = s.afm.running ∧
    (measureFan pulses cellOk s).afm.duty = s.afm.duty ∧
    (measureFan pulses cellOk s).afm.reason = s.afm.reason ∧
    (measureFan pulses cellOk s).afm.speed = speedOf pulses ∧
    (measureFan pulses cellOk s).afm.stalled = (stallJudged pulses s).stalled ∧
    (measureFan pulses cellOk s).afm.slowRun = (stallJudged pulses s).slowRun ∧
    (measureFan pulses cellOk s).afm.fastRun = (stallJudged pulses s).fastRun := by
  rw [measureFan_afm, stepLearn_others, clogJudged, stepClog_others]
  refine ⟨?_, ?_, ?_, ?_, rfl, rfl, rfl⟩
  all_goals
    dsimp only
    rw [stallJudged, stepStall_others]

/-- FAN_STALL's live cause follows the stall state (R44). -/
theorem measureFan_live_fanStall : (measureFan pulses cellOk s).live .fanStall =
    if s.afm.stalled ≠ (stallJudged pulses s).stalled then (stallJudged pulses s).stalled
    else s.live .fanStall := by
  simp [measureFan_live, fanLatches, causeAfter_append, stallEmits_cause, clogEmits_cause, stepLearn_cause]

theorem measureFan_latched_fanStall : (measureFan pulses cellOk s).latched .fanStall =
    (s.latched .fanStall || ((stallJudged pulses s).stalled && !s.afm.stalled)) := by
  rw [measureFan_latched _ _ _ (by decide) (by decide)]
  simp [fanLatches, raise_mem_stallEmits, raise_mem_clogEmits, raise_mem_stepLearn]
  cases s.afm.stalled <;> cases (stallJudged pulses s).stalled <;> rfl

end

end Sys2Proof.Machine

namespace Sys2Proof.Proofs
open Sys2Proof.Machine Sys2Proof.Safety

/-- Settles O48: the record by the case of R44 that applies, what is told by the change of stall state. -/
theorem fanMeasurementJudgesStall : Obligations.FanMeasurementJudgesStall := by
  intro pulses cellOk s hhold
  refine ⟨measureFan pulses cellOk s, by simp [exec, execFanMeasurement, hhold],
    measureFan_frame pulses cellOk s, ?_⟩
  obtain ⟨hrunning, hduty, hreason, hspeed, hstalled, hslow, hfast⟩ := measureFan_stall pulses cellOk s
  have hlive := measureFan_live_fanStall pulses cellOk s
  have hlatched := measureFan_latched_fanStall pulses cellOk s
  have hposted := fun e => measureFan_posted (e := e) pulses cellOk s
  generalize measureFan pulses cellOk s = t at *
  refine ⟨hrunning, hduty, hreason, hspeed, ?_⟩
  dsimp only
  rw [hspeed, hstalled, hslow, hfast]
  refine ⟨fun hd => ?_, fun hd hs hv => ?_, fun hd hs hv => ?_, fun hd hs hv => ?_, fun hd hs hv => ?_,
    ?_, hlatched⟩
  · have hstep : stallJudged pulses s = _ := stepStall_at_rest hd
    rw [hstep]
    exact ⟨rfl, rfl, rfl⟩
  · have hstep : stallJudged pulses s = _ := stepStall_of_turning hd hs hv
    rw [hstep]
    exact ⟨hs, rfl⟩
  · have hstep : stallJudged pulses s = _ := stepStall_of_slow hd hs hv
    split
    · rename_i hrun
      rw [hstep, if_pos hrun]
      exact ⟨hs, rfl⟩
    · rename_i hrun
      rw [if_neg hrun] at hstep
      have hevent := hposted ⟨.airflow, 0, speedOf pulses⟩
      rw [hstep] at hevent ⊢
      exact ⟨rfl, rfl, rfl, hevent (by simp [stallEmits, hs, event])⟩
  · have hstep : stallJudged pulses s = _ := stepStall_of_stuck hd hs hv
    rw [hstep]
    exact ⟨hs, rfl⟩
  · have hstep : stallJudged pulses s = _ := stepStall_of_fast hd hs hv
    split
    · rename_i hrun
      rw [hstep, if_pos hrun]
      exact ⟨hs, rfl⟩
    · rename_i hrun
      rw [if_neg hrun] at hstep
      have hevent := hposted ⟨.airflow, 2, speedOf pulses⟩
      rw [hstep] at hevent ⊢
      exact ⟨rfl, rfl, rfl, hevent (by simp [stallEmits, hs, event])⟩
  · rw [hlive, ite_not]

end Sys2Proof.Proofs

namespace Sys2Proof.Machine
open Sys2Proof.Safety

/-! ### The clog and the learn of a measurement (R45 to R48) -/

section
variable (pulses : Nat) (cellOk : Bool) (s : State)

/-- The measurement finds the filter clogged, by AFM's record before it and the speed of the interval (R45). -/
def ClogFound : Prop := Afm.Clogs s.settings.fan { s.afm with speed := speedOf pulses }

theorem stallJudged_eq : stallJudged pulses s = { s.afm with
    speed := speedOf pulses, stalled := (stallJudged pulses s).stalled
    slowRun := (stallJudged pulses s).slowRun, fastRun := (stallJudged pulses s).fastRun } :=
  stepStall_others _ _

theorem stallJudged_clogs_iff : (stallJudged pulses s).Clogs s.settings.fan ↔ ClogFound pulses s := by
  rw [stallJudged_eq]
  rfl

variable {pulses s} in
theorem clogJudged_of_found (h : ClogFound pulses s) :
    clogJudged pulses s = { stallJudged pulses s with fullRun := s.afm.fullAfter, clogged := true } := by
  rw [clogJudged, stepClog_of_clogs ((stallJudged_clogs_iff pulses s).2 h), stallJudged_eq]
  rfl

variable {pulses s} in
theorem clogJudged_of_clear (h : ¬ ClogFound pulses s) :
    clogJudged pulses s = { stallJudged pulses s with fullRun := s.afm.fullAfter } := by
  rw [clogJudged, stepClog_of_clear fun hc => h ((stallJudged_clogs_iff pulses s).1 hc), stallJudged_eq]
  rfl

/-- What a learn reading finds: but for the stall, the clog and the full run, AFM's record before. -/
theorem clogJudged_others :
    (clogJudged pulses s).learn = s.afm.learn ∧ (clogJudged pulses s).readings = s.afm.readings ∧
    (clogJudged pulses s).sum = s.afm.sum ∧ (clogJudged pulses s).reference = s.afm.reference ∧
    (clogJudged pulses s).fullRun = s.afm.fullAfter ∧ (clogJudged pulses s).speed = speedOf pulses ∧
    (clogJudged pulses s).stalled = (stallJudged pulses s).stalled := by
  by_cases h : ClogFound pulses s
  · rw [clogJudged_of_found h, stallJudged_eq]
    exact ⟨rfl, rfl, rfl, rfl, rfl, rfl, rfl⟩
  · rw [clogJudged_of_clear h, stallJudged_eq]
    exact ⟨rfl, rfl, rfl, rfl, rfl, rfl, rfl⟩

/-- The filter is clogged once it has been found so, and otherwise as it was (R45). -/
theorem clogJudged_clogged : (ClogFound pulses s → (clogJudged pulses s).clogged = true) ∧
    (¬ ClogFound pulses s → (clogJudged pulses s).clogged = s.afm.clogged) := by
  refine ⟨fun h => by rw [clogJudged_of_found h], fun h => ?_⟩
  rw [clogJudged_of_clear h, stallJudged_eq]

theorem clog_begins_iff :
    ((stallJudged pulses s).clogged = false ∧ (clogJudged pulses s).clogged = true) ↔ ClogFound pulses s := by
  by_cases h : ClogFound pulses s
  · rw [clogJudged_of_found h, stallJudged_eq]
    exact ⟨fun _ => h, fun _ => ⟨h.1, rfl⟩⟩
  · rw [clogJudged_of_clear h]
    refine ⟨fun ⟨hclear, hclogged⟩ => ?_, fun h' => absurd h' h⟩
    rw [hclear] at hclogged
    cases hclogged

/-- FILTER_CLOG's live cause begins with the clog and ends with the learn that completes (R45, R47). -/
theorem measureFan_live_filterClog : (measureFan pulses cellOk s).live .filterClog =
    if (clogJudged pulses s).Completes ∧ (clogJudged pulses s).clogged = true then false
    else if (stallJudged pulses s).clogged = false ∧ (clogJudged pulses s).clogged = true then true
    else s.live .filterClog := by
  simp only [measureFan_live, fanLatches, causeAfter_append, stepLearn_cause, clogEmits_cause, stallEmits_cause,
    reduceCtorEq, true_and, false_and, if_false]

theorem measureFan_latched_filterClog (h : ClogFound pulses s) :
    (measureFan pulses cellOk s).latched .filterClog = true := by
  rw [measureFan_latched _ _ _ (by decide) (by decide)]
  simp [fanLatches, raise_mem_clogEmits, clog_begins_iff, h]

theorem measureFan_latched_storeFailed (h : (clogJudged pulses s).Completes) (hcell : cellOk = false) :
    (measureFan pulses cellOk s).latched .storeFailed = true := by
  rw [measureFan_latched _ _ _ (by decide) (by decide)]
  have hraised : Emit.raise .storeFailed ∈ fanLatches pulses cellOk s :=
    List.mem_append_right _ ((raise_mem_stepLearn _ _ _).2 ⟨rfl, h, hcell⟩)
  simp [hraised]

end

end Sys2Proof.Machine

namespace Sys2Proof.Proofs
open Sys2Proof.Machine Sys2Proof.Safety

/-- Settles O49: the learn takes its reading of the record in which stall and clog have been judged. -/
theorem fanMeasurementLearnsAndJudgesClog : Obligations.FanMeasurementLearnsAndJudgesClog := by
  intro pulses cellOk s hhold
  refine ⟨measureFan pulses cellOk s, by simp [exec, execFanMeasurement, hhold], ?_⟩
  obtain ⟨-, -, -, hspeed, hstalled, -, -⟩ := measureFan_stall pulses cellOk s
  have hafm := measureFan_afm pulses cellOk s
  have hcell := measureFan_cell pulses cellOk s
  have hlive := measureFan_live_filterClog pulses cellOk s
  have hlatched := measureFan_latched_filterClog pulses cellOk s
  have hfailed := measureFan_latched_storeFailed pulses cellOk s
  have hfound := clog_begins_iff pulses s
  have hclogged := clogJudged_clogged pulses s
  obtain ⟨hlearn, hreadings, hsum, href, hfull, hspeedJ, hstalledJ⟩ := clogJudged_others pulses s
  rw [← hspeedJ] at hspeed
  rw [← hstalledJ] at hstalled
  generalize measureFan pulses cellOk s = t at *
  generalize clogJudged pulses s = J at *
  intro a b full clogs completes
  have hclogs : clogs ↔ ClogFound pulses s := by
    change _ ∧ _ ∧ _ ∧ (∃ r, _ ∧ _ < t.afm.speed) ↔ _
    rw [hspeed, hspeedJ]
    rfl
  have hcompletes : completes ↔ J.Completes := by
    change s.afm.learn = _ ∧ t.afm.stalled = _ ∧ 30 ≤ s.afm.readings + 1 ↔ _
    rw [hstalled, ← hlearn, ← hreadings]
  rw [hclogs, hcompletes]
  have hidle : ClogFound pulses s → ¬ J.Completes := by
    rintro ⟨-, hidle, -⟩ ⟨hmeasuring, -⟩
    rw [hlearn] at hmeasuring
    exact nomatch hidle.symm.trans hmeasuring
  rw [hspeed, hstalled]
  refine ⟨fun hnot => ?_, fun hc => ?_, fun hc hnot => ?_, fun hl => ?_, fun hl hs => ?_, fun hl hs hr => ?_,
    fun hdone => ?_⟩
  · obtain ⟨hrec, hnone, -, -⟩ := stepLearn_of_incomplete cellOk hnot
    have hb := hafm.trans hrec
    refine ⟨(congrArg Afm.fullRun hb).trans hfull,
      (congrArg Afm.reference hb).trans href, ?_⟩
    rw [hcell, hnone, Option.none_or, ite_self]
  · have hb := hafm.trans (stepLearn_of_incomplete cellOk (hidle hc)).1
    refine ⟨(congrArg Afm.clogged hb).trans (hclogged.1 hc), hlatched hc, ?_⟩
    rw [hlive, if_neg fun h => hidle hc h.1, if_pos (hfound.2 hc)]
  · have hb := hafm.trans (stepLearn_of_incomplete cellOk hnot).1
    refine ⟨(congrArg Afm.clogged hb).trans (hclogged.2 hc), ?_⟩
    rw [hlive, if_neg fun h => hnot h.1, if_neg fun h => hc (hfound.1 h)]
  · rw [stepLearn_of_not_measuring cellOk (hlearn ▸ hl)] at hafm
    exact ⟨(congrArg Afm.learn hafm).trans hlearn, (congrArg Afm.readings hafm).trans hreadings,
      (congrArg Afm.sum hafm).trans hsum⟩
  · rw [stepLearn_of_stall cellOk (hlearn.trans hl) hs] at hafm
    exact congrArg Afm.learn hafm
  · rw [stepLearn_of_reading cellOk (hlearn.trans hl) hs (hreadings ▸ hr)] at hafm
    rw [← hreadings, ← hsum]
    exact ⟨(congrArg Afm.learn hafm).trans (hlearn.trans hl), congrArg Afm.readings hafm, congrArg Afm.sum hafm⟩
  · have hstep := stepLearn_of_completes cellOk hdone
    rw [hstep] at hafm hcell
    rw [← hsum]
    refine ⟨congrArg Afm.learn hafm, congrArg Afm.clogged hafm, congrArg Afm.fullRun hafm,
      congrArg Afm.reference hafm, hcell, fun ha => ?_, hfailed hdone⟩
    have hJ : J.clogged = true := (hclogged.2 fun h => hidle h hdone).trans ha
    rw [hlive, if_pos ⟨hdone, hJ⟩]

end Sys2Proof.Proofs

namespace Sys2Proof.Machine
open Sys2Proof.Safety

/-! ### What an entry makes of WEU, CPT and the live causes (R53, R57, R64, R79, R110) -/

/-- No entry moves the ladder position or touches the record list (R79). -/
theorem weuOnEntry_records (new old : HostState) (c : WatchdogSettings) (w : Weu) :
    (weuOnEntry new old c w).step = w.step ∧ (weuOnEntry new old c w).attempts = w.attempts ∧
    (weuOnEntry new old c w).records = w.records ∧ (weuOnEntry new old c w).reportDue = w.reportDue := by
  cases new with
  | stopping => by_cases h : old = .running <;> simp [weuOnEntry, h]
  | _ => exact ⟨rfl, rfl, rfl, rfl⟩

/-- WEU after an entry into any state but RUNNING, which alone reports the restart (R79, R96). -/
theorem enterState_weu {new : HostState} (h : new ≠ .running) (stage : Stage) (timer : Option Nat) (s : State) :
    (enterState new stage timer s).weu = weuOnEntry new s.hps.state s.settings.watchdog s.weu := by
  have hleave (old : HostState) (v : State) : (leaveCauses old new v).weu = v.weu ∧
      (leaveCauses old new v).settings = v.settings := by
    unfold leaveCauses
    dsimp only
    split <;> split <;> exact ⟨rfl, rfl⟩
  unfold enterState reportEntry
  dsimp only
  simp only [if_neg h, State.setCnu_weu, State.setKeq_weu, State.setCpt_weu, State.setWeu_weu, post_weu,
    post_settings, hleave]
  split <;> rfl

theorem enterState_ladder {new : HostState} (h : new ≠ .running) (stage : Stage) (timer : Option Nat) (s : State) :
    (enterState new stage timer s).weu.step = s.weu.step ∧
    (enterState new stage timer s).weu.attempts = s.weu.attempts ∧
    (enterState new stage timer s).weu.records = s.weu.records ∧
    (enterState new stage timer s).weu.reportDue = s.weu.reportDue := by
  rw [enterState_weu h]
  exact weuOnEntry_records _ _ _ _

/-- CPT takes note of the state entered, and keeps its trace (R110). -/
theorem enterState_cpt (new : HostState) (stage : Stage) (timer : Option Nat) (s : State) :
    (enterState new stage timer s).cpt = { s.cpt with seen := new } := by
  have hreport (v : State) : (restartReport v).cpt = v.cpt := by
    unfold restartReport
    split
    · dsimp only; split
      · rw [notify_cpt]; rfl
      · rfl
    · rfl
  have hleave (old : HostState) (v : State) : (leaveCauses old new v).cpt = v.cpt := by
    unfold leaveCauses
    dsimp only
    split <;> split <;> rfl
  have hentry (old : HostState) (v : State) : (reportEntry new old v).cpt = { v.cpt with seen := new } := by
    unfold reportEntry
    dsimp only
    split
    · rw [State.setCnu_cpt, State.setKeq_cpt, State.setCpt_cpt, hreport]
      rfl
    · rfl
  unfold enterState
  dsimp only
  rw [hentry, post_cpt, hleave]
  split <;> rfl

/-- LOCKOUT's live cause ends when LOCKED_OUT is left, and no entry begins it (R64). -/
theorem enterState_live_lockout (new : HostState) (stage : Stage) (timer : Option Nat) (s : State) :
    (enterState new stage timer s).live .lockout =
      (s.live .lockout && !decide (s.hps.state = .lockedOut ∧ new ≠ .lockedOut)) := by
  have hreport (v : State) : (restartReport v).cnu.live = v.cnu.live := by
    unfold restartReport
    split
    · dsimp only; split
      · exact notify_live _ _
      · rfl
    · rfl
  have hentry (old : HostState) (v : State) : (reportEntry new old v).cnu.live = v.cnu.live := by
    unfold reportEntry
    dsimp only
    simp only [State.setCnu_cnu, apply_ite Cnu.live, ite_self, State.setKeq_cnu, State.setCpt_cnu]
    split
    · exact hreport _
    · rfl
  have hleave (old : HostState) (v : State) : (leaveCauses old new v).live .lockout =
      (v.live .lockout && !decide (old = .lockedOut ∧ new ≠ .lockedOut)) := by
    have hwarm : (if old = .qualifying ∧ new ≠ .qualifying then endCause .warmTimeout v else v).live .lockout =
        v.live .lockout := by
      split
      · simp [endCause_live]
      · rfl
    unfold leaveCauses
    dsimp only
    split
    · rename_i hleft
      rw [endCause_live, hwarm, decide_eq_true hleft]
      simp
    · rename_i hstays
      rw [hwarm, decide_eq_false hstays]
      simp
  unfold enterState
  dsimp only
  rw [State.live, hentry]
  change (post _ _).live .lockout = _
  rw [post_live_cond, hleave]
  split <;> rfl

/-! ### Entry to QUALIFYING of a host without supply (R54, R56) -/

theorem startWarmUp_state (s : State) : (startWarmUp s).hps.state = s.hps.state := by
  rw [startWarmUp_hps]
  split <;> rfl

/-- HPS in QUALIFYING, before admission is tested. -/
def waitingHps (s : State) : Hps :=
  { (startWarmUp s).hps with
    state := .qualifying, prev := s.hps.state, stage := .noStage, stageTimer := none, pendingOn := false }

theorem testAdmission_hps (s : State) : (testAdmission s).hps = s.hps ∨
    (s.hps.state = .qualifying ∧ (testAdmission s).hps = { s.hps with
      state := .powering, prev := .qualifying, stage := .pending, stageTimer := none, pendingOn := true }) := by
  unfold testAdmission
  split
  · rename_i h
    refine .inr ⟨h.1, ?_⟩
    rw [admitHost, enterState_hps, post_hps, h.1]
    rfl
  · exact .inl rfl

/-- HPS waits in QUALIFYING, or has gone on to POWERING. -/
theorem enterQualifying_hps (s : State) : (enterQualifying s).hps = waitingHps s ∨
    (enterQualifying s).hps = { waitingHps s with
      state := .powering, prev := .qualifying, stage := .pending, stageTimer := none, pendingOn := true } := by
  have hwaiting : (enterState .qualifying .noStage none (startWarmUp s)).hps = waitingHps s := by
    rw [enterState_hps, startWarmUp_state]
    rfl
  unfold enterQualifying
  dsimp only
  generalize enterState .qualifying .noStage none (startWarmUp s) = e at hwaiting
  have hraised : (if e.hps.warmTimeout = true then raise .warmTimeout e else e).hps = waitingHps s := by
    split
    · rw [raise_hps, hwaiting]
    · exact hwaiting
  rw [← hraised]
  exact (testAdmission_hps _).imp_right And.right

theorem enterQualifying_ladder (s : State) : (enterQualifying s).weu.step = s.weu.step ∧
    (enterQualifying s).weu.attempts = s.weu.attempts := by
  have htest (v : State) : (testAdmission v).weu.step = v.weu.step ∧
      (testAdmission v).weu.attempts = v.weu.attempts := by
    unfold testAdmission
    split
    · obtain ⟨hstep, hattempts, -, -⟩ := enterState_ladder (new := .powering) (by decide) .pending none
        (post (event .admission 0 v.hps.qualClock) v)
      rw [post_weu] at hstep hattempts
      exact ⟨hstep, hattempts⟩
    · exact ⟨rfl, rfl⟩
  have hstart : (startWarmUp s).weu = s.weu := by
    unfold startWarmUp
    split <;> rfl
  obtain ⟨hstep, hattempts, -, -⟩ :=
    enterState_ladder (new := .qualifying) (by decide) .noStage none (startWarmUp s)
  rw [hstart] at hstep hattempts
  unfold enterQualifying
  dsimp only
  rw [(htest _).1, (htest _).2]
  split
  · rw [raise_weu]
    exact ⟨hstep, hattempts⟩
  · exact ⟨hstep, hattempts⟩

/-- A host that leaves LOCKED_OUT for QUALIFYING has LOCKOUT's live cause ended (R64). -/
theorem enterQualifying_live_lockout {s : State} (h : s.hps.state = .lockedOut) :
    (enterQualifying s).live .lockout = false := by
  have htest (v : State) (hv : v.live .lockout = false) : (testAdmission v).live .lockout = false := by
    unfold testAdmission
    split
    · rw [admitHost, enterState_live_lockout, post_live_cond, hv]
      rfl
    · exact hv
  have hleft : (enterState .qualifying .noStage none (startWarmUp s)).live .lockout = false := by
    rw [enterState_live_lockout, startWarmUp_state, h]
    simp
  unfold enterQualifying
  refine htest _ ?_
  split
  · rw [raise_live_cond, hleft]
    rfl
  · exact hleft

theorem enterQualifying_requalified {s : State}
    (h : s.hps.state = .off ∨ s.hps.state = .lockedOut ∨ s.hps.state = .suspended) :
    Requalified s (enterQualifying s) ∧ (enterQualifying s).lnk = s.lnk ∧
      (enterQualifying s).hps.retryTimer = s.hps.retryTimer := by
  have hpowering : s.hps.state ≠ .powering := by rcases h with h | h | h <;> rw [h] <;> decide
  have hpins : s.hostRstN = true ∧ s.hostPwrEn = false := by
    unfold State.hostRstN State.hostPwrEn
    rcases h with h | h | h <;> rw [h] <;> exact ⟨rfl, rfl⟩
  have hq := enterQualifying_qualified hpins.1
  have hlink := (enterQualifying_reach s).link
  have hwaiting : waitingHps s = { s.hps with
      qualClock := 0, qualMs := 0, warmTimeout := false, state := .qualifying, prev := s.hps.state
      stage := .noStage, stageTimer := none, pendingOn := false } := by
    rw [waitingHps, startWarmUp_hps, if_neg hpowering]
  have hhps := enterQualifying_hps s
  rw [hwaiting] at hhps
  refine ⟨⟨?_, ?_, fun hadmitted => ?_, fun hnot => ?_⟩, ?_, ?_⟩
  · rcases hhps with hhps | hhps <;> rw [hhps]
  · rcases hhps with hhps | hhps <;> rw [hhps]
  · rcases hhps with hhps | hhps
    · have hstate := (hq.pending hadmitted).1
      rw [hhps] at hstate
      cases hstate
    · rw [hhps]
      exact ⟨rfl, rfl, rfl, rfl⟩
  · rcases hhps with hhps | hhps
    · rw [hhps]
      exact ⟨rfl, rfl, rfl⟩
    · have hstate := (hq.waiting hnot).1
      rw [hhps] at hstate
      cases hstate
  · rw [hlink, hq.held, hpins.2]
    rfl
  · rcases hhps with hhps | hhps <;> rw [hhps]

/-! ### A TRIGGER stop (R66) -/

theorem beginStop_hps (cause : StopCause) (zone : Option Zone) (d : Destination) (s : State) :
    (beginStop cause zone d s).hps = { s.hps with
      state := .stopping, prev := s.hps.state, stage := .grace
      stageTimer := some (s.settings.hostPower.stopGrace * 1000), pendingOn := false
      stopCause := cause, stopZone := zone, stopRequest := none, destination := d } := by
  rw [beginStop, notify_hps, enterState_hps]
  rfl

/-- A stop leaves the host's reset and supply alone, so no request is discarded (R66, R186). -/
theorem beginStop_lnk (cause : StopCause) (zone : Option Zone) (d : Destination) (s : State) :
    (beginStop cause zone d s).lnk = s.lnk := by
  rw [beginStop, notify_lnk, enterState_lnk, if_neg (by simp [resetAsserted, powerEnabled])]
  rfl

end Sys2Proof.Machine

namespace Sys2Proof.Machine
open Sys2Proof.Safety

/-! ### Escalation (R61 to R64, R86 to R89, R94) -/

/-- An order moves no ladder position, and keeps the records and the trace (R61, R110). -/
structure OrderKept (s t : State) : Prop where
  step : t.weu.step = s.weu.step
  attempts : t.weu.attempts = s.weu.attempts
  records : t.weu.records = s.weu.records
  reportDue : t.weu.reportDue = s.weu.reportDue
  ring : t.cpt.ring = s.cpt.ring
  frozen : t.cpt.frozen = s.cpt.frozen

theorem enterState_orderKept {new : HostState} (h : new ≠ .running) (stage : Stage) (timer : Option Nat)
    (s : State) : OrderKept s (enterState new stage timer s) := by
  obtain ⟨hstep, hattempts, hrecords, hreport⟩ := enterState_ladder h stage timer s
  exact ⟨hstep, hattempts, hrecords, hreport, by rw [enterState_cpt], by rw [enterState_cpt]⟩

theorem OrderKept.trans {s t u : State} (h : OrderKept s t) (k : OrderKept t u) : OrderKept s u :=
  ⟨k.step.trans h.step, k.attempts.trans h.attempts, k.records.trans h.records,
    k.reportDue.trans h.reportDue, k.ring.trans h.ring, k.frozen.trans h.frozen⟩

theorem OrderKept.setHps (s : State) (x : Hps) : OrderKept s (s.setHps x) := ⟨rfl, rfl, rfl, rfl, rfl, rfl⟩

theorem OrderKept.raise (c : Cond) (s : State) : OrderKept s (raise c s) := by
  constructor <;> simp only [raise_weu, raise_cpt]

theorem perform_orderKept (o : Order) (s : State) : OrderKept s (perform o s) := by
  unfold perform
  have hrequest := OrderKept.setHps s { s.hps with stopRequest := none }
  generalize s.setHps { s.hps with stopRequest := none } = u at hrequest
  refine hrequest.trans ?_
  cases o with
  | reset => exact enterState_orderKept (by decide) _ _ _
  | cycle off =>
    have hdrain := (OrderKept.setHps u { u.hps with offTime := off }).trans
      (enterState_orderKept (new := .cycling) (by decide) .drain (some Config.drainMs) _)
    dsimp only
    split
    · exact hdrain
    · exact hdrain.trans (OrderKept.setHps _ _)
  | lockout =>
    exact ((OrderKept.setHps _ _).trans (enterState_orderKept (by decide) _ _ _)).trans (OrderKept.raise _ _)

theorem perform_performed (o : Order) (s : State) : Performed o s (perform o s) := by
  cases o with
  | reset => simp [Performed, perform]
  | cycle off =>
    have hgood (x : Hps) : (enterState .cycling .drain (some Config.drainMs) (s.setHps x)).powerGood = s.powerGood :=
      (enterState_reach _ _ _ _).kept.powerGood
    simp only [Performed, perform, State.setHps_setHps, hgood]
    split <;> simp [toOffTime, Config.drainMs]
  | lockout =>
    refine ⟨?_, ?_, ?_, raise_latched_self _ _, ?_, ?_⟩
    · simp [perform]
    · simp [perform]
    · simp [perform]
    · simp [perform, raise_live_cond, Cond.isLive]
    · simp only [perform, raise_hps, enterState_hps]
      rfl

end Sys2Proof.Machine

namespace Sys2Proof.Machine
open Sys2Proof.Safety

/-- Every order asserts the host's reset; where it was not asserted, the HELD requests are discarded (R61, R186). -/
theorem perform_pins (o : Order) {s : State} (h : s.hostRstN = false) :
    (perform o s).hostRstN = true ∧ (perform o s).lnk = { s.lnk with held := [] } := by
  have hentry {new : HostState} (hnew : resetAsserted new = true) (stage : Stage) (timer : Option Nat) {u : State}
      (hu : u.hostRstN = false) (hlnk : u.lnk = s.lnk) : (enterState new stage timer u).hostRstN = true ∧
        (enterState new stage timer u).lnk = { s.lnk with held := [] } := by
    rw [State.hostRstN, enterState_hps, enterState_lnk, hu, hnew, hlnk]
    exact ⟨rfl, rfl⟩
  unfold perform
  cases o with
  | reset => exact hentry rfl _ _ h rfl
  | cycle off =>
    have hdrain := hentry (new := .cycling) rfl .drain (some Config.drainMs)
      (u := s.setHps { s.hps with stopRequest := none, offTime := off }) h rfl
    dsimp only
    split <;> exact hdrain
  | lockout =>
    dsimp only
    rw [State.hostRstN, raise_hps, raise_lnk]
    exact hentry rfl _ _ h rfl

theorem appendRecord_getLast? (r : RestartRecord) (rs : List RestartRecord) :
    (appendRecord r rs).getLast? = some r := by
  unfold appendRecord
  dsimp only
  split
  · exact List.getLast?_concat
  · rename_i hlong
    rw [List.getLast?_drop, if_neg]
    · exact List.getLast?_concat
    · rw [Config.recordSize] at hlong
      omega

/-- A failure has been recorded with the action of an order and the order performed: the record is the newest and
shows the trace, which is empty again (R88, R94, R96, R109). -/
structure Ordered (reason : Reason) (unit : Option TrigUnit) (o : Order) (outcome : RecordOutcome)
    (s t : State) : Prop where
  step : t.weu.step = s.weu.step
  attempts : t.weu.attempts = s.weu.attempts
  ring : t.cpt.ring = []
  recording : t.cpt.frozen = false
  reportDue : t.weu.reportDue = true
  performed : Performed o s t
  newest : NewestRecord reason unit o.action outcome s t
  pins : s.hostRstN = false → t.hostRstN = true ∧ t.lnk = { s.lnk with held := [] }

theorem perform_writeRecord_ordered (reason : Reason) (unit : Option TrigUnit) (o : Order) (outcome : RecordOutcome)
    (s : State) : Ordered reason unit o outcome s
      (perform o (writeRecord reason unit o.action o.offTime? outcome s)) := by
  have hkept := perform_orderKept o (writeRecord reason unit o.action o.offTime? outcome s)
  have hperformed : Performed o s _ := perform_performed o (writeRecord reason unit o.action o.offTime? outcome s)
  have hpins (h : s.hostRstN = false) := perform_pins o (s := writeRecord reason unit o.action o.offTime? outcome s) h
  generalize perform o (writeRecord reason unit o.action o.offTime? outcome s) = t at hkept hperformed hpins
  refine ⟨hkept.step, hkept.attempts, hkept.ring, hkept.frozen, hkept.reportDue, hperformed, ?_, hpins⟩
  refine ⟨_, (congrArg List.getLast? hkept.records).trans (appendRecord_getLast? _ _), rfl, rfl, hkept.step.symm,
    hkept.attempts.symm, rfl, rfl, ?_, rfl, rfl, rfl, rfl, rfl⟩
  obtain ⟨-, -, hstate⟩ := hperformed
  cases o with
  | reset => rfl
  | cycle off =>
    obtain ⟨-, hoff, -⟩ := hstate
    rw [hoff]
    rfl
  | lockout => rfl

theorem orderAt_eq (st : LadderStep) (reason : Reason) : orderAt st (reason == .powerFail) =
    if reason = .powerFail ∨ st.action = .cycle then .cycle st.offTime else .reset := by
  unfold orderAt
  by_cases hfail : reason = .powerFail
  · simp [hfail]
  · cases haction : st.action <;> simp [hfail]

/-- The failure is placed at a step of the ladder, recorded and its order performed (R88). -/
theorem escalate_of_advance {reason : Reason} {unit : Option TrigUnit} {s : State} {step attempts : Nat}
    (h : advance s.settings.ladder s.weu.step s.weu.attempts = some (step, attempts)) :
    Ordered reason unit (orderAt (s.settings.ladder.step step) (reason == .powerFail)) .pending
      (s.setWeu { (failPending s).weu with step := step, attempts := attempts }) (escalate reason unit s) := by
  have hfail : advance (failPending s).settings.ladder (failPending s).weu.step (failPending s).weu.attempts =
    some (step, attempts) := h
  unfold escalate
  dsimp only
  rw [hfail]
  exact perform_writeRecord_ordered _ _ _ _ _

/-- The ladder has run out: the host is locked out (R88). -/
theorem escalate_of_exhausted {reason : Reason} {unit : Option TrigUnit} {s : State}
    (h : advance s.settings.ladder s.weu.step s.weu.attempts = none) :
    Ordered reason unit .lockout .lockout (s.setWeu (failPending s).weu) (escalate reason unit s) := by
  have hfail : advance (failPending s).settings.ladder (failPending s).weu.step (failPending s).weu.attempts =
    none := h
  unfold escalate
  dsimp only
  rw [hfail]
  exact perform_writeRecord_ordered _ _ .lockout _ _

theorem Ordered.reached {reason : Reason} {unit : Option TrigUnit} {st : LadderStep} {s t : State}
    (h : Ordered reason unit (orderAt st (reason == .powerFail)) .pending s t) :
    if reason = .powerFail ∨ st.action = .cycle then
      Performed (.cycle st.offTime) s t ∧ NewestRecord reason unit .cycle .pending s t
    else Performed .reset s t ∧ NewestRecord reason unit .reset .pending s t := by
  rw [orderAt_eq] at h
  split
  · rename_i hcycle
    rw [if_pos hcycle] at h
    exact ⟨h.performed, h.newest⟩
  · rename_i hreset
    rw [if_neg hreset] at h
    exact ⟨h.performed, h.newest⟩

/-- Every escalation does what R88 and R89 say; from a state with the reset released it discards the HELD requests. -/
theorem escalate_escalated (reason : Reason) (unit : Option TrigUnit) (s : State) :
    Escalated reason unit s (escalate reason unit s) ∧
    (s.hostRstN = false → (escalate reason unit s).hostRstN = true ∧
      (escalate reason unit s).lnk = { s.lnk with held := [] }) := by
  by_cases hroom : s.weu.attempts < (s.settings.ladder.step s.weu.step).attempts
  · have h := escalate_of_advance (reason := reason) (unit := unit) (if_pos hroom)
    exact ⟨⟨h.ring, h.recording, h.reportDue,
      (if_pos (α := Prop) hroom).mpr ⟨h.step, h.attempts, h.reached⟩⟩, h.pins⟩
  · by_cases hnext : s.weu.step + 1 < s.settings.ladder.stepCount
    · have h := escalate_of_advance (reason := reason) (unit := unit) ((if_neg hroom).trans (if_pos hnext))
      exact ⟨⟨h.ring, h.recording, h.reportDue,
        ((if_neg (α := Prop) hroom).trans (if_pos hnext)).mpr ⟨h.step, h.attempts, h.reached⟩⟩, h.pins⟩
    · have h := escalate_of_exhausted (reason := reason) (unit := unit) ((if_neg hroom).trans (if_neg hnext))
      exact ⟨⟨h.ring, h.recording, h.reportDue,
        ((if_neg (α := Prop) hroom).trans (if_neg hnext)).mpr
          ⟨h.step, h.attempts, h.performed, h.newest⟩⟩, h.pins⟩

end Sys2Proof.Machine

namespace Sys2Proof.Machine
open Sys2Proof.Safety

/-! ### The action of a firing unit (R161) -/

/-- FILTER_LEARN starts a learn as FILTER_SERVICED does (R46). -/
theorem handOver_filterLearn (u : TrigUnit) (e : Event) (s : State) :
    handOver .filterLearn u e s = s.setAfm s.afm.learnStarted := by
  unfold handOver Afm.learnStarted
  dsimp only
  split <;> rfl

/-- Every action but FILTER_LEARN stays within the reach of the host operations. -/
theorem handOver_reach {a : TrigAction} (h : a ≠ .filterLearn) (u : TrigUnit) (e : Event) (s : State) :
    HostReach s (handOver a u e s) := by
  cases a with
  | notify =>
    simp only [handOver]
    split
    · exact (HostReach.notify _ _).step (HostReach.raise _ s)
    · exact HostReach.raise _ s
  | freeze =>
    simp only [handOver, freezeTrace]
    split
    · exact HostReach.refl s
    · exact HostReach.setCpt _ _
  | restart => exact triggerRestart_reach u s
  | powerOn => exact triggerPowerOn_reach s
  | shutdown => exact triggerShutdown_reach s
  | signal => exact HostReach.setCnu _ _
  | filterLearn => exact absurd rfl h

/-- The action is none of the host's: RESTART, POWER_ON and SHUTDOWN alone act on HPS and WEU (R161). -/
theorem handOver_host {a : TrigAction} (hrestart : a ≠ .restart) (hpower : a ≠ .powerOn) (hstop : a ≠ .shutdown)
    (u : TrigUnit) (e : Event) (s : State) : (handOver a u e s).hps = s.hps ∧ (handOver a u e s).weu = s.weu ∧
      (handOver a u e s).lnk = s.lnk := by
  cases a with
  | notify =>
    simp only [handOver]
    split <;> simp
  | freeze =>
    simp only [handOver, freezeTrace]
    split <;> exact ⟨rfl, rfl, rfl⟩
  | signal => exact ⟨rfl, rfl, rfl⟩
  | filterLearn =>
    rw [handOver_filterLearn]
    exact ⟨rfl, rfl, rfl⟩
  | restart => exact absurd rfl hrestart
  | powerOn => exact absurd rfl hpower
  | shutdown => exact absurd rfl hstop

/-- NOTIFY latches the unit's condition (R161, R168). -/
theorem handOver_notify (u : TrigUnit) (e : Event) (s : State) :
    (handOver .notify u e s).latched (.triggerT u) = true ∧ (handOver .notify u e s).cpt = s.cpt := by
  simp only [handOver]
  split
  · exact ⟨by rw [notify_latched_cond]; exact raise_latched_self _ s, by simp⟩
  · exact ⟨raise_latched_self _ s, by simp⟩

theorem triggerRestart_of_up {u : TrigUnit} {s : State} (h : s.hps.state = .booting ∨ s.hps.state = .running) :
    triggerRestart u s = escalate .trigger (some u) s := by
  unfold triggerRestart
  rcases h with h | h <;> rw [h]

theorem triggerRestart_of_down {u : TrigUnit} {s : State}
    (h : ¬ (s.hps.state = .booting ∨ s.hps.state = .running)) : triggerRestart u s = s := by
  unfold triggerRestart
  split
  · exact absurd (.inl ‹_›) h
  · exact absurd (.inr ‹_›) h
  all_goals rfl

theorem triggerShutdown_of_up {s : State}
    (h : s.hps.state = .booting ∨ (s.hps.state = .running ∧ s.hps.stage = .noStage)) :
    triggerShutdown s = beginStop .trigger none .off s := by
  unfold triggerShutdown
  rcases h with h | ⟨h, hstage⟩ <;> rw [h]
  exact if_pos hstage

theorem triggerShutdown_of_down {s : State}
    (h : ¬ (s.hps.state = .booting ∨ (s.hps.state = .running ∧ s.hps.stage = .noStage))) :
    triggerShutdown s = s := by
  unfold triggerShutdown
  split
  · exact absurd (.inl ‹_›) h
  · exact if_neg fun hstage => h (.inr ⟨‹_›, hstage⟩)
  all_goals rfl

theorem triggerPowerOn_of_not_waiting {s : State} (h : ¬ (s.hps.state = .off ∨ s.hps.state = .lockedOut ∨
    (s.hps.state = .suspended ∧ s.hps.wakeOnTrigger = true))) : triggerPowerOn s = s := by
  unfold triggerPowerOn
  split
  · exact absurd (.inl ‹_›) h
  · exact absurd (.inr (.inl ‹_›)) h
  · exact if_neg fun hwake => h (.inr (.inr ⟨‹_›, hwake⟩))
  all_goals rfl

/-- What POWER_ON makes of a host that waits for it: the ladder begins anew, and the host enters QUALIFYING
(R64, R71, R72). -/
theorem triggerPowerOn_of_waiting {s : State} (h : s.hps.state = .off ∨ s.hps.state = .lockedOut ∨
      (s.hps.state = .suspended ∧ s.hps.wakeOnTrigger = true)) :
    ∃ x : Hps, x.state = s.hps.state ∧ (s.hps.state = .lockedOut → x.retryTimer = none) ∧
      triggerPowerOn s = enterQualifying ((s.setWeu { s.weu with step := 0, attempts := 0 }).setHps x) := by
  unfold triggerPowerOn
  rcases h with h | h | ⟨h, hwake⟩ <;> rw [h]
  · exact ⟨s.hps, h, (fun hl => nomatch hl), rfl⟩
  · exact ⟨{ s.hps with retryTimer := none, retryMs := 0 }, h, fun _ => rfl, rfl⟩
  · exact ⟨{ s.hps with
      wakeAt := none, wakeOnTrigger := false, preheat := false, stopCause := .none, stopRequest := none
      leadTimer := 0, leadMs := 0 }, h, (fun hl => nomatch hl), if_pos hwake⟩

theorem triggerPowerOn_requalified {s : State} (h : s.hps.state = .off ∨ s.hps.state = .lockedOut ∨
      (s.hps.state = .suspended ∧ s.hps.wakeOnTrigger = true)) :
    Requalified s (triggerPowerOn s) ∧ (triggerPowerOn s).weu.step = 0 ∧ (triggerPowerOn s).weu.attempts = 0 ∧
    (triggerPowerOn s).lnk = s.lnk ∧
    (s.hps.state = .lockedOut →
      (triggerPowerOn s).live .lockout = false ∧ (triggerPowerOn s).hps.retryTimer = none) := by
  obtain ⟨x, hstate, hretry, heq⟩ := triggerPowerOn_of_waiting h
  generalize hv : (s.setWeu { s.weu with step := 0, attempts := 0 }).setHps x = v at heq
  have hvstate : v.hps.state = s.hps.state := by rw [← hv]; exact hstate
  obtain ⟨hq, hlnk, htimer⟩ := enterQualifying_requalified (s := v)
    (by rw [hvstate]; exact h.imp_right (Or.imp_right And.left))
  obtain ⟨hstep, hattempts⟩ := enterQualifying_ladder v
  rw [heq, hlnk, hstep, hattempts, htimer]
  subst hv
  exact ⟨⟨hq.clock, hq.timeout, hq.admitted, hstate ▸ hq.waiting⟩, rfl, rfl, rfl,
    fun hl => ⟨enterQualifying_live_lockout (hstate.trans hl), hretry hl⟩⟩

/-! ### An event on which one unit fires (R150, R156) -/

theorem completeFiring_eq (a : TrigAction) (e : Event) (u : TrigUnit) (s : State) : ∃ (x : Tmx) (y : Cnu),
    completeFiring a e u s = handOver a u e ((s.setTmx x).setCnu y) ∧ y.live = s.cnu.live := by
  have hlive (e : Event) (v : State) : (post e v).cnu.live = v.cnu.live := by
    unfold post
    split
    · rfl
    · exact raise_live .eventsLost v
  unfold completeFiring
  dsimp only
  rw [post_eq]
  exact ⟨_, _, rfl, hlive _ _⟩

/-- Where one unit fires, its action is handed over once TMX has settled the units and posted the TRIGGER event. -/
theorem takeOldest_of_one {u : TrigUnit} {e : Event} {rest : List Event} {s : State}
    (hinbox : s.tmx.inbox = e :: rest)
    (hfires : ∀ v, unitFires s.settings.trigger s.tmx.units e v = decide (v = u)) :
    ∃ (x : Tmx) (y : Cnu), takeOldest s = handOver (s.settings.trigger.get u).action u e ((s.setTmx x).setCnu y) ∧
      y.live = s.cnu.live := by
  have hone : Six.all.filter (unitFires s.settings.trigger s.tmx.units e) = [u] := by
    rw [funext hfires]
    cases u <;> rfl
  have htaken : takeOldest s = completeFiring (s.settings.trigger.get u).action e u
      (s.setTmx { inbox := rest, units := .of (settleUnit s.settings.trigger s.tmx.units e) }) := by
    unfold takeOldest takeEvent
    rw [hinbox]
    dsimp only [State.setTmx_settings, State.setTmx_tmx]
    rw [hone]
    rfl
  obtain ⟨x, y, heq, hlive⟩ := completeFiring_eq (s.settings.trigger.get u).action e u
    (s.setTmx { inbox := rest, units := .of (settleUnit s.settings.trigger s.tmx.units e) })
  exact ⟨x, y, htaken.trans heq, hlive⟩

end Sys2Proof.Machine

namespace Sys2Proof.Proofs
open Sys2Proof.Machine Sys2Proof.Safety

/-- Settles O59: the unit's action is handed over in a state that is the one before but for TMX and CNU; then by
what each owner makes of its action. -/
theorem triggerActions : Obligations.TriggerActions := by
  intro u e rest s hhold hinbox hfires
  refine ⟨takeOldest s, by simp [exec, execEventTake, hhold], ?_⟩
  obtain ⟨x, y, heq, hlive⟩ := takeOldest_of_one hinbox hfires
  have hsupply : ((s.setTmx x).setCnu y).live .supplyLow = s.live .supplyLow := by simp [State.live, hlive]
  rw [heq]
  clear heq
  generalize (s.settings.trigger.get u).action = act
  refine ⟨fun ha => ?_, fun hr hp hs => handOver_host hr hp hs u e ((s.setTmx x).setCnu y),
    ?_, ?_, ?_, ?_, ?_, ?_, ?_⟩
  · have h := (handOver_reach ha u e ((s.setTmx x).setCnu y)).kept
    exact ⟨h.time, h.settings, h.zmon, h.hsch, h.afm, h.ksu, h.pst, h.hold, h.powerGood, h.lastSent, h.pending⟩
  · rintro rfl
    exact handOver_notify u e ((s.setTmx x).setCnu y)
  · rintro rfl
    exact apply_ite State.cpt _ _ _
  · rintro rfl
    exact ⟨rfl, rfl⟩
  · rintro rfl
    rw [handOver_filterLearn]
    rfl
  · rintro rfl
    simp only [handOver]
    split
    · rename_i hup
      rw [triggerRestart_of_up (s := (s.setTmx x).setCnu y) hup]
      obtain ⟨hescalated, hpins⟩ := escalate_escalated .trigger (some u) ((s.setTmx x).setCnu y)
      refine ⟨hescalated, hpins ?_⟩
      rcases hup with hup | hup <;> simp [State.hostRstN, hup, resetAsserted]
    · rename_i hdown
      rw [triggerRestart_of_down (s := (s.setTmx x).setCnu y) hdown]
      exact ⟨rfl, rfl, rfl⟩
  · rintro rfl
    simp only [handOver]
    split
    · rename_i hwaits
      obtain ⟨hq, hladder⟩ := triggerPowerOn_requalified (s := (s.setTmx x).setCnu y) hwaits
      exact ⟨⟨hq.clock, hq.timeout, hsupply ▸ hq.admitted, hsupply ▸ hq.waiting⟩, hladder⟩
    · rename_i hup
      rw [triggerPowerOn_of_not_waiting (s := (s.setTmx x).setCnu y) hup]
      exact ⟨rfl, rfl, rfl⟩
  · rintro rfl
    simp only [handOver]
    split
    · rename_i hup
      rw [triggerShutdown_of_up (s := (s.setTmx x).setCnu y) hup, State.hostRstN, beginStop_hps, beginStop_lnk]
      exact ⟨rfl, rfl, rfl⟩
    · rename_i hdown
      rw [triggerShutdown_of_down (s := (s.setTmx x).setCnu y) hdown]
      exact ⟨rfl, rfl, rfl⟩

end Sys2Proof.Proofs

namespace Sys2Proof.Machine
open Sys2Proof.Safety

/-! ### What an entry makes of KEQ, CNU and the inbox (R53, R57, R64, R145, R149, R175) -/

/-- CNU with another queue of notices. -/
def Cnu.withNotices (c : Cnu) (q : List Notice) (o : Bool) : Cnu := { c with notices := q, overflow := o }

/-- Of the blocks that a restart report touches only WEU's flag and CNU's queue differ (R96). -/
theorem restartReport_eq (s : State) : restartReport s =
    (s.setWeu { s.weu with reportDue := false }).setCnu
      (s.cnu.withNotices (restartReport s).cnu.notices (restartReport s).cnu.overflow) := by
  unfold restartReport
  split
  · dsimp only
    split
    · exact notify_eq _ _
    · rfl
  · rename_i hdue
    have hweu : ({ s.weu with reportDue := false } : Weu) = s.weu := by
      rw [← Bool.eq_false_iff.2 hdue]
    rw [hweu]
    rfl

theorem leaveCauses_eq (old new : HostState) (s : State) : leaveCauses old new s =
    s.setCnu { s.cnu with live := (leaveCauses old new s).cnu.live } := by
  unfold leaveCauses
  dsimp only
  split <;> split <;> rfl

/-- The live cause of WARM_TIMEOUT ends when QUALIFYING is left, that of LOCKOUT when LOCKED_OUT is (R57, R64). -/
theorem leaveCauses_live (old new : HostState) (s : State) (c : Cond) : (leaveCauses old new s).live c =
    (s.live c && !decide (c = .warmTimeout ∧ old = .qualifying ∧ new ≠ .qualifying) &&
      !decide (c = .lockout ∧ old = .lockedOut ∧ new ≠ .lockedOut)) := by
  unfold leaveCauses
  dsimp only
  split
  · rename_i hlock
    rw [endCause_live, if_neg (by rw [hlock.1]; simp)]
    simp [hlock, eq_comm]
  · rename_i hlock
    have hnot : ¬ (c = .lockout ∧ old = .lockedOut ∧ new ≠ .lockedOut) := fun h => hlock h.2
    rw [decide_eq_false hnot]
    split
    · rename_i hwarm
      rw [endCause_live]
      simp [hwarm, eq_comm]
    · rename_i hwarm
      have hstays : ¬ (c = .warmTimeout ∧ old = .qualifying ∧ new ≠ .qualifying) := fun h => hwarm h.2
      simp [decide_eq_false hstays]

/-- Where no cause of the state left is present, leaving it changes nothing. -/
theorem leaveCauses_of_absent {old new : HostState} {s : State}
    (hwarm : old = .qualifying → s.live .warmTimeout = false)
    (hlock : old = .lockedOut → s.live .lockout = false) : leaveCauses old new s = s := by
  have hend {c : Cond} (h : s.live c = false) : endCause c s = s := by
    have hlive : s.cnu.live &&& ~~~c.bit = s.cnu.live := by
      refine BitVec.eq_of_getLsbD_eq fun i hi => ?_
      have hbit : s.cnu.live.getLsbD c.id = false := h
      rw [BitVec.getLsbD_and, BitVec.getLsbD_not, Cond.bit, BitVec.getLsbD_twoPow]
      by_cases hc : c.id = i
      · rw [← hc, hbit]
        rfl
      · simp [hi, hc]
    unfold endCause setCause
    simp only [Bool.false_eq_true, if_false, hlive]
    rfl
  unfold leaveCauses
  split
  · rename_i h
    rw [hend (hwarm h.1), if_neg (by rw [h.1]; simp)]
  · split
    · rename_i h
      exact hend (hlock h.1)
    · rfl

theorem reportEntry_cnu (new old : HostState) (s : State) : (reportEntry new old s).cnu =
    { s.cnu.withNotices (reportEntry new old s).cnu.notices (reportEntry new old s).cnu.overflow with
      seen := new } := by
  have hreport (v : State) : (restartReport v).cnu =
      v.cnu.withNotices (restartReport v).cnu.notices (restartReport v).cnu.overflow :=
    congrArg State.cnu (restartReport_eq v)
  unfold reportEntry
  dsimp only [State.setCnu_cnu, State.setKeq_cnu, State.setCpt_cnu]
  by_cases hrun : new = .running
  · simp only [hrun, true_or, if_true]
    rw [hreport]
    rfl
  · simp only [if_neg hrun]
    split <;> rfl

theorem reportEntry_keq (new old : HostState) (s : State) : (reportEntry new old s).keq =
    if new.takesKeys then { s.keq with seen := new } else .initial new := by
  have hreport (v : State) : (restartReport v).keq = v.keq := by rw [restartReport_eq]; rfl
  have hif : (if new = .running then restartReport (s.setWeu (weuOnEntry new old s.settings.watchdog s.weu))
      else s.setWeu (weuOnEntry new old s.settings.watchdog s.weu)).keq = s.keq := by
    split
    · exact hreport _
    · rfl
  unfold reportEntry
  dsimp only [State.setCnu_keq, State.setKeq_keq, State.setCpt_keq]
  rw [hif]

theorem reportEntry_tmx (new old : HostState) (s : State) : (reportEntry new old s).tmx = s.tmx := by
  have hreport (v : State) : (restartReport v).tmx = v.tmx := by rw [restartReport_eq]; rfl
  unfold reportEntry
  dsimp only [State.setCnu_tmx, State.setKeq_tmx, State.setCpt_tmx]
  split
  · rw [hreport]
    rfl
  · rfl

/-- An entry into a state whose host does not listen empties CNU's queue, and so does that into BOOTING (R175). -/
theorem reportEntry_notices {new : HostState} (hrun : new ≠ .running) (hstop : new ≠ .stopping)
    (old : HostState) (s : State) :
    (reportEntry new old s).cnu.notices = [] ∧ (reportEntry new old s).cnu.overflow = false := by
  unfold reportEntry
  simp [hrun, hstop]

/-- The inbox after a post, whatever else the state holds (R149). -/
theorem post_tmx (e : Event) (s : State) : (post e s).tmx =
    if s.tmx.inbox.length < Config.inboxSize then { s.tmx with inbox := s.tmx.inbox ++ [e] } else s.tmx := by
  unfold post
  split
  · rfl
  · rw [raise_tmx]

/-- CNU after a post: but for its queue only EVENTS_LOST may differ (R149). -/
theorem post_cnu (e : Event) (s : State) : (post e s).cnu =
    { s.cnu.withNotices (post e s).cnu.notices (post e s).cnu.overflow with
      latched := if s.tmx.inbox.length < Config.inboxSize then s.cnu.latched
        else s.cnu.latched ||| Cond.eventsLost.bit } := by
  unfold post
  split
  · rfl
  · unfold raise
    split
    · rw [notify_eq]
      rfl
    · rfl

/-- The state in which an entry posts its event: HPS is in the new state, the causes of the old one have ended, and
the HELD requests are gone where a host pin has changed (R53, R186). -/
def entering (new : HostState) (stage : Stage) (timer : Option Nat) (s : State) : State :=
  leaveCauses s.hps.state new (((s.setHps { s.hps with
      state := new, prev := s.hps.state, stage := stage, stageTimer := timer
      pendingOn := stage == .pending })).setLnk
    (if (!s.hostRstN && resetAsserted new) || (s.hostPwrEn && !powerEnabled new stage) then
      { s.lnk with held := [] } else s.lnk))

theorem discardHeld_ite (b : Bool) (s : State) : (if b = true then discardHeld s else s) =
    s.setLnk (if b = true then { s.lnk with held := [] } else s.lnk) := by
  split <;> rfl

theorem enterState_eq (new : HostState) (stage : Stage) (timer : Option Nat) (s : State) :
    enterState new stage timer s = reportEntry new s.hps.state
      (post (event .hostState new.num s.hps.state.num) (entering new stage timer s)) := by
  unfold enterState
  dsimp only
  rw [discardHeld_ite]
  rfl

theorem entering_cnu (new : HostState) (stage : Stage) (timer : Option Nat) (s : State) :
    (entering new stage timer s).cnu = { s.cnu with live := (leaveCauses s.hps.state new s).cnu.live } := by
  unfold entering leaveCauses
  dsimp only
  split <;> split <;> rfl

theorem entering_tmx (new : HostState) (stage : Stage) (timer : Option Nat) (s : State) :
    (entering new stage timer s).tmx = s.tmx := by
  rw [entering, leaveCauses_eq]
  rfl

theorem enterState_keq (new : HostState) (stage : Stage) (timer : Option Nat) (s : State) :
    (enterState new stage timer s).keq = if new.takesKeys then { s.keq with seen := new } else .initial new := by
  rw [enterState_eq, reportEntry_keq, post_keq, entering, leaveCauses_eq]
  rfl

theorem enterState_tmx (new : HostState) (stage : Stage) (timer : Option Nat) (s : State) :
    (enterState new stage timer s).tmx = (post (event .hostState new.num s.hps.state.num) s).tmx := by
  rw [enterState_eq, reportEntry_tmx, post_tmx, post_tmx, entering_tmx]

/-- CNU after an entry: the host state seen, the causes of the state left ended, EVENTS_LOST where the inbox was
full; the queue is told elsewhere. -/
theorem enterState_cnu (new : HostState) (stage : Stage) (timer : Option Nat) (s : State) :
    (enterState new stage timer s).cnu =
      { s.cnu.withNotices (enterState new stage timer s).cnu.notices (enterState new stage timer s).cnu.overflow with
        latched := if s.tmx.inbox.length < Config.inboxSize then s.cnu.latched
          else s.cnu.latched ||| Cond.eventsLost.bit
        live := (leaveCauses s.hps.state new s).cnu.live
        seen := new } := by
  rw [enterState_eq]
  conv_lhs => rw [reportEntry_cnu, post_cnu, entering_cnu, entering_tmx]
  rfl

theorem enterState_notices {new : HostState} (hrun : new ≠ .running) (hstop : new ≠ .stopping)
    (stage : Stage) (timer : Option Nat) (s : State) :
    (enterState new stage timer s).cnu.notices = [] ∧ (enterState new stage timer s).cnu.overflow = false := by
  rw [enterState_eq]
  exact reportEntry_notices hrun hstop _ _

/-- The live causes after an entry (R57, R64). -/
theorem enterState_live (new : HostState) (stage : Stage) (timer : Option Nat) (s : State) (c : Cond) :
    (enterState new stage timer s).live c = (leaveCauses s.hps.state new s).live c := by
  rw [State.live, enterState_cnu]
  rfl

end Sys2Proof.Machine

namespace Sys2Proof.Machine
open Sys2Proof.Safety

/-! ### What every operation keeps of the host state seen, the host pins and the latches -/

/-- A host pin has taken the host's reset or supply away (R186). -/
def PinsFell (s t : State) : Prop :=
  (s.hostRstN = false ∧ t.hostRstN = true) ∨ (s.hostPwrEn = true ∧ t.hostPwrEn = false)

/-- What every operation but a few does: the blocks see the host state that HPS is in, HOST_PWR_EN stays
deasserted, the HELD requests are gone when a host pin falls, none joins them, and no latch is cleared. -/
structure Orderly (s t : State) : Prop where
  seen : HostSeenOk s → HostSeenOk t
  unpowered : s.hostPwrEn = false → t.hostPwrEn = false
  discards : PinsFell s t → t.lnk.held = []
  held : s.lnk.held = [] → t.lnk.held = []
  latched : ∀ c : Cond, s.latched c = true → t.latched c = true

theorem Orderly.refl (s : State) : Orderly s s :=
  ⟨id, id, fun h => by rcases h with ⟨h, h'⟩ | ⟨h, h'⟩ <;> simp [h] at h', id, fun _ => id⟩

theorem Orderly.trans {s t u : State} (h : Orderly s t) (k : Orderly t u) : Orderly s u where
  seen := fun hs => k.seen (h.seen hs)
  unpowered := fun hs => k.unpowered (h.unpowered hs)
  held := fun hs => k.held (h.held hs)
  latched := fun c hc => k.latched c (h.latched c hc)
  discards := by
    rintro (⟨hs, hu⟩ | ⟨hs, hu⟩)
    · cases ht : t.hostRstN with
      | true => exact k.held (h.discards (.inl ⟨hs, ht⟩))
      | false => exact k.discards (.inl ⟨ht, hu⟩)
    · cases ht : t.hostPwrEn with
      | false => exact k.held (h.discards (.inr ⟨hs, ht⟩))
      | true => exact k.discards (.inr ⟨ht, hu⟩)

/-- The closing step of the lemmas below: follow one operation after another. -/
theorem Orderly.step {s t u : State} (k : Orderly t u) (h : Orderly s t) : Orderly s u := h.trans k

theorem Orderly.ite {p : Prop} [Decidable p] {s t u : State} (ht : p → Orderly s t) (hu : ¬ p → Orderly s u) :
    Orderly s (if p then t else u) := by
  split
  · exact ht ‹_›
  · exact hu ‹_›

theorem Orderly.when {p : Prop} [Decidable p] {s t : State} (h : p → Orderly s t) :
    Orderly s (if p then t else s) := .ite h fun _ => .refl s

/-- Where no host pin changes nothing is to be discarded. -/
theorem Orderly.of_pins {s t : State} (hseen : HostSeenOk s → HostSeenOk t) (hpwr : t.hostPwrEn = s.hostPwrEn)
    (hrst : t.hostRstN = s.hostRstN) (hheld : s.lnk.held = [] → t.lnk.held = [])
    (hlatched : ∀ c : Cond, s.latched c = true → t.latched c = true) : Orderly s t where
  seen := hseen
  unpowered := hpwr.trans
  held := hheld
  latched := hlatched
  discards := fun h => by rcases h with ⟨h, h'⟩ | ⟨h, h'⟩ <;> simp [hpwr, hrst, h] at h'

/-- What HostSeenOk speaks of is as it was. -/
structure HostSame (s t : State) : Prop where
  state : t.hps.state = s.hps.state
  trace : t.cpt.seen = s.cpt.seen
  keq : t.keq = s.keq
  cnu : t.cnu = s.cnu
  hold : t.hold = s.hold

theorem HostSame.seenOk {s t : State} (h : HostSame s t) (hs : HostSeenOk s) : HostSeenOk t := by
  obtain ⟨hstate, htrace, hkeq, hcnu, hhold⟩ := h
  obtain ⟨h1, h2, h3, h4, h5⟩ := hs
  exact ⟨by rw [htrace, hstate, h1], by rw [hkeq, hstate, h2], by rw [hcnu, hstate, h3],
    by rw [hstate, hkeq]; exact h4, by rw [hstate, hhold, hcnu]; exact h5⟩

theorem HostSame.trans {s t u : State} (h : HostSame s t) (k : HostSame t u) : HostSame s u :=
  ⟨k.state.trans h.state, k.trace.trans h.trace, k.keq.trans h.keq, k.cnu.trans h.cnu, k.hold.trans h.hold⟩

theorem HostSame.latched {s t : State} (h : HostSame s t) (c : Cond) : t.latched c = s.latched c := by
  rw [State.latched, h.cnu]
  rfl

theorem HostSame.hostRstN {s t : State} (h : HostSame s t) : t.hostRstN = s.hostRstN := by
  rw [State.hostRstN, h.state]
  rfl

theorem Orderly.of_same {s t : State} (h : HostSame s t) (hpwr : t.hostPwrEn = s.hostPwrEn)
    (hheld : s.lnk.held = [] → t.lnk.held = []) : Orderly s t :=
  .of_pins h.seenOk hpwr h.hostRstN hheld fun c hc => by rwa [h.latched]

theorem Orderly.setSettings (s : State) (x : Settings) : Orderly s (s.setSettings x) :=
  .of_same ⟨rfl, rfl, rfl, rfl, rfl⟩ rfl id
theorem Orderly.setZmon (s : State) (x : Zmon) : Orderly s (s.setZmon x) :=
  .of_same ⟨rfl, rfl, rfl, rfl, rfl⟩ rfl id
theorem Orderly.setHsch (s : State) (x : Hsch) : Orderly s (s.setHsch x) :=
  .of_same ⟨rfl, rfl, rfl, rfl, rfl⟩ rfl id
theorem Orderly.setAfm (s : State) (x : Afm) : Orderly s (s.setAfm x) :=
  .of_same ⟨rfl, rfl, rfl, rfl, rfl⟩ rfl id
theorem Orderly.setWeu (s : State) (x : Weu) : Orderly s (s.setWeu x) :=
  .of_same ⟨rfl, rfl, rfl, rfl, rfl⟩ rfl id
theorem Orderly.setKsu (s : State) (x : Ksu) : Orderly s (s.setKsu x) :=
  .of_same ⟨rfl, rfl, rfl, rfl, rfl⟩ rfl id
theorem Orderly.setTmx (s : State) (x : Tmx) : Orderly s (s.setTmx x) :=
  .of_same ⟨rfl, rfl, rfl, rfl, rfl⟩ rfl id
theorem Orderly.setPst (s : State) (x : Pst) : Orderly s (s.setPst x) :=
  .of_same ⟨rfl, rfl, rfl, rfl, rfl⟩ rfl id
theorem Orderly.setPowerGood (s : State) (x : Bool) : Orderly s (s.setPowerGood x) :=
  .of_same ⟨rfl, rfl, rfl, rfl, rfl⟩ rfl id
theorem Orderly.setLastSent (s : State) (x : List Byte) : Orderly s (s.setLastSent x) :=
  .of_same ⟨rfl, rfl, rfl, rfl, rfl⟩ rfl id
theorem Orderly.setCpt (s : State) (x : Cpt) (h : x.seen = s.cpt.seen := by rfl) : Orderly s (s.setCpt x) :=
  .of_same ⟨rfl, h, rfl, rfl, rfl⟩ rfl id
theorem Orderly.setHps (s : State) (x : Hps) (hstate : x.state = s.hps.state := by rfl)
    (hstage : x.stage = s.hps.stage := by rfl) : Orderly s (s.setHps x) :=
  .of_same ⟨hstate, rfl, rfl, rfl, rfl⟩ (by simp only [State.hostPwrEn, State.setHps_hps, hstate, hstage]) id
theorem Orderly.setLnk (s : State) (x : Lnk) (h : s.lnk.held = [] → x.held = []) : Orderly s (s.setLnk x) :=
  .of_same ⟨rfl, rfl, rfl, rfl, rfl⟩ rfl h

/-- A change of stage that leaves HOST_PWR_EN as it is (R52). -/
theorem Orderly.setStage (s : State) (x : Hps) (hstate : x.state = s.hps.state)
    (hpwr : powerEnabled x.state x.stage = s.hostPwrEn) : Orderly s (s.setHps x) :=
  .of_same ⟨hstate, rfl, rfl, rfl, rfl⟩ hpwr id

/-! ### CNU, the inbox and KEQ -/

/-- CNU changes in what HostSeenOk and the latches do not speak of. -/
theorem Orderly.setCnu (s : State) (x : Cnu)
    (hlatched : ∀ c, condIn s.cnu.latched c = true → condIn x.latched c = true) (hseen : x.seen = s.cnu.seen := by rfl)
    (hqueue : x.notices = s.cnu.notices := by rfl) (hoverflow : x.overflow = s.cnu.overflow := by rfl) : Orderly s (s.setCnu x) := by
  refine .of_pins (fun hs => ?_) rfl rfl id hlatched
  exact ⟨hs.cpt, hs.keq, hseen.trans hs.cnu, hs.keys, fun h => by
    obtain ⟨hn, ho⟩ := hs.notices h
    exact ⟨hqueue.trans hn, hoverflow.trans ho⟩⟩

/-- For CNU the host listens where HPS says so and no supervisor reset holds. -/
theorem cnuListening_of_seen {s : State} (h : HostSeenOk s) :
    s.cnuListening = (!s.hold && s.hps.state.listening) := by
  rw [State.cnuListening, h.cnu]

theorem notify_of_deaf {s : State} (h : s.cnuListening = false) (b : NoticeBody) : notify b s = s := by
  unfold notify
  rw [if_neg (by simp [h])]

/-- A notice joins the queue while the host listens only (R174, R177). -/
theorem Orderly.notify (b : NoticeBody) (s : State) : Orderly s (notify b s) := by
  refine .of_pins (fun hs => ?_) (by simp [State.hostPwrEn]) (by simp [State.hostRstN]) (by simp) (by simp)
  refine ⟨?_, ?_, ?_, ?_, fun h => ?_⟩
  · rw [notify_cpt, notify_hps]; exact hs.cpt
  · rw [notify_keq, notify_hps]; exact hs.keq
  · rw [notify_seen, notify_hps]; exact hs.cnu
  · rw [notify_keq, notify_hps]; exact hs.keys
  · rw [notify_hold, notify_hps] at h
    have hdeaf : s.cnuListening = false := by
      rw [cnuListening_of_seen hs]
      rcases h with h | h <;> simp [h]
    rw [notify_of_deaf hdeaf]
    exact hs.notices h

theorem Orderly.setLatch (c : Cond) (s : State) : Orderly s (setLatch c s) :=
  .setCnu s _ fun d h => by rw [condIn_or, h]; rfl

theorem Orderly.raise (c : Cond) (s : State) : Orderly s (raise c s) :=
  .ite (fun _ => (Orderly.notify _ _).step (.setLatch c s)) fun _ => .setLatch c s

theorem Orderly.setCause (c : Cond) (b : Bool) (s : State) : Orderly s (setCause c b s) :=
  .setCnu s _ fun _ => id

theorem Orderly.endCause (c : Cond) (s : State) : Orderly s (endCause c s) := .setCause c false s

theorem Orderly.post (e : Event) (s : State) : Orderly s (post e s) :=
  .ite (fun _ => .setTmx s _) fun _ => .raise _ s

/-- KEQ keeps a record while it sees RUNNING or STOPPING only (R138, R145). -/
theorem offerOpen_seen (r : KeyEvent) (q : Keq) : (offerOpen r q).1.seen = q.seen := by
  unfold offerOpen
  split
  · split <;> rfl
  · split
    · rfl
    · split <;> rfl
  · split <;> rfl

theorem Orderly.setKeq (s : State) (q : Keq) (hseen : q.seen = s.keq.seen)
    (hkeys : s.keq.seen.takesKeys = false → q.queue = s.keq.queue ∧ q.openKeys = s.keq.openKeys ∧ q.lost = s.keq.lost) :
    Orderly s (s.setKeq q) := by
  refine .of_pins (fun hs => ?_) rfl rfl id fun _ => id
  refine ⟨hs.cpt, hseen.trans hs.keq, hs.cnu, fun hr hst => ?_, hs.notices⟩
  have hr' : s.hps.state ≠ .running := hr
  have hst' : s.hps.state ≠ .stopping := hst
  have htakes : s.keq.seen.takesKeys = false := by
    rw [hs.keq]
    cases h : s.hps.state with
    | running => exact absurd h hr'
    | stopping => exact absurd h hst'
    | _ => rfl
  obtain ⟨hq, ho, hl⟩ := hkeys htakes
  obtain ⟨hq', ho', hl'⟩ := hs.keys hr' hst'
  exact ⟨hq.trans hq', ho.trans ho', hl.trans hl'⟩

theorem Orderly.offer (r : KeyEvent) (s : State) : Orderly s (offer r s) := by
  refine .when fun htakes => ?_
  have hkeq : Orderly s (s.setKeq (offerOpen r s.keq).1) :=
    .setKeq s _ (offerOpen_seen r s.keq) fun h => by rw [htakes] at h; cases h
  exact .ite (fun _ => (Orderly.raise _ _).step hkeq) fun _ => hkeq

theorem Orderly.emit (e : Emit) (s : State) : Orderly s (emit e s) := by
  cases e with
  | post e => exact .post e s
  | offer r => exact .offer r s
  | raise c => exact .raise c s
  | endCause c => exact .endCause c s
  | notify b => exact .notify b s

theorem Orderly.foldl {α : Type} {f : State → α → State} (h : ∀ s a, Orderly s (f s a)) (l : List α) (s : State) :
    Orderly s (l.foldl f s) :=
  List.foldlRecOn (motive := Orderly s) l f (.refl s) fun t ht a _ => ht.trans (h t a)

theorem Orderly.emitAll (es : List Emit) (s : State) : Orderly s (emitAll es s) :=
  .foldl (fun s e => .emit e s) es s

/-! ### An entry into a host state (R53) -/

theorem restartReport_of_deaf {s : State} (h : s.cnuListening = false) : (restartReport s).cnu = s.cnu := by
  have hdeaf (x : Weu) : (s.setWeu x).cnuListening = false := h
  unfold restartReport
  split
  · dsimp only
    split
    · rw [notify_of_deaf (hdeaf _)]
      rfl
    · rfl
  · rfl

theorem post_of_deaf {s : State} (h : s.cnuListening = false) (e : Event) :
    (post e s).cnu.notices = s.cnu.notices ∧ (post e s).cnu.overflow = s.cnu.overflow := by
  unfold post
  rw [raise_of_deaf h]
  split <;> exact ⟨rfl, rfl⟩

theorem cnuListening_of_hold {s : State} (h : s.hold = true) : s.cnuListening = false := by
  simp [State.cnuListening, h]

/-- Where no notice waits because a supervisor reset holds, none joins on an entry (R200). -/
theorem enterState_notices_of_hold {s : State} (hhold : s.hold = true)
    (hn : s.cnu.notices = [] ∧ s.cnu.overflow = false) (new : HostState) (stage : Stage) (timer : Option Nat) :
    (enterState new stage timer s).cnu.notices = [] ∧ (enterState new stage timer s).cnu.overflow = false := by
  have hentering : (entering new stage timer s).hold = true := by
    rw [entering, leaveCauses_eq]; exact hhold
  obtain ⟨hqueue, hoverflow⟩ := post_of_deaf (cnuListening_of_hold hentering)
    (event .hostState new.num s.hps.state.num)
  rw [entering_cnu] at hqueue hoverflow
  rw [enterState_eq]
  generalize hv : post (event .hostState new.num s.hps.state.num) (entering new stage timer s) = v at hqueue hoverflow
  have hheld (x : Weu) : (v.setWeu x).hold = true := by rw [State.setWeu_hold, ← hv, post_hold, hentering]
  by_cases hrun : new = .running
  · subst hrun
    simp only [reportEntry, if_true, true_or, State.setCnu_cnu, State.setKeq_cnu, State.setCpt_cnu]
    rw [restartReport_of_deaf (cnuListening_of_hold (hheld _)), State.setWeu_cnu, hqueue, hoverflow]
    exact hn
  · by_cases hstop : new = .stopping
    · subst hstop
      exact ⟨hqueue.trans hn.1, hoverflow.trans hn.2⟩
    · exact reportEntry_notices hrun hstop _ _

/-- The blocks see the state entered; KEQ and CNU's queue are emptied where the host takes no keys or no notices. -/
theorem enterState_seenOk {s : State} (hs : s.hold = true → s.cnu.notices = [] ∧ s.cnu.overflow = false)
    (new : HostState) (stage : Stage) (timer : Option Nat) : HostSeenOk (enterState new stage timer s) := by
  have hstate : (enterState new stage timer s).hps.state = new := by rw [enterState_hps]
  have hkeq := enterState_keq new stage timer s
  refine ⟨?_, ?_, ?_, fun hrun hstop => ?_, fun h => ?_⟩
  · rw [enterState_cpt, hstate]
  · rw [hkeq, hstate]
    split <;> rfl
  · rw [enterState_seen, hstate]
  · rw [hstate] at hrun hstop
    have htakes : new.takesKeys = false := by cases new <;> first | rfl | contradiction
    rw [hkeq, htakes]
    exact ⟨rfl, rfl, rfl⟩
  · rw [(enterState_reach new stage timer s).kept.hold, hstate] at h
    rcases h with h | h
    · exact enterState_notices_of_hold h (hs h) new stage timer
    · exact enterState_notices (by rintro rfl; cases h) (by rintro rfl; cases h) stage timer s

/-- An entry is orderly where it asserts HOST_PWR_EN for a host that has it already. -/
theorem Orderly.enterState {new : HostState} {stage : Stage} (timer : Option Nat) {s : State}
    (h : powerEnabled new stage = true → s.hostPwrEn = true) : Orderly s (enterState new stage timer s) where
  seen := fun hs => enterState_seenOk (fun hhold => hs.notices (.inl hhold)) new stage timer
  unpowered := fun hs => by
    rw [State.hostPwrEn, enterState_hps]
    exact Bool.eq_false_iff.2 fun hp => by rw [h hp] at hs; cases hs
  discards := fun hp => by
    rw [PinsFell, State.hostRstN, State.hostPwrEn, State.hostRstN, State.hostPwrEn, enterState_hps] at hp
    rw [enterState_lnk, if_pos]
    rcases hp with ⟨h1, h2⟩ | ⟨h1, h2⟩
    · simp only [State.hostRstN, h1, h2, Bool.not_false, Bool.and_self, Bool.true_or]
    · simp only [State.hostPwrEn, h1, h2, Bool.not_false, Bool.and_self, Bool.or_true]
  held := fun hs => by
    rw [enterState_lnk]
    split
    · rfl
    · exact hs
  latched := (enterState_tells new stage timer s).tells.latched

end Sys2Proof.Machine

namespace Sys2Proof.Machine
open Sys2Proof.Safety

/-! ### The host operations are orderly -/

theorem Orderly.enterUnpowered {new : HostState} {stage : Stage} (h : powerEnabled new stage = false)
    (timer : Option Nat) (s : State) : Orderly s (Machine.enterState new stage timer s) :=
  .enterState timer fun hp => by rw [h] at hp; cases hp

/-- The host's supply is on in BOOTING, RUNNING and STOPPING (R52). -/
theorem hostPwrEn_of_listening {s : State} (h : s.hps.state.listening = true) : s.hostPwrEn = true := by
  unfold State.hostPwrEn
  cases hs : s.hps.state <;> rw [hs] at h <;> first | rfl | cases h

theorem testAdmission_orderly (s : State) : Orderly s (testAdmission s) :=
  .when fun _ => (Orderly.enterUnpowered rfl none _).step (.post _ s)

theorem startWarmUp_orderly (s : State) : Orderly s (startWarmUp s) :=
  .ite (fun _ => .refl s) fun _ => .setHps s _

theorem enterQualifying_orderly (s : State) : Orderly s (enterQualifying s) := by
  refine (testAdmission_orderly _).step (Orderly.step (.when fun _ => .raise _ _) ?_)
  exact (Orderly.enterUnpowered rfl none _).step (startWarmUp_orderly s)

theorem setUpWake_orderly (s : State) : Orderly s (setUpWake s) := by
  unfold setUpWake
  dsimp only
  exact Orderly.step (.when fun _ => .setHps _ _) (.setHps s _)

theorem endStop_orderly (s : State) : Orderly s (endStop s) := by
  have hclear : Orderly s (clearStop s) := .setHps s _
  unfold endStop
  split
  · exact (Orderly.enterUnpowered rfl none _).step hclear
  · exact (enterQualifying_orderly _).step hclear
  · exact (setUpWake_orderly _).step (.enterUnpowered rfl none s)

theorem wake_orderly (s : State) : Orderly s (wake s) :=
  (enterQualifying_orderly _).step (.setHps s _)

theorem toOffTime_orderly {s : State} (h : s.hps.state = .cycling) : Orderly s (toOffTime s) :=
  .setStage s _ rfl (by simp [State.hostPwrEn, h, powerEnabled])

/-- An order of RESET keeps the host's supply on, and is given to a host that has it (R62). -/
theorem perform_orderly {o : Order} {s : State} (h : o = .reset → s.hostPwrEn = true) : Orderly s (perform o s) := by
  have hrequest : Orderly s (s.setHps { s.hps with stopRequest := none }) := .setHps s _
  unfold perform
  cases o with
  | reset => exact Orderly.step (.enterState _ fun _ => h rfl) hrequest
  | cycle off =>
    have hoff : Orderly s ((s.setHps { s.hps with stopRequest := none }).setHps
        { (s.setHps { s.hps with stopRequest := none }).hps with offTime := off }) :=
      (Orderly.setHps _ _).step hrequest
    have hdrain := (Orderly.enterUnpowered (new := .cycling) (stage := .drain) rfl (some Config.drainMs) _).step hoff
    dsimp only
    split
    · exact hdrain
    · exact (toOffTime_orderly (by rw [enterState_hps])).step hdrain
  | lockout =>
    exact (Orderly.raise _ _).step ((Orderly.enterUnpowered rfl none _).step
      ((Orderly.setHps _ _).step hrequest))

theorem writeRecord_orderly (reason : Reason) (unit : Option TrigUnit) (action : RecordAction) (off : Option Nat)
    (o : RecordOutcome) (s : State) : Orderly s (writeRecord reason unit action off o s) :=
  (Orderly.setWeu _ _).step (.setCpt s _)

theorem orderAt_powerFail (st : LadderStep) : orderAt st true = .cycle st.offTime := rfl

/-- A failure but POWER_FAIL, which never resets, is escalated of a host with its supply on (R89). -/
theorem escalate_orderly {reason : Reason} (unit : Option TrigUnit) {s : State}
    (h : reason ≠ .powerFail → s.hostPwrEn = true) : Orderly s (escalate reason unit s) := by
  have hfail : Orderly s (failPending s) := .setWeu s _
  unfold escalate
  dsimp only
  split
  · refine (perform_orderly fun ho => ?_).step ((writeRecord_orderly ..).step ((Orderly.setWeu _ _).step hfail))
    by_cases hr : reason = .powerFail
    · subst hr
      cases ho
    · exact h hr
  · exact (perform_orderly (o := .lockout) fun ho => nomatch ho).step ((writeRecord_orderly ..).step hfail)

theorem powerFail_orderly (s : State) : Orderly s (powerFail s) :=
  (escalate_orderly none fun h => absurd rfl h).step (.raise _ s)

theorem recordInStop_orderly (reason : Reason) (s : State) : Orderly s (recordInStop reason s) :=
  (writeRecord_orderly ..).step (.setWeu s _)

/-- BOOTING is entered by a host with its supply on (R59, R62). -/
theorem enterBooting_orderly {s : State} (h : s.hostPwrEn = true) : Orderly s (enterBooting s) := by
  have hentry := Orderly.enterState (new := .booting) (stage := .noStage) none fun _ => h
  unfold enterBooting
  dsimp only
  split
  · exact hentry
  · exact (powerFail_orderly _).step hentry

theorem beginStop_orderly (cause : StopCause) (zone : Option Zone) (d : Destination) {s : State}
    (h : s.hps.state.listening = true) : Orderly s (beginStop cause zone d s) :=
  (Orderly.notify _ _).step (.step (.enterState _ fun _ => hostPwrEn_of_listening h) (.setHps s _))

theorem critExcursion_orderly (z : Zone) (s : State) : Orderly s (critExcursion z s) := by
  have hraise : Orderly s (raise .thermalStop s) := .raise _ s
  have hstop (h : s.hps.state.listening = true) :
      Orderly s (beginStop .thermal (some z) .qualifying (raise .thermalStop s)) :=
    (beginStop_orderly _ _ _ (by rw [raise_hps]; exact h)).step hraise
  unfold critExcursion
  split
  · rename_i h
    exact hstop (by rw [h]; rfl)
  · rename_i h
    exact .ite (fun _ => hraise) fun _ => hstop (by rw [h]; rfl)
  · refine .when fun _ => ?_
    have hconverted : Orderly s (raise .thermalStop (s.setHps { s.hps with
        stopCause := .thermal, stopZone := some z, destination := .qualifying })) :=
      (Orderly.raise _ _).step (.setHps s _)
    dsimp only
    split
    · exact (Orderly.notify _ _).step ((Orderly.setHps _ _).step hconverted)
    · exact hconverted
  · exact (enterQualifying_orderly _).step hraise
  · exact (enterQualifying_orderly _).step hraise
  all_goals exact .refl s

theorem resetLadder_orderly (s : State) : Orderly s (resetLadder s) := .setWeu s _

theorem releaseLockout_orderly (s : State) : Orderly s (releaseLockout s) :=
  (enterQualifying_orderly _).step ((Orderly.setHps _ _).step (resetLadder_orderly s))

theorem triggerPowerOn_orderly (s : State) : Orderly s (triggerPowerOn s) := by
  unfold triggerPowerOn
  split
  · exact (enterQualifying_orderly _).step (resetLadder_orderly s)
  · exact releaseLockout_orderly s
  · exact .when fun _ => (wake_orderly _).step (resetLadder_orderly s)
  all_goals exact .refl s

theorem triggerShutdown_orderly (s : State) : Orderly s (triggerShutdown s) := by
  unfold triggerShutdown
  split
  · rename_i h
    exact beginStop_orderly _ _ _ (by rw [h]; rfl)
  · rename_i h
    exact .when fun _ => beginStop_orderly _ _ _ (by rw [h]; rfl)
  all_goals exact .refl s

theorem triggerRestart_orderly (u : TrigUnit) (s : State) : Orderly s (triggerRestart u s) := by
  unfold triggerRestart
  split
  · rename_i h
    exact escalate_orderly _ fun _ => hostPwrEn_of_listening (by rw [h]; rfl)
  · rename_i h
    exact escalate_orderly _ fun _ => hostPwrEn_of_listening (by rw [h]; rfl)
  all_goals exact .refl s

/-! ### The trigger units are orderly (R156, R161) -/

theorem handOver_orderly (a : TrigAction) (u : TrigUnit) (e : Event) (s : State) : Orderly s (handOver a u e s) := by
  cases a with
  | notify => exact Orderly.step (.when fun _ => .notify _ _) (.raise _ s)
  | freeze => exact .ite (fun _ => .refl s) fun _ => .setCpt s _
  | restart => exact triggerRestart_orderly u s
  | powerOn => exact triggerPowerOn_orderly s
  | shutdown => exact triggerShutdown_orderly s
  | signal => exact .setCnu s _ fun _ => id
  | filterLearn => exact .when fun _ => .setAfm s _

theorem takeOldest_orderly (s : State) : Orderly s (takeOldest s) := by
  have hfiring (a : TrigAction) (e : Event) (u : TrigUnit) (s : State) : Orderly s (completeFiring a e u s) :=
    (handOver_orderly a u e _).step ((Orderly.post _ _).step (.setTmx s _))
  unfold takeOldest
  split
  · exact .refl s
  · exact (Orderly.foldl (fun s u => hfiring _ _ u s) _ _).step ((Orderly.setTmx _ _).step (.setTmx s _))

/-! ### The climate job is orderly -/

theorem publishRound_orderly (m : Zmon) (s : State) : Orderly s (publishRound m s) :=
  (Orderly.setCause _ _ _).step
    ((Orderly.foldl (fun s z => .setCause (.sensorFault z) (!(m.zones.get z).valid) s) Four.all _).step (.setZmon s m))

theorem roundTask_orderly (old : Zmon) (t : RoundTask) (s : State) : Orderly s (roundTask old t s) := by
  cases t with
  | report => exact .emitAll _ s
  | crit z => exact .when fun _ => critExcursion_orderly z s
  | admission => exact testAdmission_orderly s
  | keypad => exact (Orderly.emitAll _ _).step (.setKsu s _)

theorem takeRound_orderly (raw : PerFour Int) (supply : Int) (order : List RoundTask) (s : State) :
    Orderly s (takeRound raw supply order s) :=
  (Orderly.foldl (fun s t => roundTask_orderly _ t s) order _).step (publishRound_orderly _ s)

theorem readHeater_orderly (x : Int) (i : Heater) (s : State) : Orderly s (readHeater x i s) := by
  have hfault (k : FaultKind) (v : State) : Orderly v (heaterFaults i k v) :=
    (Orderly.post _ _).step (.step (.setCnu _ _ fun _ => id) ((Orderly.raise _ _).step (.setHsch v _)))
  unfold readHeater
  refine .when fun _ => ?_
  have hread (y : Hsch) : Orderly s (s.setHsch y) := .setHsch s y
  exact .ite (fun _ => (hfault _ _).step (hread _)) fun _ =>
    .ite (fun _ => (hfault _ _).step (hread _)) fun _ => hread _

theorem endSlot_orderly (current : PerThree Int) (order : List Heater) (s : State) :
    Orderly s (endSlot current order s) :=
  Orderly.step (.ite (fun _ => .setHsch _ _) fun _ => .setHsch _ _)
    (.foldl (fun s h => readHeater_orderly _ h s) order s)

theorem measureFan_orderly (pulses : Nat) (cellOk : Bool) (s : State) : Orderly s (measureFan pulses cellOk s) := by
  unfold measureFan
  refine (Orderly.emitAll _ _).step ?_
  have hafm (x : Afm) : Orderly s (s.setAfm x) := .setAfm s x
  split
  · exact .ite (fun _ => (Orderly.setPst _ _).step (hafm _)) fun _ => hafm _
  · exact hafm _

/-! ### The settings and their owners are orderly -/

theorem takeZone_orderly (z : Zone) (c : ZoneSettings) (s : State) : Orderly s (takeZone z c s) := by
  rw [takeZone_eq]
  exact (Orderly.setZmon _ _).step (.setSettings s _)

theorem abortLearn_orderly (s : State) : Orderly s (abortLearn s) :=
  .ite (fun _ => .refl s) fun _ => (Orderly.emit _ _).step (.setAfm s _)

theorem takeFan_orderly (c : FanSettings) (s : State) : Orderly s (takeFan c s) :=
  (abortLearn_orderly _).step (.setSettings s _)

theorem takeLadder_orderly (c : LadderSettings) (s : State) : Orderly s (takeLadder c s) :=
  (Orderly.setWeu _ _).step (.setSettings s _)

theorem takeKeypad_orderly (c : KeypadSettings) (s : State) : Orderly s (takeKeypad c s) :=
  (Orderly.emitAll _ _).step ((Orderly.setKsu _ _).step (.setSettings s _))

theorem takeChord_orderly (i : Chord) (c : ChordSettings) (s : State) : Orderly s (takeChord i c s) :=
  (Orderly.setKsu _ _).step (.setSettings s _)

theorem takeTrigger_orderly (u : TrigUnit) (c : TriggerSettings) (s : State) : Orderly s (takeTrigger u c s) :=
  (Orderly.setTmx _ _).step (.setSettings s _)

theorem reload_orderly (src : Settings) (s : State) : Orderly s (reload src s) := by
  have hclimate : Orderly s (reloadClimate src s) :=
    (takeFan_orderly _ _).step ((Orderly.setSettings _ _).step
      ((Orderly.foldl (fun s _ => .setSettings s _) Three.all _).step
        (.foldl (fun s z => takeZone_orderly z _ s) Four.all s)))
  have hpolicy (locked : Bool) (v : State) : Orderly v (reloadPolicy locked src v) := by
    rw [reloadPolicy_eq]
    exact (Orderly.setWeu _ _).step (.setSettings v _)
  have hrest (v : State) : Orderly v (reloadRest src v) :=
    (Orderly.setSettings _ _).step ((Orderly.setSettings _ _).step ((Orderly.setTmx _ _).step
      ((Orderly.setSettings _ _).step ((Orderly.foldl (fun s i => takeChord_orderly i _ s) Six.all _).step
        (.foldl (fun s _ => .setSettings s _) _ v)))))
  rw [reload_eq]
  exact (hrest _).step ((takeKeypad_orderly _ _).step ((hpolicy _ _).step hclimate))

theorem putUnit_orderly (u : TrigUnit) (b : Bool) (r : UnitRec) (s : State) : Orderly s (putUnit u b r s) :=
  (Orderly.setTmx _ _).step (.setSettings s _)

end Sys2Proof.Machine

namespace Sys2Proof.Machine
open Sys2Proof.Safety

/-! ### Requests are orderly (R185) -/

theorem Orderly.answerThen (after : AfterReply) (r : Request) (st : Status) (p : List Byte) (s : State) :
    Orderly s (answerThen after r st p s) := .setLnk s _ id

theorem Orderly.answer (r : Request) (st : Status) (p : List Byte) (s : State) : Orderly s (answer r st p s) :=
  .setLnk s _ id

theorem Orderly.dispatch {owner : State → State} (ho : ∀ s, Orderly s (owner s)) (r : Request) (s : State) :
    Orderly s (dispatch r owner s) := by
  have htaken : Orderly s (takeHeld s) := .setLnk s _ fun h => by rw [h]; rfl
  exact .when fun _ => (ho _).step htaken

theorem Orderly.request {owner : State → State} (ho : ∀ s, Orderly s (owner s)) (n : Nat) (r : Request) (s : State) :
    Orderly s (Machine.dispatch r (ofLength n r owner) s) :=
  .dispatch (fun s => .ite (fun _ => ho s) fun _ => .answer _ _ _ s) r s

/-- Of a WRITE_SETTINGS row only the group's own writing matters (R188). -/
theorem Orderly.write {write : Nat → List Int → State → Option State}
    (hw : ∀ i fs s t, write i fs s = some t → Orderly s t) (g : Nat) (after : AfterReply) (r : Request)
    (wf : Bool) (s : State) :
    Ends (Orderly s) (if wf then .next (Machine.dispatch r (writeGroup g write after r) s) else .fault .illFormed) := by
  have hgroup (s : State) : Orderly s (writeGroup g write after r s) := by
    unfold writeGroup
    split
    · split
      · split
        · exact .answer ..
        · split
          · exact .answer ..
          · split
            · exact .answer ..
            · exact (Orderly.answerThen ..).step (hw _ _ _ _ ‹_›)
      · exact .answer ..
    · exact .answer ..
  split
  · exact (ends_next _ _).2 (.dispatch hgroup r s)
  · simp

/-- Of a TRIGGER_CONTROL row only the operation matters (R163). -/
theorem Orderly.control {op : Nat} {change : TrigUnit → State → Option State}
    (hc : ∀ u s t, change u s = some t → Orderly s t) (r : Request) (wf : Bool) (s : State) :
    Ends (Orderly s) (if wf then .next (Machine.dispatch r (triggerControl op change r) s) else .fault .illFormed) := by
  have hcontrol (s : State) : Orderly s (triggerControl op change r s) := by
    unfold triggerControl
    split
    · split
      · split
        · split
          · exact (Orderly.answer ..).step (hc _ _ _ ‹_›)
          · exact .answer ..
        · exact .answer ..
      · exact .answer ..
    · exact .answer ..
  split
  · exact (ends_next _ _).2 (.dispatch hcontrol r s)
  · simp

theorem writeZone_orderly (i : Nat) (fs : List Int) (s t : State) (e : writeZoneFields i fs s = some t) :
    Orderly s t := by
  unfold writeZoneFields at e
  split at e <;> cases e
  exact takeZone_orderly _ _ _

theorem writeHeater_orderly (i : Nat) (fs : List Int) (s t : State) (e : writeHeaterFields i fs s = some t) :
    Orderly s t := by
  unfold writeHeaterFields at e
  split at e <;> cases e
  exact .setSettings s _

theorem writeChord_orderly (i : Nat) (fs : List Int) (s t : State) (e : writeChordFields i fs s = some t) :
    Orderly s t := by
  unfold writeChordFields at e
  split at e <;> cases e
  exact takeChord_orderly _ _ _

theorem writeTrigger_orderly (i : Nat) (fs : List Int) (s t : State) (e : writeTriggerFields i fs s = some t) :
    Orderly s t := by
  unfold writeTriggerFields at e
  split at e
  · split at e <;> cases e
    exact takeTrigger_orderly _ _ _
  · cases e

/-- The groups without an index: what the owner takes, where the fields are good. -/
theorem taken_orderly {α : Type} {c : Option α} {take : α → State → State} (h : ∀ x s, Orderly s (take x s))
    (s t : State) (e : c.map (take · s) = some t) : Orderly s t := by
  obtain ⟨x, -, rfl⟩ := Option.map_eq_some_iff.1 e
  exact h x s

theorem enableUnit_orderly (u : TrigUnit) (s t : State) (e : enableUnit u s = some t) : Orderly s t := by
  unfold enableUnit at e
  dsimp only at e
  split at e <;> cases e
  · exact putUnit_orderly ..
  · exact .refl s

theorem disableUnit_orderly (u : TrigUnit) (s t : State) (e : disableUnit u s = some t) : Orderly s t := by
  unfold disableUnit at e
  dsimp only at e
  split at e <;> cases e
  · exact .refl s
  · exact putUnit_orderly ..

theorem rearmUnit_orderly (u : TrigUnit) (s t : State) (e : rearmUnit u s = some t) : Orderly s t := by
  unfold rearmUnit at e
  dsimp only at e
  split at e <;> cases e
  exact .setTmx s _

/-! ### The owners of the other requests are orderly -/

theorem getStatus_orderly (r : Request) (s : State) : Orderly s (getStatus r s) := by
  unfold getStatus
  split
  · split <;> exact .answer ..
  · exact .answer ..

theorem readGroup_orderly (r : Request) (s : State) : Orderly s (readGroup r s) := by
  unfold readGroup
  split
  · split <;> exact .answer ..
  · exact .answer ..

theorem readTrace_orderly (r : Request) (s : State) : Orderly s (readTrace r s) := by
  unfold readTrace
  split
  · split <;> exact .answer ..
  · exact .answer ..

theorem readRestart_orderly (r : Request) (s : State) : Orderly s (readRestart r s) := by
  unfold readRestart
  split
  · split
    · exact .answer ..
    · split <;> exact .answer ..
  · exact .answer ..

theorem takeCode_orderly (code : Word16) (s : State) : Orderly s (takeCode code s).1 :=
  (Orderly.post _ _).step (.setCpt s _)

theorem takeCheckpoint_orderly (r : Request) (s : State) : Orderly s (takeCheckpoint r s) := by
  unfold takeCheckpoint
  split
  · split
    · exact .answer ..
    · split
      · exact .answer ..
      · exact (Orderly.answer ..).step (takeCode_orderly _ s)
  · exact .answer ..

/-- Records leave KEQ: where it holds none, it holds none then (R143, R145). -/
theorem readKeys_orderly (r : Request) (s : State) : Orderly s (readKeys r s) := by
  refine (Orderly.answer ..).step (.of_pins (fun hs => ?_) rfl rfl id fun _ => id)
  refine ⟨hs.cpt, hs.keq, hs.cnu, fun hrun hstop => ?_, hs.notices⟩
  obtain ⟨hqueue, hopen, -⟩ := hs.keys hrun hstop
  exact ⟨by simp [hqueue], hopen, rfl⟩

/-- Notices leave CNU: where it holds none, it holds none then (R175, R176). -/
theorem fetchNotices_orderly (r : Request) (s : State) : Orderly s (fetchNotices r s) := by
  refine (Orderly.answer ..).step (.of_pins (fun hs => ?_) rfl rfl id fun _ => id)
  exact ⟨hs.cpt, hs.keq, hs.cnu, hs.keys, fun h => ⟨by simp [(hs.notices h).1], rfl⟩⟩

theorem filterServiced_orderly (r : Request) (s : State) : Orderly s (filterServiced r s) :=
  .ite (fun _ => (Orderly.answer ..).step (.setAfm s _)) fun _ => .answer ..

theorem storeProfile_orderly (r : Request) (s : State) : Orderly s (storeProfile r s) :=
  .ite (fun _ => .answer ..) fun _ => (Orderly.answer ..).step (.setPst s _)

theorem revertProfile_orderly (r : Request) (s : State) : Orderly s (revertProfile r s) := by
  unfold revertProfile
  split
  · exact .answer ..
  · split
    · exact .answer ..
    · exact (Orderly.answerThen ..).step (reload_orderly _ _)

/-! ### KICK, REQUEST_STOP and REQUEST_RESTART are orderly -/

theorem kickAnswer_orderly (r : Request) (st : Status) (code : Option Word16) (s : State) :
    Orderly s (kickAnswer r st code s) := by
  refine (Orderly.answer ..).step ?_
  unfold handCode
  split
  · exact .refl s
  · split
    · exact .refl s
    · exact takeCode_orderly _ s

theorem earlyKick_orderly (t : Nat) (s : State) : Orderly s (earlyKick t s) :=
  (Orderly.post _ _).step (.raise _ s)

@[simp] theorem handCode_hps (code : Option Word16) (s : State) : (handCode code s).1.hps = s.hps := by
  unfold handCode
  split
  · rfl
  · split
    · rfl
    · exact post_hps _ _

@[simp] theorem earlyKick_hps (t : Nat) (s : State) : (earlyKick t s).hps = s.hps := by
  rw [earlyKick, post_hps, raise_hps]

theorem judgeKick_orderly (r : Request) (code : Option Word16) (s : State) : Orderly s (judgeKick r code s) := by
  unfold judgeKick
  split
  · dsimp only
    split
    · exact (kickAnswer_orderly ..).step (.setWeu s _)
    · split
      · rename_i hearly
        have hanswered := (kickAnswer_orderly r .early code _).step (earlyKick_orderly (s.weu.kickTimer.getD 0) s)
        have hstate : (kickAnswer r .early code (earlyKick (s.weu.kickTimer.getD 0) s)).hps = s.hps :=
          (handCode_hps code _).trans (earlyKick_hps _ s)
        exact (escalate_orderly _ fun _ => hostPwrEn_of_listening (by rw [hstate, hearly.1]; rfl)).step hanswered
      · exact (kickAnswer_orderly ..).step ((Orderly.setWeu _ _).step (earlyKick_orderly _ s))
  · exact kickAnswer_orderly ..

theorem takeKick_orderly (r : Request) (s : State) : Orderly s (takeKick r s) := by
  unfold takeKick
  split
  · exact .answer ..
  · split
    · rename_i h
      exact (kickAnswer_orderly ..).step (.enterState _ fun _ => hostPwrEn_of_listening (by rw [h]; rfl))
    · exact judgeKick_orderly ..
    · exact judgeKick_orderly ..
    all_goals exact .answer ..

theorem beginStopDelay_orderly (q : StopRequest) {s : State} (h : stopGate s.hps.state s.hps.stage = .taken) :
    Orderly s (beginStopDelay q s) := by
  refine .setStage s _ rfl ?_
  unfold State.hostPwrEn
  cases hs : s.hps.state <;> rw [hs] at h <;> first | rfl | cases h

theorem requestStop_orderly (r : Request) (s : State) : Orderly s (requestStop r s) := by
  unfold requestStop
  split
  · split
    · exact .answer ..
    · exact .answer ..
    · split
      · exact .answer ..
      · exact (Orderly.answerThen ..).step (beginStopDelay_orderly _ ‹_›)
  · exact .answer ..

theorem requestRestart_orderly (r : Request) (s : State) : Orderly s (requestRestart r s) := by
  unfold requestRestart
  split
  · rename_i h
    have hrecorded : Orderly s (answer r .ok [] (writeRecord .requested none (requestedOrder s.settings.watchdog).action
        (requestedOrder s.settings.watchdog).offTime? .pending (failPending s))) :=
      (Orderly.answer ..).step ((writeRecord_orderly ..).step (.setWeu s _))
    exact Orderly.step (perform_orderly fun _ => hostPwrEn_of_listening (s := s) (by rw [h]; rfl)) hrecorded
  · exact .answer ..

end Sys2Proof.Machine

namespace Sys2Proof.Machine
open Sys2Proof.Safety

/-! ### Time and the resets are orderly -/

/-- A timer of HPS moves; the host stays where it is. -/
theorem Hps.tick_stays (h : Hps) : h.tick.state = h.state ∧ h.tick.stage = h.stage := by
  unfold Hps.tick
  dsimp only
  constructor <;> (repeat' split) <;> rfl

theorem tick_orderly (s : State) : Orderly s (tick s) := by
  obtain ⟨hstate, hstage⟩ := s.hps.tick_stays
  have hmoved : Orderly s ({ s with
      time := s.time.tick, hps := s.hps.tick, weu := s.weu.tick, tmx := s.tmx.tick, pst := s.pst.tick } : State) :=
    .of_same ⟨hstate, rfl, rfl, rfl, rfl⟩ (congrArg₂ powerEnabled hstate hstage) id
  have hcnu := hmoved.trans (.setCnu _ { s.cnu with svcTimer := countDown s.cnu.svcTimer } fun _ => id)
  exact hcnu.trans (.of_same ⟨rfl, rfl, rfl, rfl, rfl⟩ rfl id)

theorem startUp_orderly (s : State) : Orderly s (startUp s) := by
  have hprofile : Orderly s (if s.pst.content?.isNone then raise .profileDefaulted s else s) :=
    .when fun _ => .raise _ s
  have hlock (v : State) : Orderly v
      (if v.settings.hostPower.lockAtStart then v.setWeu { v.weu with policyLock := true } else v) :=
    .when fun _ => .setWeu v _
  have hstart (v : State) : Orderly v (if v.settings.hostPower.autoStart then enterQualifying v else v) :=
    .when fun _ => enterQualifying_orderly v
  exact (hstart _).step ((hlock _).step hprofile)

/-- A supervisor reset empties KEQ, the notice queue and the slots; the host goes on (R200, R201). -/
theorem beginReset_orderly (s : State) : Orderly s (beginReset s) := by
  unfold beginReset
  refine Orderly.step (.when fun _ => .raise _ _) (.of_pins (fun hs => ?_) rfl rfl (fun _ => rfl) fun _ => id)
  exact ⟨hs.cpt, hs.keq, hs.cnu, fun _ _ => ⟨rfl, rfl, rfl⟩, fun _ => ⟨rfl, rfl⟩⟩

/-- The end of a supervisor reset: KEQ and CNU take the host state from HPS (R200). -/
theorem endReset_orderly (cause : ResetCause) (s : State) : Orderly s (endReset cause s) := by
  refine (Orderly.raise _ _).step (.of_pins (fun hs => ?_) rfl rfl id fun _ => id)
  exact ⟨hs.cpt, rfl, rfl, hs.keys, fun h => hs.notices (h.imp_left fun h => nomatch h)⟩

theorem supervisorReset_orderly (low : Bool) (r : Request) (s : State) : Orderly s (supervisorReset low r s) := by
  have hbegun := (beginReset_orderly (s.setLastSent (frame (replyBody r .ok [])))).step (.setLastSent s _)
  exact .ite (fun _ => hbegun) fun _ => (endReset_orderly _ _).step hbegun

/-! ### The other commands -/

theorem afterReply_orderly (a : AfterReply) (s : State) : Orderly s (afterReply a s) := by
  cases a with
  | nothing => exact .refl s
  | applyRate => exact .setLnk s _ id
  | endStop => exact .when fun _ => endStop_orderly s

theorem storeDone_orderly (ok : Bool) (c : Settings) (s : State) : Orderly s (storeDone ok c s) := by
  have hpst (x : Pst) : Orderly s (s.setPst x) := .setPst s x
  exact .ite (fun _ => (Orderly.notify _ _).step (hpst _)) fun _ =>
    (Orderly.notify _ _).step ((Orderly.raise _ _).step (hpst _))

theorem latchExpiry_orderly (s : State) : Orderly s (latchExpiry s) := (Orderly.post _ _).step (.raise _ s)

@[simp] theorem latchExpiry_hps (s : State) : (latchExpiry s).hps = s.hps := by
  rw [latchExpiry, post_hps, raise_hps]

theorem kickExpired_orderly (s : State) : Ends (Orderly s) (execWdExpired s) := by
  refine (ends_next _ _).2 (.when fun _ => .ite (fun hrun => ?_) fun _ => .when fun _ => ?_)
  · exact (escalate_orderly none fun _ => hostPwrEn_of_listening (by rw [latchExpiry_hps, hrun]; rfl)).step
      (latchExpiry_orderly s)
  · exact (endStop_orderly _).step ((recordInStop_orderly _ _).step (latchExpiry_orderly s))

theorem bootTimeout_orderly (s : State) : Ends (Orderly s) (execBootTimeout s) := by
  refine (ends_next _ _).2 (.when fun hover => ?_)
  have hbooting : s.hps.state = .booting := by
    unfold State.bootOver at hover
    simp only [Bool.and_eq_true, beq_iff_eq] at hover
    exact hover.1.1
  refine (escalate_orderly none fun _ => hostPwrEn_of_listening ?_).step ((Orderly.post _ _).step (.raise _ s))
  rw [post_hps, raise_hps, hbooting]
  rfl

theorem stageOver_iff {s : State} {st : HostState} {stage : Stage} :
    s.stageOver st stage = true ↔ s.hps.state = st ∧ s.hps.stage = stage ∧ s.hps.stageTimer = some 0 := by
  simp [State.stageOver, and_assoc]

/-- The stage of a host in POWERING or RESETTING that goes on to BOOTING has HOST_PWR_EN asserted (R52). -/
theorem hostPwrEn_of_stageOver {s : State} {st : HostState} {stage : Stage} (h : s.stageOver st stage = true)
    (hp : powerEnabled st stage = true) : s.hostPwrEn = true := by
  obtain ⟨hstate, hstage, -⟩ := stageOver_iff.1 h
  rw [State.hostPwrEn, hstate, hstage, hp]

theorem hostPwrGoodRise_orderly (s : State) : Ends (Orderly s) (execHostPwrGoodRise s) := by
  refine (ends_next _ _).2 (Orderly.step (.when fun hwait => ?_) (.setPowerGood s true))
  obtain ⟨hstate, hstage⟩ := hwait
  refine .setStage _ _ rfl ?_
  rw [State.hostPwrEn, hstate, hstage]
  rfl

theorem hostPwrGoodFall_orderly (s : State) : Ends (Orderly s) (execHostPwrGoodFall s) := by
  have hfall : Orderly s (s.setPowerGood false) := .setPowerGood s false
  have hfail := (powerFail_orderly _).step hfall
  simp only [execHostPwrGoodFall, ends_next]
  split
  · exact .ite (fun _ => hfail) fun _ => hfall
  · exact hfail
  · exact hfail
  · exact (recordInStop_orderly _ _).step ((Orderly.raise _ _).step ((endStop_orderly _).step hfall))
  · exact .ite (fun _ => (toOffTime_orderly ‹_›).step hfall) fun _ => hfall
  all_goals exact hfall

/-- A boundary that withdraws no power-on leaves the host in its state (R58). -/
theorem hpsBoundary_same {s : State} (hlow : s.live .supplyLow = false) : HostSame s (hpsBoundary s) := by
  unfold hpsBoundary
  split
  · rw [if_neg (by simp [hlow])]
    split <;> exact ⟨rfl, rfl, rfl, rfl, rfl⟩
  · exact ⟨rfl, rfl, rfl, rfl, rfl⟩

/-- A boundary at which no power-on can be asserted: none is pending in POWERING, or it is withdrawn (R58). -/
theorem hpsBoundary_orderly {s : State}
    (h : ¬ (s.hps.state = .powering ∧ s.hps.pendingOn = true ∧ s.live .supplyLow = false)) :
    Orderly s (hpsBoundary s) := by
  unfold hpsBoundary
  split
  · split
    · exact enterQualifying_orderly s
    · rename_i hpending hlow
      have hstate : s.hps.state ≠ .powering := fun hp => h ⟨hp, hpending, Bool.eq_false_iff.2 hlow⟩
      have hpins (stage : Stage) : powerEnabled s.hps.state stage = s.hostPwrEn := by
        unfold State.hostPwrEn
        cases hs : s.hps.state with
        | powering => exact absurd hs hstate
        | _ => rfl
      split
      · exact .setStage s _ rfl (hpins _)
      · exact .setStage s _ rfl (hpins _)
  · exact .refl s

theorem hschBoundary_orderly (s : State) : Orderly s (hschBoundary s) := .setHsch s _

theorem afmBoundary_orderly (s : State) : Orderly s (afmBoundary s) := .setAfm s _

theorem takeBoundary_orderly (first : Bool) {s : State}
    (h : ¬ (s.hps.state = .powering ∧ s.hps.pendingOn = true ∧ s.live .supplyLow = false)) :
    Orderly s (takeBoundary first s) := by
  have hafm := afmBoundary_orderly s
  cases first with
  | true => exact (hschBoundary_orderly _).step ((hpsBoundary_orderly (s := afmBoundary s) h).step hafm)
  | false =>
    exact (hpsBoundary_orderly (s := hschBoundary (afmBoundary s)) h).step ((hschBoundary_orderly _).step hafm)

/-- A boundary that asserts a power-on: HOST_PWR_EN rises, and no more of the host changes than its stage (R58). -/
theorem takeBoundary_powers (first : Bool) {s : State} (hstate : s.hps.state = .powering)
    (hpending : s.hps.pendingOn = true) (hlow : s.live .supplyLow = false) :
    HostSame s (takeBoundary first s) ∧ (takeBoundary first s).hostPwrEn = true := by
  have hafm : HostSame s (afmBoundary s) := ⟨rfl, rfl, rfl, rfl, rfl⟩
  cases first with
  | true =>
    exact ⟨hafm.trans ((hpsBoundary_same (s := afmBoundary s) hlow).trans ⟨rfl, rfl, rfl, rfl, rfl⟩),
      (hpsBoundary_asserts (s := afmBoundary s) hpending hstate hlow).2.2⟩
  | false =>
    have hhsch : HostSame s (hschBoundary (afmBoundary s)) := ⟨rfl, rfl, rfl, rfl, rfl⟩
    exact ⟨hhsch.trans (hpsBoundary_same (s := hschBoundary (afmBoundary s)) hlow),
      (hpsBoundary_asserts (s := hschBoundary (afmBoundary s)) hpending hstate hlow).2.2⟩

/-! ### What a step does with the host state seen, the host pins and the latches -/

/-- Every command but four is orderly: power-on reset and ACK_CONDITIONS clear latches, a frame may be held, and a
boundary may assert HOST_PWR_EN. -/
def keepsOrder : Instr → Bool
  | .powerOnReset | .ackConditions _ _ | .frameReceived _ | .climateBoundary _ => false
  | _ => true

theorem exec_orderly {c : Instr} (hc : keepsOrder c = true) (s : State) : Ends (Orderly s) (exec c s) := by
  cases c with
  | powerOnReset => cases hc
  | ackConditions tag p => cases hc
  | frameReceived bytes => cases hc
  | climateBoundary first => cases hc
  | rstNAssert => exact (ends_next _ _).2 (.ite (fun _ => .refl s) fun _ => beginReset_orderly s)
  | rstNRelease => exact (ends_next _ _).2 (.when fun _ => endReset_orderly _ s)
  | supervisorReset tag p low => exact (ends_next _ _).2 (.request (supervisorReset_orderly low _) _ _ s)
  | frameGapTimeout =>
    refine (ends_next _ _).2 (.setLnk s _ fun h => ?_)
    unfold Lnk.gap
    split <;> exact h
  | linkReset => exact (ends_next _ _).2 (.when fun _ => .setLnk s _ fun _ => rfl)
  | rxdHighAgain => exact (ends_next _ _).2 (.setLnk s _ id)
  | replySent =>
    simp only [exec, execReplySent, ends_next]
    split
    · exact .refl s
    · exact (afterReply_orderly _ _).step ((Orderly.setLastSent _ _).step (.setLnk s _ id))
  | badKind kind tag p =>
    simp only [exec, execBadKind]
    split
    · simp
    · exact (ends_next _ _).2 (.dispatch (fun _ => .answer ..) _ s)
  | ping tag p => exact (ends_next _ _).2 (.request (fun _ => .answer ..) _ _ s)
  | getStatus tag p => exact (ends_next _ _).2 (.dispatch (getStatus_orderly _) _ s)
  | getConditions tag p => exact (ends_next _ _).2 (.request (fun _ => .answer ..) _ _ s)
  | fetchNotices tag p => exact (ends_next _ _).2 (.request (fetchNotices_orderly _) _ _ s)
  | readKeys tag p => exact (ends_next _ _).2 (.request (readKeys_orderly _) _ _ s)
  | kick tag p => exact (ends_next _ _).2 (.dispatch (takeKick_orderly _) _ s)
  | checkpoint tag p => exact (ends_next _ _).2 (.dispatch (takeCheckpoint_orderly _) _ s)
  | readTrace tag p => exact (ends_next _ _).2 (.dispatch (readTrace_orderly _) _ s)
  | thawTrace tag p =>
    exact (ends_next _ _).2 (.request (fun s => (Orderly.answer ..).step (.setCpt s _)) _ _ s)
  | readRestart tag p => exact (ends_next _ _).2 (.dispatch (readRestart_orderly _) _ s)
  | requestStop tag p => exact (ends_next _ _).2 (.dispatch (requestStop_orderly _) _ s)
  | requestRestart tag p => exact (ends_next _ _).2 (.request (requestRestart_orderly _) _ _ s)
  | commitPolicy tag p =>
    exact (ends_next _ _).2 (.request (fun s => (Orderly.answer ..).step (.setWeu s _)) _ _ s)
  | writeZone tag p => exact .write writeZone_orderly _ _ _ _ s
  | writeHeater tag p => exact .write writeHeater_orderly _ _ _ _ s
  | writeBudget tag p => exact .write (fun _ _ => taken_orderly fun _ s => .setSettings s _) _ _ _ _ s
  | writeFan tag p => exact .write (fun _ _ => taken_orderly takeFan_orderly) _ _ _ _ s
  | writeWatchdog tag p => exact .write (fun _ _ => taken_orderly fun _ s => .setSettings s _) _ _ _ _ s
  | writeLadder tag p => exact .write (fun _ _ => taken_orderly takeLadder_orderly) _ _ _ _ s
  | writeHostPower tag p => exact .write (fun _ _ => taken_orderly fun _ s => .setSettings s _) _ _ _ _ s
  | writeKeypad tag p => exact .write (fun _ _ => taken_orderly takeKeypad_orderly) _ _ _ _ s
  | writeKey tag p => exact .write (fun i _ => taken_orderly (take := takeKey i) fun _ s => .setSettings s _) _ _ _ _ s
  | writeChord tag p => exact .write writeChord_orderly _ _ _ _ s
  | writeTrigger tag p => exact .write writeTrigger_orderly _ _ _ _ s
  | writeReport tag p => exact .write (fun _ _ => taken_orderly fun _ s => .setSettings s _) _ _ _ _ s
  | writeLink tag p => exact .write (fun _ _ => taken_orderly fun _ s => .setSettings s _) _ _ _ _ s
  | readSettings tag p => exact (ends_next _ _).2 (.dispatch (readGroup_orderly _) _ s)
  | storeProfile tag p => exact (ends_next _ _).2 (.request (storeProfile_orderly _) _ _ s)
  | storeComplete ok =>
    simp only [exec, execStoreComplete, ends_next]
    split
    · exact storeDone_orderly ..
    · exact .refl s
  | revertProfile tag p => exact (ends_next _ _).2 (.request (revertProfile_orderly _) _ _ s)
  | factorySettings tag p =>
    exact (ends_next _ _).2 (.request (fun s => (Orderly.answerThen ..).step (reload_orderly _ s)) _ _ s)
  | triggerControlEnable tag p => exact .control enableUnit_orderly _ _ s
  | triggerControlDisable tag p => exact .control disableUnit_orderly _ _ s
  | triggerControlRearm tag p => exact .control rearmUnit_orderly _ _ s
  | filterServiced tag p => exact (ends_next _ _).2 (.request (filterServiced_orderly _) _ _ s)
  | sampleRound raw supply order =>
    simp only [exec, execSampleRound]
    split
    · exact (ends_next _ _).2 (.ite (fun _ => .refl s) fun _ => takeRound_orderly raw supply order s)
    · simp
  | slotEnd current order =>
    simp only [exec, execSlotEnd]
    split
    · exact (ends_next _ _).2 (.when fun _ => endSlot_orderly current order s)
    · simp
  | fanMeasurement pulses ok =>
    exact (ends_next _ _).2 (.ite (fun _ => .refl s) fun _ => measureFan_orderly pulses ok s)
  | hostPwrGoodRise => exact hostPwrGoodRise_orderly s
  | hostPwrGoodFall => exact hostPwrGoodFall_orderly s
  | powerGoodTimeout => exact (ends_next _ _).2 (.when fun _ => powerFail_orderly s)
  | resetHoldExpiry =>
    exact (ends_next _ _).2 (.when fun h => enterBooting_orderly (hostPwrEn_of_stageOver h rfl))
  | resettingExpiry =>
    exact (ends_next _ _).2 (.when fun h => enterBooting_orderly (hostPwrEn_of_stageOver h rfl))
  | drainTimeout => exact (ends_next _ _).2 (.when fun h => toOffTime_orderly (stageOver_iff.1 h).1)
  | offTimeExpiry => exact (ends_next _ _).2 (.when fun _ => enterQualifying_orderly s)
  | lockoutRetryExpiry => exact (ends_next _ _).2 (.when fun _ => releaseLockout_orderly s)
  | graceExpiry => exact (ends_next _ _).2 (.when fun _ => endStop_orderly s)
  | stopDelayExpiry => exact (ends_next _ _).2 (.when fun _ => endStop_orderly s)
  | wakeTime => exact (ends_next _ _).2 (.when fun _ => wake_orderly s)
  | leadComputation => exact (ends_next _ _).2 (.when fun _ => .setHps s _)
  | preheatBegin => exact (ends_next _ _).2 (.when fun _ => .setHps s _)
  | warmTimeout =>
    exact (ends_next _ _).2 (.when fun _ => (Orderly.post _ _).step ((Orderly.raise _ _).step (.setHps s _)))
  | bootTimeout => exact bootTimeout_orderly s
  | wdExpired => exact kickExpired_orderly s
  | stableTime => exact (ends_next _ _).2 (.when fun _ => (resetLadder_orderly _).step (.setWeu s _))
  | keyScan raws =>
    simp only [exec, execKeyScan]
    split
    · exact (ends_next _ _).2 (.ite (fun _ => .refl s) fun _ => (Orderly.emitAll _ _).step (.setKsu s _))
    · simp
  | eventTake => exact (ends_next _ _).2 (.ite (fun _ => .refl s) fun _ => takeOldest_orderly s)
  | armWindowExpiry u => exact (ends_next _ _).2 (.when fun _ => .setTmx s _)
  | svcTimerExpiry => exact (ends_next _ _).2 (.when fun _ => .setCnu s _ fun _ => id)

end Sys2Proof.Machine

namespace Sys2Proof.Machine
open Sys2Proof.Safety

/-- What a step keeps of the host state seen, the host pins and the latches; `c` is the command at the front. -/
structure PinRules (c : Option Instr) (s t : State) : Prop where
  seen : HostSeenOk s → HostSeenOk t
  powers : s.hostPwrEn = false → t.hostPwrEn = true → (∃ first, c = some (.climateBoundary first)) ∧
    s.hold = false ∧ s.hsch.boundaryDue = true ∧ s.hps.state = .powering ∧ s.hps.pendingOn = true ∧
    s.live .supplyLow = false
  discards : PinsFell s t → t.lnk.held = []
  clears : ∀ d : Cond, s.latched d = true → t.latched d = false →
    ((∃ tag payload, c = some (.ackConditions tag payload)) ∧ s.live d = false) ∨ c = some .powerOnReset

theorem Orderly.rules {s t : State} (h : Orderly s t) (c : Option Instr) : PinRules c s t where
  seen := h.seen
  powers := fun hoff hon => by rw [h.unpowered hoff] at hon; cases hon
  discards := h.discards
  clears := fun d hd hnot => by rw [h.latched d hd] at hnot; cases hnot

/-- HPS stays as it is, so no host pin changes. -/
theorem PinRules.of_hps {c : Option Instr} {s t : State} (hseen : HostSeenOk s → HostSeenOk t) (hhps : t.hps = s.hps)
    (hclears : ∀ d : Cond, s.latched d = true → t.latched d = false →
      ((∃ tag payload, c = some (.ackConditions tag payload)) ∧ s.live d = false) ∨ c = some .powerOnReset) :
    PinRules c s t where
  seen := hseen
  powers := fun hoff hon => by rw [State.hostPwrEn, hhps] at hon; exact absurd hon (by simpa [State.hostPwrEn] using hoff)
  discards := fun h => by
    rw [PinsFell, State.hostRstN, State.hostRstN, State.hostPwrEn, State.hostPwrEn, hhps] at h
    rcases h with ⟨h, h'⟩ | ⟨h, h'⟩ <;> rw [h] at h' <;> cases h'
  clears := hclears

theorem ackConditions_hps (r : Request) (s : State) : (ackConditions r s).hps = s.hps := by
  unfold ackConditions
  split
  · dsimp only
    rw [acknowledge_eq]
    rfl
  · rfl

theorem ackConditions_seenOk {r : Request} {s : State} (hs : HostSeenOk s) : HostSeenOk (ackConditions r s) := by
  obtain ⟨hcpt, hkeq, hcnu, hkeys, hnotices⟩ := hs
  unfold ackConditions
  split
  · dsimp only
    rw [acknowledge_eq]
    exact ⟨hcpt, hkeq, hcnu, hkeys, hnotices⟩
  · exact ⟨hcpt, hkeq, hcnu, hkeys, hnotices⟩

/-- A condition whose live cause is present keeps its latch (R169). -/
theorem ackConditions_clears {r : Request} {s : State} {c : Cond} (hc : s.latched c = true)
    (hnot : (ackConditions r s).latched c = false) : s.live c = false := by
  unfold ackConditions at hnot
  split at hnot
  · dsimp only at hnot
    rw [acknowledge_eq] at hnot
    have hcond : condIn (s.cnu.latched &&& ~~~cleared _ s) c = false := hnot
    rw [condIn_and_not, condIn_cleared, show condIn s.cnu.latched c = true from hc] at hcond
    simp only [hc, Bool.true_and, Bool.and_true, Bool.not_eq_false', Bool.and_eq_true, Bool.not_eq_true'] at hcond
    exact hcond.2
  · rw [show s.latched c = false from hnot] at hc
    cases hc

theorem powerOn_orderly (s : State) :
    Orderly ((State.atPowerOn s.pst.source s.pst.image s.pst.cell s.powerGood).setPending s.pending) (powerOn s) :=
  startUp_orderly _

/-- Power-on reset takes the host to OFF before auto_start acts (R199). -/
theorem powerOn_rules (s : State) : PinRules (some .powerOnReset) s (powerOn s) where
  seen := fun _ => (powerOn_orderly s).seen
    ⟨rfl, rfl, rfl, fun _ _ => ⟨rfl, rfl, rfl⟩, fun _ => ⟨rfl, rfl⟩⟩
  powers := fun _ hon => by rw [(powerOn_orderly s).unpowered rfl] at hon; cases hon
  discards := fun _ => (powerOn_orderly s).held rfl
  clears := fun _ _ _ => .inr rfl

theorem climateBoundary_rules (first : Bool) (s : State) :
    PinRules (some (.climateBoundary first)) s
      (if !s.hold && s.hsch.boundaryDue then takeBoundary first s else s) := by
  split
  · rename_i hdue
    obtain ⟨hhold, hboundary⟩ : s.hold = false ∧ s.hsch.boundaryDue = true := by simpa using hdue
    by_cases hp : s.hps.state = .powering ∧ s.hps.pendingOn = true ∧ s.live .supplyLow = false
    · obtain ⟨hstate, hpending, hlow⟩ := hp
      obtain ⟨hsame, hon⟩ := takeBoundary_powers first hstate hpending hlow
      refine ⟨hsame.seenOk, fun _ _ => ⟨⟨first, rfl⟩, hhold, hboundary, hstate, hpending, hlow⟩, ?_, ?_⟩
      · rintro (⟨h, h'⟩ | ⟨-, h⟩)
        · rw [hsame.hostRstN, h] at h'
          cases h'
        · rw [hon] at h
          cases h
      · intro d hd hnot
        rw [hsame.latched, hd] at hnot
        cases hnot
    · exact (takeBoundary_orderly first hp).rules _
  · exact (Orderly.refl s).rules _

theorem exec_rules (c : Instr) (s : State) : Ends (PinRules (some c) s) (exec c s) := by
  by_cases hc : keepsOrder c = true
  · exact fun t e => (exec_orderly hc s t e).rules _
  cases c with
  | powerOnReset => exact (ends_next _ _).2 (powerOn_rules s)
  | climateBoundary first => exact (ends_next _ _).2 (climateBoundary_rules first s)
  | frameReceived bytes =>
    simp only [exec, execFrameReceived, ends_next]
    split
    · exact .of_hps (fun hs => ⟨hs.cpt, hs.keq, hs.cnu, hs.keys, hs.notices⟩) rfl
        fun d hd hnot => by rw [show s.latched d = false from hnot] at hd; cases hd
    · exact (Orderly.refl s).rules _
  | ackConditions tag p =>
    simp only [exec, execAckConditions, ends_next, dispatch]
    split
    · have htaken (hs : HostSeenOk s) : HostSeenOk (takeHeld s) := ⟨hs.cpt, hs.keq, hs.cnu, hs.keys, hs.notices⟩
      exact .of_hps (fun hs => ackConditions_seenOk (htaken hs)) (ackConditions_hps _ _)
        fun d hd hnot => .inl ⟨⟨tag, p, rfl⟩, ackConditions_clears (s := takeHeld s) hd hnot⟩
    · exact (Orderly.refl s).rules _
  | _ => exact absurd rfl hc

/-- A step follows the rules of the command at the front of the queue. -/
theorem step_rules {s t : State} (h : step s = .next t) : PinRules s.pending.head? s t := by
  unfold step at h
  split at h
  · rename_i hq
    cases h
    exact (tick_orderly s).rules _
  · rename_i c rest hq
    have hrules := exec_rules c (s.setPending rest) t h
    rw [hq]
    exact ⟨fun hs => hrules.seen ⟨hs.cpt, hs.keq, hs.cnu, hs.keys, hs.notices⟩, hrules.powers, hrules.discards,
      hrules.clears⟩

theorem front_of_head? {q : List Instr} {c : Instr} (h : q.head? = some c) : ∃ rest, q = c :: rest := by
  cases q with
  | nil => cases h
  | cons x rest => cases h; exact ⟨rest, rfl⟩

/-- The conditions marked Lamp are those of the model's table (R167, R172). -/
theorem faultN_iff (s : State) : s.faultN = true ↔ ∃ c ∈ lampConditions, s.latched c = true := by
  have hlamps : Cond.all.filter Cond.isLamp = lampConditions := by decide
  rw [← hlamps]
  simp only [State.faultN, List.any_eq_true, List.mem_filter, Bool.and_eq_true, and_assoc]

/-- ATTN_N where CNU sees the host state HPS is in (R177). -/
theorem attnN_iff {s : State} (h : HostSeenOk s) : s.attnN = true ↔
    s.hold = false ∧ s.hps.state.listening = true ∧ (s.cnu.notices ≠ [] ∨ s.keq.queue ≠ []) := by
  simp [State.attnN, cnuListening_of_seen h, and_assoc]

end Sys2Proof.Machine

namespace Sys2Proof.Proofs
open Sys2Proof.Machine Sys2Proof.Safety

/-- Settles O16, by the commands: an entry into a host state tells the three blocks, and a notice or key record joins
its queue only while its block sees a host that may fetch it. -/
theorem hostSeenInvariant : Obligations.HostSeenInvariant := fun _ _ hs h => (step_rules h).seen hs

/-- Settles O26, by the commands: all but four assert no supply, discard what a falling pin demands, and clear no
latch; those four are power-on reset, ACK_CONDITIONS, a received frame and the climate boundary. -/
theorem pinTransitions : Obligations.PinTransitions := by
  refine ⟨fun s t h hoff hon => ?_, fun s t h => (step_rules h).discards, fun c s t h hc hnot => ?_,
    fun s t _ => faultN_iff t, fun s t hs h => attnN_iff ((step_rules h).seen hs)⟩
  · obtain ⟨⟨first, hfront⟩, hrest⟩ := (step_rules h).powers hoff hon
    exact ⟨⟨first, front_of_head? hfront⟩, hrest⟩
  · rcases (step_rules h).clears c hc hnot with ⟨⟨tag, payload, hfront⟩, hlive⟩ | hfront
    · obtain ⟨rest, hq⟩ := front_of_head? hfront
      exact .inl ⟨tag, payload, rest, hq, hlive⟩
    · exact .inr (front_of_head? hfront)

end Sys2Proof.Proofs

namespace Sys2Proof.Machine
open Sys2Proof.Safety

/-! ### What is posted first stays in front (R149) -/

/-- Events join the inbox behind those it holds, a full inbox takes none, and no latch is cleared. -/
structure Appends (s t : State) : Prop where
  tells : Tells s t
  full : ¬ s.tmx.inbox.length < Config.inboxSize → t.tmx.inbox = s.tmx.inbox

theorem Appends.refl (s : State) : Appends s s := ⟨.refl s, fun _ => rfl⟩

theorem Appends.trans {s t u : State} (h : Appends s t) (k : Appends t u) : Appends s u :=
  ⟨h.tells.trans k.tells, fun hfull => (k.full (by rwa [h.full hfull])).trans (h.full hfull)⟩

/-- The closing step of the lemmas below: follow one operation after another. -/
theorem Appends.step {s t u : State} (k : Appends t u) (h : Appends s t) : Appends s u := h.trans k

theorem Appends.of_same {s t : State} (hinbox : t.tmx.inbox = s.tmx.inbox)
    (hlatched : ∀ c : Cond, s.latched c = true → t.latched c = true) : Appends s t :=
  ⟨⟨by rw [hinbox], hlatched⟩, fun _ => hinbox⟩

theorem Appends.setHps (s : State) (x : Hps) : Appends s (s.setHps x) := .of_same rfl fun _ => id
theorem Appends.setWeu (s : State) (x : Weu) : Appends s (s.setWeu x) := .of_same rfl fun _ => id
theorem Appends.setCpt (s : State) (x : Cpt) : Appends s (s.setCpt x) := .of_same rfl fun _ => id
theorem Appends.setLnk (s : State) (x : Lnk) : Appends s (s.setLnk x) := .of_same rfl fun _ => id

theorem Appends.raise (c : Cond) (s : State) : Appends s (raise c s) :=
  .of_same (by rw [raise_tmx]) (Tells.raise c s).latched

theorem Appends.post (e : Event) (s : State) : Appends s (post e s) :=
  ⟨.post e s, fun hfull => by rw [post_of_full e s hfull, raise_tmx]⟩

theorem Appends.enterState (new : HostState) (stage : Stage) (timer : Option Nat) (s : State) :
    Appends s (enterState new stage timer s) :=
  ⟨(enterState_tells new stage timer s).tells, fun hfull => by
    rw [enterState_tmx, (Appends.post _ s).full hfull]⟩

theorem testAdmission_appends (s : State) : Appends s (testAdmission s) := by
  unfold testAdmission admitHost
  split
  · exact (Appends.enterState ..).step (.post _ s)
  · exact .refl s

/-- The host state that an order leads to (R61). -/
def Order.host : Order → HostState
  | .reset => .resetting
  | .cycle _ => .cycling
  | .lockout => .lockedOut

/-- HPS as an order finds it, with the stop request discarded (R61, R63, R64). -/
def Order.given (o : Order) (s : State) : Hps :=
  match o with
  | .reset => { s.hps with stopRequest := none }
  | .cycle off => { s.hps with stopRequest := none, offTime := off }
  | .lockout => { s.hps with
      stopRequest := none
      retryTimer := if s.settings.hostPower.lockoutRetry = 0 then none
        else some (s.settings.hostPower.lockoutRetry * 60)
      retryMs := 0 }

/-- The stage an order enters its state with. -/
def Order.stage : Order → Stage
  | .cycle _ => .drain
  | .reset | .lockout => .noStage

/-- The stage timer an order starts (R62, R63). -/
def Order.timer (o : Order) (s : State) : Option Nat :=
  match o with
  | .reset => some s.settings.hostPower.resetPulse
  | .cycle _ => some Config.drainMs
  | .lockout => none

/-- What follows the entry: DRAIN ends where HOST_PWR_GOOD is low already, LOCKOUT is raised (R63, R64). -/
def Order.finish (o : Order) (s : State) : State :=
  match o with
  | .reset => s
  | .cycle _ => if s.powerGood then s else toOffTime s
  | .lockout => raise .lockout s

/-- Every order is an entry into its state. -/
theorem perform_eq (o : Order) (s : State) :
    perform o s = o.finish (enterState o.host o.stage (o.timer s) (s.setHps (o.given s))) := by
  cases o <;> rfl

@[simp] theorem Order.given_state (o : Order) (s : State) : (o.given s).state = s.hps.state := by cases o <;> rfl

@[simp] theorem Order.given_stage (o : Order) (s : State) : (o.given s).stage = s.hps.stage := by cases o <;> rfl

theorem Order.finish_appends (o : Order) (s : State) : Appends s (o.finish s) := by
  cases o with
  | reset => exact .refl s
  | cycle off =>
    unfold finish
    dsimp only
    split
    · exact .refl s
    · exact .setHps s _
  | lockout => exact .raise _ s

theorem perform_appends (o : Order) (s : State) : Appends s (perform o s) := by
  rw [perform_eq]
  exact (o.finish_appends _).step ((Appends.enterState ..).step (.setHps s _))

theorem writeRecord_appends (reason : Reason) (unit : Option TrigUnit) (action : RecordAction) (off : Option Nat)
    (o : RecordOutcome) (s : State) : Appends s (writeRecord reason unit action off o s) :=
  (Appends.setWeu _ _).step (.setCpt s _)

theorem escalate_appends (reason : Reason) (unit : Option TrigUnit) (s : State) :
    Appends s (escalate reason unit s) := by
  have hfail : Appends s (failPending s) := .setWeu s _
  unfold escalate
  dsimp only
  split
  · exact (perform_appends _ _).step ((writeRecord_appends ..).step ((Appends.setWeu _ _).step hfail))
  · exact (perform_appends _ _).step ((writeRecord_appends ..).step hfail)

theorem post_posted (e : Event) (s : State) : Posted e s (post e s) := by
  have h := posted_emitAll_cons e [] s
  exact h

/-- An event stays posted by whatever joins the inbox behind it. -/
theorem posted_then {e : Event} {s t u : State} (h : Posted e s t) (k : Appends t u) : Posted e s u := by
  unfold Posted at h ⊢
  split
  · rename_i hroom
    rw [if_pos hroom] at h
    exact h.trans k.tells.inbox
  · rename_i hfull
    rw [if_neg hfull] at h
    obtain ⟨hinbox, hlost⟩ := h
    exact ⟨(k.full (by rwa [hinbox])).trans hinbox, k.tells.latched _ hlost⟩

theorem posted_of_inbox {e : Event} {s t u : State} (h : s.tmx.inbox = t.tmx.inbox) (k : Posted e t u) :
    Posted e s u := by
  unfold Posted at k ⊢
  rwa [h]

/-- An entry posts HOST_STATE(new, old) before anything else (R53). -/
theorem enterState_posted (new : HostState) (stage : Stage) (timer : Option Nat) (s : State) :
    Posted (event .hostState new.num s.hps.state.num) s (enterState new stage timer s) := by
  have h := post_posted (event .hostState new.num s.hps.state.num) s
  unfold Posted at h ⊢
  rw [enterState_tmx]
  split
  · rename_i hroom
    rwa [if_pos hroom] at h
  · rename_i hfull
    rw [if_neg hfull] at h
    refine ⟨h.1, ?_⟩
    rw [State.latched, enterState_cnu, if_neg hfull, condIn_or, condIn_bit]
    simp

theorem perform_posted (o : Order) (s : State) :
    Posted (event .hostState o.host.num s.hps.state.num) s (perform o s) := by
  have hentry := enterState_posted o.host o.stage (o.timer s) (s.setHps (o.given s))
  rw [State.setHps_hps, Order.given_state] at hentry
  rw [perform_eq]
  exact posted_then (posted_of_inbox rfl hentry) (o.finish_appends _)

/-! ### What latches nothing (R149, R168) -/

theorem latchesKept_of_cnu {s t : State} (hlatched : t.cnu.latched = s.cnu.latched) (hlive : t.cnu.live = s.cnu.live)
    (hkinds : t.cnu.kinds = s.cnu.kinds) (hsvc : t.cnu.svcTimer = s.cnu.svcTimer) : LatchesKept [] s t :=
  ⟨fun _ _ _ => by rw [State.latched, hlatched]; rfl, (fun _ h => nomatch h), hlive, hkinds, hsvc⟩

theorem latchesKept_refl (s : State) : LatchesKept [] s s := latchesKept_of_cnu rfl rfl rfl rfl

theorem latchesKept_trans {s t u : State} (h : LatchesKept [] s t) (k : LatchesKept [] t u) : LatchesKept [] s u :=
  ⟨fun c hc hnot => (k.kept c hc hnot).trans (h.kept c hc hnot), (fun _ h => nomatch h), k.live.trans h.live,
    k.kinds.trans h.kinds, k.svcTimer.trans h.svcTimer⟩

theorem latchesKept_post (e : Event) (s : State) : LatchesKept [] s (post e s) where
  kept := fun _ hc _ => post_latched_of_ne e s hc
  set := fun _ h => nomatch h
  live := by rw [post_cnu]; rfl
  kinds := post_kinds e s
  svcTimer := by rw [post_cnu]; rfl

/-- An entry sets no latch but EVENTS_LOST, and clears none (R53, R149). -/
theorem enterState_latched {c : Cond} (hc : c ≠ .eventsLost) (new : HostState) (stage : Stage) (timer : Option Nat)
    (s : State) : (enterState new stage timer s).latched c = s.latched c := by
  rw [State.latched, enterState_cnu]
  dsimp only
  split
  · rfl
  · rw [condIn_or, condIn_bit, decide_eq_false hc.symm, Bool.or_false]
    rfl

theorem testAdmission_latched {c : Cond} (hc : c ≠ .eventsLost) (s : State) :
    (testAdmission s).latched c = s.latched c := by
  unfold testAdmission
  split
  · rw [admitHost, enterState_latched hc, post_latched_of_ne _ _ hc]
  · rfl

/-- An entry latches nothing, and ends no live cause where none of the state left is present (R53, R57, R64). -/
theorem latchesKept_enterState (new : HostState) (stage : Stage) (timer : Option Nat) {s : State}
    (hwarm : s.hps.state = .qualifying → s.live .warmTimeout = false)
    (hlock : s.hps.state = .lockedOut → s.live .lockout = false) :
    LatchesKept [] s (enterState new stage timer s) where
  kept := fun c hc _ => enterState_latched hc new stage timer s
  set := fun _ h => nomatch h
  live := by rw [enterState_cnu, leaveCauses_of_absent hwarm hlock]
  kinds := by rw [enterState_cnu]; rfl
  svcTimer := by rw [enterState_cnu]; rfl

theorem latchesKept_testAdmission {s : State} (h : s.live .warmTimeout = false) :
    LatchesKept [] s (testAdmission s) := by
  unfold testAdmission
  split
  · rename_i hq
    refine latchesKept_trans (latchesKept_post (event .admission 0 s.hps.qualClock) s)
      (latchesKept_enterState .powering .pending none (fun _ => ?_) fun hlock => ?_)
    · rw [post_live_cond, h]
    · rw [post_hps, hq.1] at hlock
      cases hlock
  · exact latchesKept_refl s

end Sys2Proof.Machine

namespace Sys2Proof.Machine
open Sys2Proof.Safety

/-! ### Entries that take the host's reset or supply away (R53, R79, R145, R175) -/

/-- With its reset asserted the host neither listens nor takes keys. -/
theorem deaf_of_resetAsserted {new : HostState} (h : resetAsserted new = true) :
    new.listening = false ∧ new.takesKeys = false := by
  cases new with
  | booting | running | stopping => cases h
  | _ => exact ⟨rfl, rfl⟩

/-- WEU on an entry into a state with the host's reset asserted: the watchdog is off (R79). -/
theorem weuOnEntry_off {new : HostState} (h : resetAsserted new = true) (old : HostState) (c : WatchdogSettings)
    (w : Weu) : weuOnEntry new old c w =
      { w with phase := .off, bootTimer := none, kickTimer := none, stable := .none } := by
  cases new with
  | booting | running | stopping => cases h
  | _ => rfl

theorem enterState_lost {new : HostState} (h : resetAsserted new = true) (stage : Stage) (timer : Option Nat)
    (s : State) : HostLost s (enterState new stage timer s) := by
  have hreach := enterState_reach new stage timer s
  have hrun : new ≠ .running := by rintro rfl; cases h
  have hstop : new ≠ .stopping := by rintro rfl; cases h
  have hweu := enterState_weu hrun stage timer s
  rw [weuOnEntry_off h] at hweu
  refine ⟨hreach.kept, hreach.units, hreach.lock, by rw [hweu], by rw [hweu], ?_,
    (enterState_notices hrun hstop stage timer s).1, by rw [State.hostRstN, enterState_hps, h]⟩
  rw [enterState_keq, (deaf_of_resetAsserted h).2, enterState_hps]
  rfl

theorem outsideKept_trans {s t u : State} (h : OutsideKept s t) (k : OutsideKept t u) : OutsideKept s u :=
  ⟨k.time.trans h.time, k.settings.trans h.settings, k.zmon.trans h.zmon, k.hsch.trans h.hsch, k.afm.trans h.afm,
    k.ksu.trans h.ksu, k.pst.trans h.pst, k.hold.trans h.hold, k.powerGood.trans h.powerGood,
    k.lastSent.trans h.lastSent, k.pending.trans h.pending⟩

theorem hostLost_of_kept {s u t : State} (h : OutsideKept s u) (hunits : u.tmx.units = s.tmx.units)
    (hlock : u.weu.policyLock = s.weu.policyLock) (k : HostLost u t) : HostLost s t where
  outside := outsideKept_trans h k.outside
  units := k.units.trans hunits
  lock := k.lock.trans hlock
  phase := k.phase
  kickTimer := k.kickTimer
  keys := k.keys
  notices := k.notices
  rst := k.rst

/-- What comes before the loss of the host may be any host operation. -/
theorem hostLost_of_reach {s u t : State} (h : HostReach s u) (k : HostLost u t) : HostLost s t :=
  hostLost_of_kept h.kept h.units h.lock k

theorem hostLost_setHps {s t : State} {x : Hps} (h : HostLost s t) (hx : x.state = t.hps.state) :
    HostLost s (t.setHps x) where
  outside := outsideKept_trans h.outside (HostReach.setHps t x).kept
  units := h.units
  lock := h.lock
  phase := h.phase
  kickTimer := h.kickTimer
  keys := by rw [State.setHps_hps, hx]; exact h.keys
  notices := h.notices
  rst := by rw [State.hostRstN, State.setHps_hps, hx]; exact h.rst

/-- A condition raised while CNU sees a host that does not listen gives no notice (R177). -/
theorem hostLost_raise {s t : State} (c : Cond) (h : HostLost s t) (hdeaf : t.cnuListening = false) :
    HostLost s (raise c t) := by
  rw [raise_of_deaf hdeaf]
  exact ⟨outsideKept_trans h.outside (HostReach.setCnu t _).kept, h.units, h.lock, h.phase, h.kickTimer, h.keys,
    h.notices, h.rst⟩

/-- CNU sees the state entered, and is deaf where its host does not listen (R175). -/
theorem enterState_deaf {new : HostState} (h : resetAsserted new = true) (stage : Stage) (timer : Option Nat)
    (s : State) : (enterState new stage timer s).cnuListening = false := by
  rw [State.cnuListening, enterState_seen, (deaf_of_resetAsserted h).1, Bool.and_false]

theorem Order.resetAsserted_host (o : Order) : resetAsserted o.host = true := by cases o <;> rfl

/-- Every order takes the host's reset or supply away (R61). -/
theorem perform_lost (o : Order) (s : State) : HostLost s (perform o s) := by
  have hlost := hostLost_of_reach (HostReach.setHps s (o.given s))
    (enterState_lost o.resetAsserted_host o.stage (o.timer s) _)
  have hdeaf := enterState_deaf o.resetAsserted_host o.stage (o.timer s) (s.setHps (o.given s))
  rw [perform_eq]
  cases o with
  | reset => exact hlost
  | cycle off =>
    unfold Order.finish
    dsimp only
    split
    · exact hlost
    · exact hostLost_setHps hlost rfl
  | lockout => exact hostLost_raise _ hlost hdeaf

/-- The HELD requests are discarded by every order but one that leaves HOST_PWR_EN and HOST_RST_N both as they are
(R186). -/
theorem perform_lnk (o : Order) (s : State) : (perform o s).lnk =
    if (!s.hostRstN) || (s.hostPwrEn && !powerEnabled o.host o.stage) then { s.lnk with held := [] } else s.lnk := by
  have hentry := enterState_lnk o.host o.stage (o.timer s) (s.setHps (o.given s))
  have hpins : (s.setHps (o.given s)).hostRstN = s.hostRstN ∧ (s.setHps (o.given s)).hostPwrEn = s.hostPwrEn := by
    simp [State.hostRstN, State.hostPwrEn]
  rw [hpins.1, hpins.2, o.resetAsserted_host, Bool.and_true] at hentry
  rw [perform_eq]
  refine Eq.trans ?_ hentry
  cases o with
  | reset => rfl
  | cycle off =>
    unfold Order.finish
    dsimp only
    split <;> rfl
  | lockout => exact raise_lnk _ _

theorem escalate_lost (reason : Reason) (unit : Option TrigUnit) (s : State) :
    HostLost s (escalate reason unit s) := by
  have hfail := failPending_reach s
  unfold escalate
  dsimp only
  split
  · exact hostLost_of_reach ((writeRecord_reach ..).step ((HostReach.setWeu _ _ (by rfl)).step hfail)) (perform_lost _ _)
  · exact hostLost_of_reach ((writeRecord_reach ..).step hfail) (perform_lost _ _)

/-! ### QUALIFYING entered with the warm-up begun afresh (R54, R56) -/

/-- The warm-up's bookkeeping begun afresh (R54). -/
def clearWarmUp (s : State) : State :=
  s.setHps { s.hps with qualClock := 0, qualMs := 0, warmTimeout := false }

/-- HPS enters QUALIFYING with the warm-up begun afresh (R54). -/
def enterAfresh (s : State) : State := enterState .qualifying .noStage none (clearWarmUp s)

theorem enterQualifying_of_ne {s : State} (h : s.hps.state ≠ .powering) :
    enterQualifying s = testAdmission (enterAfresh s) := by
  unfold enterQualifying startWarmUp enterAfresh clearWarmUp
  rw [if_neg h]
  dsimp only
  rw [if_neg]
  rw [enterState_hps]
  exact Bool.false_ne_true

theorem enterAfresh_hps (s : State) : (enterAfresh s).hps = { s.hps with
    qualClock := 0, qualMs := 0, warmTimeout := false, state := .qualifying, prev := s.hps.state
    stage := .noStage, stageTimer := none, pendingOn := false } := by
  rw [enterAfresh, enterState_hps]
  rfl

theorem enterAfresh_reach (s : State) : HostReach s (enterAfresh s) :=
  (enterState_reach ..).step (.setHps s _)

/-- Admission is tested on the zones and the supply as they were before the entry (R54). -/
theorem admission_enterAfresh (s : State) :
    admission (enterAfresh s) = true ↔ Admissible s.settings s.zmon.zones (s.live .supplyLow) := by
  have htells : HostTells s (enterAfresh s) := (enterState_tells ..).step (.setHps s _)
  rw [admission_iff, (enterAfresh_reach s).kept.settings, (enterAfresh_reach s).kept.zmon,
    htells.live _ (by decide) (by decide)]

/-- Where admission is met a power-on becomes pending (R56). -/
theorem testAdmission_of_met {s : State} (hstate : s.hps.state = .qualifying) (h : admission s = true) :
    testAdmission s = admitHost s := if_pos ⟨hstate, h⟩

theorem testAdmission_of_unmet {s : State} (h : ¬ admission s = true) : testAdmission s = s :=
  if_neg fun hmet => h hmet.2

theorem admitHost_hps (s : State) : (admitHost s).hps = { s.hps with
    state := .powering, prev := s.hps.state, stage := .pending, stageTimer := none, pendingOn := true } := by
  rw [admitHost, enterState_hps, post_hps]
  rfl

theorem testAdmission_lost {s t : State} (h : HostLost s t) : HostLost s (testAdmission t) := by
  unfold testAdmission
  split
  · have hlost := enterState_lost (new := .powering) rfl .pending none (post (event .admission 0 t.hps.qualClock) t)
    exact ⟨outsideKept_trans h.outside (outsideKept_trans (HostReach.post _ t).kept hlost.outside),
      hlost.units.trans ((HostReach.post _ t).units.trans h.units),
      hlost.lock.trans ((HostReach.post _ t).lock.trans h.lock), hlost.phase, hlost.kickTimer, hlost.keys,
      hlost.notices, hlost.rst⟩
  · exact h

theorem enterAfresh_lost (s : State) : HostLost s (enterAfresh s) :=
  hostLost_of_reach (.setHps s _) (enterState_lost rfl .noStage none _)

/-- A test of admission changes no pin: HOST_PWR_EN waits for the boundary (R56, R58). -/
theorem testAdmission_lnk {s : State} : (testAdmission s).lnk = s.lnk := by
  unfold testAdmission
  split
  · rename_i h
    rw [admitHost, enterState_lnk, if_neg, post_lnk]
    simp [State.hostRstN, State.hostPwrEn, h.1, resetAsserted, powerEnabled]
  · rfl

/-- A host that enters QUALIFYING without a warm-up to keep: what becomes of HPS, LNK and what the host has lost. -/
structure Returned (s t : State) : Prop where
  requalified : Requalified s t
  lost : HostLost s t
  en : t.hostPwrEn = false
  deaf : t.cnuListening = false
  frozenAt : t.cpt.frozenAt = s.cpt.frozenAt
  lnk : t.lnk = if !s.hostRstN || s.hostPwrEn then { s.lnk with held := [] } else s.lnk
  others : t.hps = { s.hps with
    qualClock := 0, qualMs := 0, warmTimeout := false, state := t.hps.state, prev := t.hps.prev
    stage := t.hps.stage, stageTimer := t.hps.stageTimer, pendingOn := t.hps.pendingOn }

theorem enterQualifying_returned {s : State} (h : s.hps.state ≠ .powering) : Returned s (enterQualifying s) := by
  have hhps := enterAfresh_hps s
  have hlnk : (enterAfresh s).lnk = if !s.hostRstN || s.hostPwrEn then { s.lnk with held := [] } else s.lnk := by
    rw [enterAfresh, enterState_lnk]
    simp [clearWarmUp, State.hostRstN, State.hostPwrEn, resetAsserted, powerEnabled]
  have hlost := testAdmission_lost (enterAfresh_lost s)
  have hadmission := admission_enterAfresh s
  have hcpt : (enterAfresh s).cpt = { s.cpt with seen := .qualifying } := enterState_cpt _ _ _ _
  rw [← testAdmission_lnk (s := enterAfresh s)] at hlnk
  rw [enterQualifying_of_ne h]
  by_cases hmet : admission (enterAfresh s) = true
  · have hadmitted := admitHost_hps (enterAfresh s)
    rw [testAdmission_of_met (by rw [hhps]) hmet] at hlost hlnk ⊢
    rw [hhps] at hadmitted
    exact ⟨⟨by rw [hadmitted], by rw [hadmitted], fun _ => by rw [hadmitted]; exact ⟨rfl, rfl, rfl, rfl⟩,
      fun hnot => absurd (hadmission.1 hmet) hnot⟩, hlost, by rw [State.hostPwrEn, hadmitted]; rfl,
      enterState_deaf rfl _ _ _, by rw [admitHost, enterState_cpt, post_cpt, hcpt], hlnk, by rw [hadmitted]⟩
  · rw [testAdmission_of_unmet hmet] at hlost hlnk ⊢
    exact ⟨⟨by rw [hhps], by rw [hhps], fun hyes => absurd (hadmission.2 hyes) hmet,
      fun _ => by rw [hhps]; exact ⟨rfl, rfl, rfl⟩⟩, hlost, by rw [State.hostPwrEn, hhps]; rfl,
      enterState_deaf rfl _ _ _, by rw [hcpt], hlnk, by rw [hhps]⟩

end Sys2Proof.Machine

namespace Sys2Proof.Machine
open Sys2Proof.Safety

theorem OrderKept.refl (s : State) : OrderKept s s := ⟨rfl, rfl, rfl, rfl, rfl, rfl⟩

theorem OrderKept.post (e : Event) (s : State) : OrderKept s (post e s) := by
  constructor <;> simp only [post_weu, post_cpt]

theorem testAdmission_orderKept (s : State) : OrderKept s (testAdmission s) := by
  unfold testAdmission
  split
  · exact (OrderKept.post _ s).trans (enterState_orderKept (by decide) _ _ _)
  · exact .refl s

theorem enterAfresh_orderKept (s : State) : OrderKept s (enterAfresh s) :=
  (OrderKept.setHps s _).trans (enterState_orderKept (by decide) _ _ _)

/-- An entry to QUALIFYING posts HOST_STATE(1, old) before what admission posts (R53, R54). -/
theorem enterQualifying_posted (s : State) :
    Posted (event .hostState HostState.qualifying.num s.hps.state.num) s (enterQualifying s) := by
  have hstart : (startWarmUp s).tmx = s.tmx := by
    unfold startWarmUp
    split <;> rfl
  have hentry := enterState_posted .qualifying .noStage none (startWarmUp s)
  rw [startWarmUp_state] at hentry
  refine posted_then (posted_of_inbox (by rw [hstart]) hentry) (Appends.step (testAdmission_appends _) ?_)
  split
  · exact .raise _ _
  · exact .refl _

/-- QUALIFYING entered afresh latches nothing and keeps the live causes, where the state left has none (R54). -/
theorem latchesKept_enterQualifying {s : State} (hstate : s.hps.state ≠ .powering)
    (hlock : s.hps.state ≠ .lockedOut) (hwarm : s.live .warmTimeout = false) :
    LatchesKept [] s (enterQualifying s) := by
  have hclear : LatchesKept [] s (clearWarmUp s) := latchesKept_of_cnu rfl rfl rfl rfl
  have hentry : LatchesKept [] s (enterAfresh s) := latchesKept_trans hclear
    (latchesKept_enterState .qualifying .noStage none (fun _ => hwarm) fun h => absurd h hlock)
  rw [enterQualifying_of_ne hstate]
  refine latchesKept_trans hentry (latchesKept_testAdmission ?_)
  rw [State.live, hentry.live]
  exact hwarm

theorem enterQualifying_appends (s : State) : Appends s (enterQualifying s) := by
  have hstart : Appends s (startWarmUp s) := by
    unfold startWarmUp
    split
    · exact .refl s
    · exact .setHps s _
  have hentry := (Appends.enterState .qualifying .noStage none _).step hstart
  unfold enterQualifying
  refine (testAdmission_appends _).step ?_
  split
  · exact (Appends.raise _ _).step hentry
  · exact hentry

/-! ### The ends of stops (R67, R69, R71) -/

/-- The lead is computed from the settings and the zones alone (R73). -/
theorem computeLead_of_reach {s t : State} (h : HostReach s t) : computeLead t = computeLead s := by
  unfold computeLead
  rw [h.kept.settings, h.kept.zmon]

/-- HPS after the wake has been set up from the stop request (R71). -/
structure WakeSet (s : State) (x : Hps) : Prop where
  state : x.state = s.hps.state
  prev : x.prev = s.hps.prev
  stage : x.stage = s.hps.stage
  preheat : x.preheat = false
  request : x.stopRequest = s.hps.stopRequest
  wake : ∀ q, s.hps.stopRequest = some q → x.wakeOnTrigger = q.wakeOnTrigger ∧
    (q.wakeDelay = 0 → x.wakeAt = none) ∧
    (q.wakeDelay ≠ 0 → x.wakeAt = some (s.time.sec + BitVec.ofNat 32 q.wakeDelay) ∧
      x.lead = computeLead s ∧ x.leadTimer = 60)

theorem setUpWake_sets (s : State) : ∃ x, setUpWake s = s.setHps x ∧ WakeSet s x := by
  unfold setUpWake
  generalize hr : s.hps.stopRequest.getD ⟨true, 0, false⟩ = r
  have hrequest (q : StopRequest) (hq : s.hps.stopRequest = some q) : q = r := by rw [← hr, hq]; rfl
  by_cases hzero : r.wakeDelay = 0
  · simp only [hzero, if_true, State.setHps_hps, Option.isSome_none, Bool.false_eq_true, if_false]
    refine ⟨_, rfl, rfl, rfl, rfl, rfl, rfl, fun q hq => ?_⟩
    obtain rfl := hrequest q hq
    exact ⟨rfl, fun _ => rfl, fun hsome => absurd hzero hsome⟩
  · simp only [hzero, State.setHps_hps, Option.isSome_some, if_true, if_false]
    refine ⟨_, rfl, rfl, rfl, rfl, rfl, rfl, fun q hq => ?_⟩
    obtain rfl := hrequest q hq
    exact ⟨rfl, fun hnone => absurd hnone hzero, fun _ => ⟨rfl, rfl, rfl⟩⟩

theorem endStop_appends (s : State) : Appends s (endStop s) := by
  unfold endStop
  split
  · exact (Appends.enterState ..).step (.setHps s _)
  · exact (enterQualifying_appends _).step (.setHps s _)
  · obtain ⟨x, heq, -⟩ := setUpWake_sets (Machine.enterState .suspended .noStage none s)
    rw [heq]
    exact (Appends.setHps _ x).step (.enterState ..)

/-- A stop ends: with its destination, with LNK's HELD requests discarded, and with the records and the trace as they
were. -/
structure Stopped (s t : State) : Prop where
  ended : StopEnded s t
  deaf : t.cnuListening = false
  frozenAt : t.cpt.frozenAt = s.cpt.frozenAt
  lnk : t.lnk = { s.lnk with held := [] }
  kept : OrderKept s t
  latches : s.live .warmTimeout = false → LatchesKept [] s t

/-- The host is up in RUNNING and STOPPING: its reset is released, and no live cause belongs to its state. -/
theorem left_of_up {s : State} (h : s.hps.state = .running ∨ s.hps.state = .stopping) : s.hostRstN = false ∧
    s.hps.state ≠ .powering ∧ s.hps.state ≠ .lockedOut ∧ s.hps.state ≠ .qualifying := by
  rw [State.hostRstN]
  rcases h with h | h <;> rw [h] <;> decide

theorem clearStop_reach (s : State) : HostReach s (clearStop s) := .setHps s _

theorem stopped_off {s : State} (h : s.hps.state = .running ∨ s.hps.state = .stopping)
    (hdest : s.hps.destination = .off) : Stopped s (enterState .off .noStage none (clearStop s)) := by
  obtain ⟨hrst, -, hlock, hqual⟩ := left_of_up h
  have hclear : LatchesKept [] s (clearStop s) := latchesKept_of_cnu rfl rfl rfl rfl
  refine ⟨⟨hostLost_of_reach (clearStop_reach s) (enterState_lost rfl ..), ?_, ?_⟩,
    enterState_deaf rfl _ _ _, by rw [enterState_cpt]; rfl, ?_,
    (OrderKept.setHps s _).trans (enterState_orderKept (by decide) _ _ _), fun _ => latchesKept_trans hclear
      (latchesKept_enterState _ _ _ (fun hq => absurd hq hqual) fun hl => absurd hl hlock)⟩
  · rw [State.hostPwrEn, enterState_hps]
    rfl
  · rw [hdest, enterState_hps]
    exact ⟨rfl, rfl, rfl, rfl, rfl⟩
  · rw [enterState_lnk, show (clearStop s).hostRstN = false from hrst]
    rfl

theorem stopped_qualifying {s : State} (h : s.hps.state = .running ∨ s.hps.state = .stopping)
    (hdest : s.hps.destination = .qualifying) : Stopped s (enterQualifying (clearStop s)) := by
  obtain ⟨hrst, hpowering, hlock, -⟩ := left_of_up h
  have hclear : LatchesKept [] s (clearStop s) := latchesKept_of_cnu rfl rfl rfl rfl
  have hreturned := enterQualifying_returned (s := clearStop s) hpowering
  have hkept : OrderKept (clearStop s) (enterQualifying (clearStop s)) := by
    rw [enterQualifying_of_ne (s := clearStop s) hpowering]
    exact (enterAfresh_orderKept _).trans (testAdmission_orderKept _)
  refine ⟨⟨hostLost_of_reach (clearStop_reach s) hreturned.lost, hreturned.en, ?_⟩, hreturned.deaf,
    hreturned.frozenAt, ?_,
    (OrderKept.setHps s _).trans hkept, fun hwarm => latchesKept_trans hclear
      (latchesKept_enterQualifying (s := clearStop s) hpowering hlock hwarm)⟩
  · rw [hdest]
    obtain ⟨hclock, htimeout, hmet, hunmet⟩ := hreturned.requalified
    exact ⟨⟨hclock, htimeout, hmet, hunmet⟩, by rw [hreturned.others]; rfl, by rw [hreturned.others]; rfl,
      by rw [hreturned.others]; rfl⟩
  · rw [hreturned.lnk, show (clearStop s).hostRstN = false from hrst]
    rfl

theorem stopped_suspended {s : State} (h : s.hps.state = .running ∨ s.hps.state = .stopping)
    (hdest : s.hps.destination = .suspended) : Stopped s (setUpWake (enterState .suspended .noStage none s)) := by
  obtain ⟨hrst, -, hlock, hqual⟩ := left_of_up h
  have hentry := enterState_reach .suspended .noStage none s
  have hhps := enterState_hps .suspended .noStage none s
  have hlost := enterState_lost (new := .suspended) rfl .noStage none s
  have hlnk := enterState_lnk .suspended .noStage none s
  have hdeaf := enterState_deaf (new := .suspended) rfl .noStage none s
  have hcpt := enterState_cpt .suspended .noStage none s
  have hkept := enterState_orderKept (new := .suspended) (by decide) .noStage none s
  have hlatches := latchesKept_enterState .suspended .noStage none (fun hq => absurd hq hqual) fun hl => absurd hl hlock
  rw [hrst] at hlnk
  generalize enterState .suspended .noStage none s = e at *
  obtain ⟨x, heq, hwake⟩ := setUpWake_sets e
  have hrequest := hwake.request
  have hset := hwake.wake
  rw [hhps] at hrequest
  rw [hhps, hentry.kept.time, computeLead_of_reach hentry] at hset
  rw [heq]
  refine ⟨⟨hostLost_setHps hlost hwake.state, ?_, ?_⟩, hdeaf, by rw [State.setHps_cpt, hcpt], hlnk,
    hkept.trans (.setHps e x), fun _ => latchesKept_trans hlatches (latchesKept_of_cnu rfl rfl rfl rfl)⟩
  · rw [State.hostPwrEn, State.setHps_hps, hwake.state, hwake.stage, hhps]
    rfl
  · rw [hdest]
    exact ⟨by rw [State.setHps_hps, hwake.state, hhps], by rw [State.setHps_hps, hwake.prev, hhps], hwake.preheat,
      hrequest, hset⟩

theorem endStop_stopped {s : State} (h : s.hps.state = .running ∨ s.hps.state = .stopping) :
    Stopped s (endStop s) := by
  unfold endStop
  split
  · exact stopped_off h ‹_›
  · exact stopped_qualifying h ‹_›
  · exact stopped_suspended h ‹_›

end Sys2Proof.Machine

namespace Sys2Proof.Machine
open Sys2Proof.Safety

/-- The stop delay has run out: what STOP_DELAY_EXPIRY and REPLY_SENT ask for (R68, R69). -/
theorem stopDelayOver_iff (s : State) : s.stopDelayOver = true ↔
    (s.hps.state = .running ∨ s.hps.state = .stopping) ∧ s.hps.stage = .stopDelay ∧ s.hps.stageTimer = some 0 ∧
      ∀ r, s.lnk.sending = some r → r.after ≠ .endStop := by
  unfold State.stopDelayOver
  cases h : s.lnk.sending with
  | none => simp [and_assoc]
  | some r => simp [and_assoc]

end Sys2Proof.Machine

namespace Sys2Proof.Proofs
open Sys2Proof.Machine Sys2Proof.Safety

/-- Settles O12, by what waited for the reply's end; a stop with a stop_delay of 0 ends as any stop does. -/
theorem replySentFreesTheSlot : Obligations.ReplySentFreesTheSlot := by
  refine ⟨fun s h => ?_, fun body s h => ?_, fun body s h => ?_, fun body s h => ?_⟩
  · simp only [exec, execReplySent, h]
  · simp only [exec, execReplySent, h, afterReply]
  · simp only [exec, execReplySent, h, afterReply]
    rfl
  · have hexec : exec .replySent s = .next (afterReply .endStop
        ((s.setLnk { s.lnk with sending := none }).setLastSent (frame body))) := by
      simp only [exec, execReplySent, h]
    have hover := stopDelayOver_iff ((s.setLnk { s.lnk with sending := none }).setLastSent (frame body))
    dsimp only
    split
    · rename_i hends
      obtain ⟨hup, hstage, htimer⟩ := hends
      have hstopped := endStop_stopped
        (s := (s.setLnk { s.lnk with sending := none }).setLastSent (frame body)) hup
      refine ⟨_, hexec, ?_⟩
      rw [afterReply, if_pos (hover.2 ⟨hup, hstage, htimer, fun r hr => nomatch hr⟩)]
      exact ⟨hstopped.ended, hstopped.lnk⟩
    · rename_i hnot
      rw [hexec, afterReply, if_neg fun hyes => ?_]
      obtain ⟨hup, hstage, htimer, -⟩ := hover.1 hyes
      exact hnot ⟨hup, hstage, htimer⟩

/-- Settles O33: both expiries end the stop. -/
theorem stopsEndAtTheirDestination : Obligations.StopsEndAtTheirDestination := by
  have hends {s : State} (hup : s.hps.state = .running ∨ s.hps.state = .stopping)
      (hwarm : s.live .warmTimeout = false) : StopEnded s (endStop s) ∧
        (endStop s).lnk = { s.lnk with held := [] } ∧ (endStop s).weu.records = s.weu.records ∧
        LatchesKept [] s (endStop s) := by
    have hstopped := endStop_stopped hup
    exact ⟨hstopped.ended, hstopped.lnk, hstopped.kept.records, hstopped.latches hwarm⟩
  refine ⟨fun s hstate hstage htimer hwarm => ⟨endStop s, ?_, hends (.inr hstate) hwarm⟩,
    fun s hup hstage htimer hsending hwarm => ⟨endStop s, ?_, hends hup hwarm⟩⟩
  · rw [exec, execGraceExpiry, if_pos (stageOver_iff.2 ⟨hstate, hstage, htimer⟩)]
  · rw [exec, execStopDelayExpiry, if_pos ((stopDelayOver_iff s).2 ⟨hup, hstage, htimer, hsending⟩)]

end Sys2Proof.Proofs

namespace Sys2Proof.Machine
open Sys2Proof.Safety

/-! ### Failures of a host that stops (R95) -/

/-- The watchdog's expiry and the fall of the supply write their record in a stop before or after it ends: the
record is of the stop's start, and the position stands (R95). -/
theorem writeRecord_newest (reason : Reason) (unit : Option TrigUnit) (action : RecordAction) (off : Option Nat)
    (outcome : RecordOutcome) (s : State) :
    (writeRecord reason unit action off outcome s).weu.records.getLast? = some
      { reason := reason, trigUnit := unit, step := s.weu.step, attempt := s.weu.attempts
        action := action, offTime := off, time := s.time.sec
        board := s.zoneTemp .n1, front := s.zoneTemp .n0, outcome := outcome
        trace := s.cpt.ring, frozenAt := if s.cpt.frozen then s.cpt.frozenAt else none } :=
  appendRecord_getLast? _ _

@[simp] theorem latchExpiry_weu (s : State) : (latchExpiry s).weu = s.weu := by rw [latchExpiry, post_weu, raise_weu]

/-- What a failure taken in a stop leaves for the record: the same time, zones, trace and ladder position. -/
structure SameBook (s t : State) : Prop where
  time : t.time = s.time
  zmon : t.zmon = s.zmon
  cpt : t.cpt.ring = s.cpt.ring ∧ t.cpt.frozen = s.cpt.frozen ∧ t.cpt.frozenAt = s.cpt.frozenAt
  step : t.weu.step = s.weu.step
  attempts : t.weu.attempts = s.weu.attempts

/-- A failure recorded in a stop: the newest record, with the position as it stands (R95, R109). -/
structure RecordedInStop (reason : Reason) (s t : State) : Prop where
  newest : NewestRecord reason none .none .pending s t
  step : t.weu.step = s.weu.step
  attempts : t.weu.attempts = s.weu.attempts
  reportDue : t.weu.reportDue = true
  ring : t.cpt.ring = []

theorem recordInStop_recorded (reason : Reason) {s u : State} (h : SameBook s u) :
    RecordedInStop reason s (recordInStop reason u) := by
  obtain ⟨htime, hzmon, ⟨hring, hfrozen, hfrozenAt⟩, hstep, hattempts⟩ := h
  have htemp (z : Zone) : u.zoneTemp z = s.zoneTemp z := by rw [State.zoneTemp, hzmon]; rfl
  refine ⟨⟨_, writeRecord_newest _ _ _ _ _ _, rfl, rfl, rfl, rfl, rfl, rfl, rfl, ?_, ?_, ?_, ?_, ?_⟩, hstep, hattempts,
    rfl, rfl⟩
  · exact congrArg Timebase.sec htime
  · exact hring
  · exact ite_congr (congrArg (· = true) hfrozen) (fun _ => hfrozenAt) fun _ => rfl
  · exact htemp .n1
  · exact htemp .n0

/-- A record stays the newest while the list and the position stay. -/
theorem RecordedInStop.then {reason : Reason} {s t u : State} (h : RecordedInStop reason s t) (k : OrderKept t u) :
    RecordedInStop reason s u := by
  obtain ⟨⟨r, hlast, h1, h2, hstep, hattempt, h5, h6, hoff, hrest⟩, hs, ha, hreport, hring⟩ := h
  refine ⟨⟨r, by rw [k.records, hlast], h1, h2, by rw [hstep, k.step], by rw [hattempt, k.attempts], h5, h6, ?_, hrest⟩,
    k.step.trans hs, k.attempts.trans ha, k.reportDue.trans hreport, k.ring.trans hring⟩
  rw [hoff]
  rfl

@[simp] theorem recordInStop_hps (reason : Reason) (s : State) : (recordInStop reason s).hps = s.hps := rfl
@[simp] theorem recordInStop_lnk (reason : Reason) (s : State) : (recordInStop reason s).lnk = s.lnk := rfl
@[simp] theorem recordInStop_cnu (reason : Reason) (s : State) : (recordInStop reason s).cnu = s.cnu := rfl

theorem recordInStop_appends (reason : Reason) (s : State) : Appends s (recordInStop reason s) :=
  (writeRecord_appends ..).step (.setWeu s _)

theorem latchExpiry_posted {k : Nat} {s : State} (h : s.weu.kickTimer = some k) :
    Posted ⟨.watchdog, 0, (min 65535 k : Nat)⟩ s (latchExpiry s) := by
  have harg : ((min 65535 k : Nat) : Int) = min 65535 (k : Int) := by omega
  rw [latchExpiry, h, harg]
  exact posted_of_inbox (t := raise .wdExpired s) (by rw [raise_tmx]) (post_posted _ _)

theorem latchExpiry_latched (s : State) : (latchExpiry s).latched .wdExpired = true :=
  post_latched_mono _ _ (raise_latched_self _ s)

/-- The end of a stop as seen from a state that differs in what it does not speak of. -/
theorem stopEnded_of_reach {s u t : State} (h : HostReach s u) (hhps : u.hps = s.hps)
    (hlow : u.live .supplyLow = s.live .supplyLow) (k : StopEnded u t) : StopEnded s t := by
  obtain ⟨hlost, hen, hdest⟩ := k
  refine ⟨hostLost_of_reach h hlost, hen, ?_⟩
  rw [hhps] at hdest
  rw [h.kept.time, computeLead_of_reach h] at hdest
  have hrequalified (hq : Requalified u t) : Requalified s t := by
    obtain ⟨hclock, htimeout, hmet, hunmet⟩ := hq
    rw [h.kept.settings, h.kept.zmon, hlow] at hmet hunmet
    rw [hhps] at hunmet
    exact ⟨hclock, htimeout, hmet, hunmet⟩
  cases hd : s.hps.destination with
  | off => rw [hd] at hdest; exact hdest
  | qualifying =>
    rw [hd] at hdest
    obtain ⟨hq, hrest⟩ := hdest
    exact ⟨hrequalified hq, hrest⟩
  | suspended => rw [hd] at hdest; exact hdest

/-- What leaves HPS alone once the stop has ended adds nothing to what is said of the stop. -/
theorem stopEnded_of_hps {s t u : State} (h : StopEnded s t) (hlost : HostLost s u) (hhps : u.hps = t.hps) :
    StopEnded s u := by
  obtain ⟨-, hen, hdest⟩ := h
  refine ⟨hlost, by rw [State.hostPwrEn, hhps]; exact hen, ?_⟩
  rw [hhps]
  cases hd : s.hps.destination with
  | off => rw [hd] at hdest; exact hdest
  | qualifying =>
    rw [hd] at hdest
    obtain ⟨⟨hclock, htimeout, hmet, hunmet⟩, hrest⟩ := hdest
    exact ⟨⟨by rw [hhps, hclock], by rw [hhps, htimeout], fun h => by rw [hhps]; exact hmet h,
      fun h => by rw [hhps]; exact hunmet h⟩, hrest⟩
  | suspended => rw [hd] at hdest; exact hdest

theorem stopEnded_recorded {s t : State} (reason : Reason) (h : StopEnded s t) :
    StopEnded s (recordInStop reason t) :=
  stopEnded_of_hps h ⟨outsideKept_trans h.lost.outside (recordInStop_reach reason t).kept, h.lost.units, h.lost.lock,
    h.lost.phase, h.lost.kickTimer, h.lost.keys, h.lost.notices, h.lost.rst⟩ rfl

/-- The watchdog runs out in a stop (R67, R83, R95). -/
theorem kickExpiry_stops {k : Nat} {s : State} (hstate : s.hps.state = .stopping) (htimer : s.weu.kickTimer = some k) :
    let t := endStop (recordInStop .thermalStopWd (latchExpiry s))
    StopEnded s t ∧ RecordedInStop .thermalStopWd s t ∧ t.latched .wdExpired = true ∧
      Posted ⟨.watchdog, 0, (min 65535 k : Nat)⟩ s t ∧ t.lnk = { s.lnk with held := [] } := by
  have hreach := (recordInStop_reach .thermalStopWd _).step (latchExpiry_reach s)
  have hrecorded : RecordedInStop .thermalStopWd s (recordInStop .thermalStopWd (latchExpiry s)) := by
    refine recordInStop_recorded _ ⟨?_, ?_, ⟨?_, ?_, ?_⟩, ?_, ?_⟩ <;> simp [latchExpiry]
  have hposted := posted_then (latchExpiry_posted htimer) (recordInStop_appends .thermalStopWd _)
  have hlatched := (recordInStop_orderly .thermalStopWd _).latched _ (latchExpiry_latched s)
  have hhps : (recordInStop .thermalStopWd (latchExpiry s)).hps = s.hps := by rw [recordInStop_hps, latchExpiry_hps]
  have hlnk : (recordInStop .thermalStopWd (latchExpiry s)).lnk = s.lnk := by
    rw [recordInStop_lnk, latchExpiry, post_lnk, raise_lnk]
  have hlow : (recordInStop .thermalStopWd (latchExpiry s)).live .supplyLow = s.live .supplyLow := by
    rw [State.live, recordInStop_cnu]
    change (latchExpiry s).live .supplyLow = _
    rw [latchExpiry, post_live_cond, raise_live_of_event rfl]
  have hstopped := endStop_stopped (.inr (hhps ▸ hstate))
  exact ⟨stopEnded_of_reach hreach hhps hlow hstopped.ended, hrecorded.then hstopped.kept,
    (endStop_orderly _).latched _ hlatched, posted_then hposted (endStop_appends _), by rw [hstopped.lnk, hlnk]⟩

/-- The supply falls in a stop (R67, R86, R95). -/
theorem fallInStop_stops {s : State} (hstate : s.hps.state = .stopping) :
    StopEnded s (fallInStop s) ∧ RecordedInStop .powerFail s (fallInStop s) ∧
      (fallInStop s).latched .powerFail = true ∧ (fallInStop s).lnk = { s.lnk with held := [] } := by
  have hstopped := endStop_stopped (s := s) (.inr hstate)
  have hreach := endStop_reach s
  refine ⟨stopEnded_recorded _ (stopEnded_of_hps hstopped.ended
    (hostLost_raise _ hstopped.ended.lost hstopped.deaf) (raise_hps _ _)), recordInStop_recorded _ ?_,
    (recordInStop_orderly _ _).latched _ (raise_latched_self _ _), ?_⟩
  · refine ⟨?_, ?_, ⟨?_, ?_, ?_⟩, ?_, ?_⟩
    · rw [raise_time, hreach.kept.time]
    · rw [raise_zmon, hreach.kept.zmon]
    · rw [raise_cpt, hstopped.kept.ring]
    · rw [raise_cpt, hstopped.kept.frozen]
    · rw [raise_cpt, hstopped.frozenAt]
    · rw [raise_weu, hstopped.kept.step]
    · rw [raise_weu, hstopped.kept.attempts]
  · rw [fallInStop, recordInStop_lnk, raise_lnk, hstopped.lnk]

end Sys2Proof.Machine

namespace Sys2Proof.Proofs
open Sys2Proof.Machine Sys2Proof.Safety

/-- Settles O24: the watchdog's failure is recorded before the stop ends, the fall of the supply after it, and the
record shows the same either way. -/
theorem failureWhileStoppingEndsTheStop : Obligations.FailureWhileStoppingEndsTheStop := by
  constructor
  · intro k s hstate hphase htimer hover
    obtain ⟨hstopped, hrecord, hlatched, hposted, hlnk⟩ := kickExpiry_stops hstate htimer
    refine ⟨_, ?_, hstopped, hrecord.newest, hrecord.step, hrecord.attempts, hrecord.reportDue, hrecord.ring, hlatched,
      hposted, hlnk⟩
    rw [exec, execWdExpired, if_pos (by simp [State.kickOver, hphase, htimer, hover]), if_neg (by rw [hstate]; decide),
      if_pos hstate]
  · intro s hstate
    obtain ⟨hstopped, hrecord, hlatched, hlnk⟩ := fallInStop_stops (s := s.setPowerGood false) hstate
    refine ⟨_, ?_, hstopped, hrecord.newest, hrecord.step, hrecord.attempts, hrecord.reportDue, hrecord.ring, hlatched,
      hlnk⟩
    simp only [exec, execHostPwrGoodFall, State.setPowerGood_hps, hstate]

end Sys2Proof.Proofs

namespace Sys2Proof.Machine
open Sys2Proof.Safety

/-! ### A requested restart (R93) -/

/-- RESET and CYCLE latch nothing; LOCKOUT does (R61, R64). -/
theorem latchesKept_perform {o : Order} {s : State} (ho : o ≠ .lockout) (hqual : s.hps.state ≠ .qualifying)
    (hlock : s.hps.state ≠ .lockedOut) : LatchesKept [] s (perform o s) := by
  have hgiven : LatchesKept [] s (s.setHps (o.given s)) := latchesKept_of_cnu rfl rfl rfl rfl
  have hentry := latchesKept_trans hgiven (latchesKept_enterState o.host o.stage (o.timer s)
    (fun h => absurd (o.given_state s ▸ h) hqual) fun h => absurd (o.given_state s ▸ h) hlock)
  rw [perform_eq]
  cases o with
  | reset => exact hentry
  | cycle off =>
    unfold Order.finish
    dsimp only
    split
    · exact hentry
    · exact latchesKept_trans hentry (latchesKept_of_cnu rfl rfl rfl rfl)
  | lockout => exact absurd rfl ho

theorem requestedOrder_eq (c : WatchdogSettings) : requestedOrder c =
    if c.requestedAction = .reset then .reset else .cycle c.requestedOffTime := by
  unfold requestedOrder
  split
  · rename_i h; rw [if_pos h]
  · rename_i h; rw [if_neg (by rw [h]; decide)]

/-- The state in which a requested restart writes its record: its reply is being sent (R93). -/
def requestAnswered (r : Request) (s : State) : State := answer r .ok [] (failPending s)

theorem requestAnswered_kept (r : Request) (s : State) : OutsideKept s (requestAnswered r s) :=
  ⟨rfl, rfl, rfl, rfl, rfl, rfl, rfl, rfl, rfl, rfl, rfl⟩

theorem requestRestart_of_running {r : Request} {s : State} (h : s.hps.state = .running) :
    requestRestart r s = perform (requestedOrder s.settings.watchdog)
      (writeRecord .requested none (requestedOrder s.settings.watchdog).action
        (requestedOrder s.settings.watchdog).offTime? .pending (requestAnswered r s)) :=
  if_pos h

theorem requestRestart_of_not_running {r : Request} {s : State} (h : s.hps.state ≠ .running) :
    requestRestart r s = answer r .refused [] s :=
  if_neg h

/-- A requested restart: recorded at the position as it stands, answered, and its order performed (R61, R90, R93). -/
theorem requestRestart_ordered {r : Request} {s : State} (h : s.hps.state = .running) :
    Ordered .requested none (requestedOrder s.settings.watchdog) .pending (requestAnswered r s) (requestRestart r s) ∧
      HostLost s (requestRestart r s) ∧ LatchesKept [] s (requestRestart r s) ∧
      Posted (event .hostState (requestedOrder s.settings.watchdog).host.num 5) s (requestRestart r s) := by
  rw [requestRestart_of_running h]
  generalize ho : requestedOrder s.settings.watchdog = o
  have hnot : o ≠ .lockout := by
    rw [← ho, requestedOrder_eq]
    split <;> simp
  generalize hu : writeRecord .requested none o.action o.offTime? .pending (requestAnswered r s) = u
  have hhps : u.hps = s.hps := by rw [← hu]; rfl
  have hinbox : s.tmx.inbox = u.tmx.inbox := by rw [← hu]; rfl
  have hkept : OutsideKept s u := by
    rw [← hu]
    exact outsideKept_trans (requestAnswered_kept r s) (writeRecord_reach ..).kept
  have hcnu : u.cnu = s.cnu := by rw [← hu]; rfl
  have hposted := perform_posted o u
  rw [hhps, h] at hposted
  refine ⟨hu ▸ perform_writeRecord_ordered _ _ _ _ _,
    hostLost_of_kept hkept (by rw [← hu]; rfl) (by rw [← hu]; rfl) (perform_lost o u),
    latchesKept_trans (latchesKept_of_cnu (by rw [hcnu]) (by rw [hcnu]) (by rw [hcnu]) (by rw [hcnu])) (latchesKept_perform hnot (by rw [hhps, h]; decide) (by rw [hhps, h]; decide)),
    posted_of_inbox hinbox hposted⟩

end Sys2Proof.Machine

namespace Sys2Proof.Proofs
open Sys2Proof.Machine Sys2Proof.Safety

/-- Settles O22: the record is written and the order performed as in an escalation, with the reply being sent. -/
theorem requestRestart : Obligations.RequestRestart := by
  intro tag s hdue
  have hexec : exec (.requestRestart tag []) s = .next (Machine.requestRestart ⟨0x16, tag, []⟩ (takeHeld s)) :=
    congrArg _ (dispatch_of_due hdue _)
  refine ⟨fun hnot => ?_, fun hrun => ⟨_, hexec, ?_⟩⟩
  · rw [hexec, requestRestart_of_not_running (s := takeHeld s) hnot]
    exact congrArg _ (answerThen_replying (s := s) (by decide) rfl _ _ _)
  · obtain ⟨hordered, hlost, hlatches, hposted⟩ :=
      requestRestart_ordered (r := ⟨0x16, tag, []⟩) (s := takeHeld s) hrun
    have hrst : (requestAnswered ⟨0x16, tag, []⟩ (takeHeld s)).hostRstN = false := by
      change resetAsserted s.hps.state = false
      rw [hrun]
      rfl
    have hperformed := hordered.performed
    have hnewest := hordered.newest
    rw [requestedOrder_eq] at hperformed hnewest hposted
    have haction : (takeHeld s).settings.watchdog.requestedAction = s.settings.watchdog.requestedAction := rfl
    rw [haction] at hperformed hnewest hposted
    refine ⟨hostLost_of_kept (u := takeHeld s) ⟨rfl, rfl, rfl, rfl, rfl, rfl, rfl, rfl, rfl, rfl, rfl⟩ rfl rfl hlost,
      (hordered.pins hrst).2, hordered.step, hordered.attempts, hordered.ring, hordered.recording, hordered.reportDue,
      latchesKept_trans (t := takeHeld s) (latchesKept_of_cnu rfl rfl rfl rfl) hlatches, ?_, ?_⟩
    · refine posted_of_inbox (t := takeHeld s) rfl ?_
      split at hposted
      · rw [if_pos ‹_›]; exact hposted
      · rw [if_neg ‹_›]; exact hposted
    · split at hperformed
      · rw [if_pos ‹_›] at hnewest ⊢
        exact ⟨hperformed, hnewest⟩
      · rw [if_neg ‹_›] at hnewest ⊢
        exact ⟨hperformed, hnewest⟩

end Sys2Proof.Proofs

namespace Sys2Proof.Machine
open Sys2Proof.Safety

/-! ### POWER_FAIL (R59, R60, R86, R89) -/

/-- Every escalation ends in an order, which is no RESET where the failure is a POWER_FAIL (R88, R89). -/
theorem escalate_performs (reason : Reason) (unit : Option TrigUnit) (s : State) :
    ∃ o u, escalate reason unit s = perform o u ∧ u.hps = s.hps ∧ u.lnk = s.lnk ∧
      (reason = .powerFail → o ≠ .reset) := by
  unfold escalate
  dsimp only
  split
  · refine ⟨_, _, rfl, rfl, rfl, ?_⟩
    rintro rfl
    rw [orderAt_eq, if_pos (.inl rfl)]
    simp
  · exact ⟨_, _, rfl, rfl, rfl, fun _ => by decide⟩

/-- CYCLE and LOCKOUT take the supply away, and with it the HELD requests of a host that had it (R52, R186). -/
theorem perform_unpowered {o : Order} {s : State} (ho : o ≠ .reset) :
    (perform o s).hostPwrEn = false ∧ (s.hostPwrEn = true → (perform o s).lnk = { s.lnk with held := [] }) := by
  obtain ⟨-, -, hstate⟩ := perform_performed o s
  rw [perform_lnk, State.hostPwrEn]
  cases o with
  | reset => exact absurd rfl ho
  | cycle off => exact ⟨by rw [hstate.1]; rfl, fun hon => by rw [hon]; exact if_pos (Bool.or_true _)⟩
  | lockout => exact ⟨by rw [hstate.1]; rfl, fun hon => by rw [hon]; exact if_pos (Bool.or_true _)⟩

theorem powerFail_appends (s : State) : Appends s (powerFail s) := (escalate_appends _ _ _).step (.raise _ s)

theorem powerFail_escalated (s : State) : Escalated .powerFail none s (powerFail s) := by
  have h := (escalate_escalated .powerFail none (raise .powerFail s)).1
  unfold powerFail
  generalize escalate .powerFail none (raise .powerFail s) = t at h
  rw [raise_eq] at h
  exact h

/-- A POWER_FAIL of a host that has its supply (R86, R88, R89, R186). -/
structure PowerFailed (s t : State) : Prop where
  lost : HostLost s t
  latched : t.latched .powerFail = true
  en : t.hostPwrEn = false
  lnk : t.lnk = { s.lnk with held := [] }

theorem powerFail_failed {s : State} (h : s.hostPwrEn = true) : PowerFailed s (powerFail s) := by
  obtain ⟨o, u, heq, hhps, hlnk, ho⟩ := escalate_performs .powerFail none (raise .powerFail s)
  obtain ⟨hen, hheld⟩ := perform_unpowered (s := u) (ho rfl)
  refine ⟨hostLost_of_reach (HostReach.raise _ s) (escalate_lost _ _ _),
    (escalate_appends _ _ _).tells.latched _ (raise_latched_self _ s), by rw [powerFail, heq, hen], ?_⟩
  rw [powerFail, heq, hheld (by rw [State.hostPwrEn, hhps, raise_hps]; exact h), hlnk, raise_lnk]

/-- What an escalation reads of the state it is given in. -/
theorem escalated_of_same {reason : Reason} {unit : Option TrigUnit} {s u t : State} (hsettings : u.settings = s.settings)
    (hbook : SameBook s u) (hstate : u.hps.state = s.hps.state) (hgood : u.powerGood = s.powerGood)
    (h : Escalated reason unit u t) : Escalated reason unit s t := by
  obtain ⟨htime, hzmon, ⟨hring, hfrozen, hfrozenAt⟩, hstep, hattempts⟩ := hbook
  have htemp (z : Zone) : u.zoneTemp z = s.zoneTemp z := by rw [State.zoneTemp, hzmon]; rfl
  simpa only [Escalated, Performed, NewestRecord, hsettings, htime, hring, hfrozen, hfrozenAt, hstep, hattempts, hstate,
    hgood, htemp] using h

/-! ### The entry into BOOTING (R59, R62) -/

/-- The host's supply is on and its reset asserted: the timer that leads to BOOTING has run out. -/
structure BootReady (c : Instr) (s : State) : Prop where
  powered : s.hostPwrEn = true
  asserted : s.hostRstN = true
  state : s.hps.state ≠ .qualifying ∧ s.hps.state ≠ .lockedOut
  exec : exec c s = .next (enterBooting s)

theorem bootReady {c : Instr} {s : State} (htimer : s.hps.stageTimer = some 0)
    (h : (c = .resetHoldExpiry ∧ s.hps.state = .powering ∧ s.hps.stage = .resetHold) ∨
      (c = .resettingExpiry ∧ s.hps.state = .resetting ∧ s.hps.stage = .noStage)) : BootReady c s := by
  rcases h with ⟨rfl, hstate, hstage⟩ | ⟨rfl, hstate, hstage⟩
  · refine ⟨by rw [State.hostPwrEn, hstate, hstage]; rfl, by rw [State.hostRstN, hstate]; rfl,
      by rw [hstate]; decide, ?_⟩
    rw [Machine.exec, execResetHoldExpiry, if_pos (stageOver_iff.2 ⟨hstate, hstage, htimer⟩)]
  · refine ⟨by rw [State.hostPwrEn, hstate, hstage]; rfl, by rw [State.hostRstN, hstate]; rfl,
      by rw [hstate]; decide, ?_⟩
    rw [Machine.exec, execResettingExpiry, if_pos (stageOver_iff.2 ⟨hstate, hstage, htimer⟩)]

/-- The reset is released and the supply left on: no request is discarded (R186). -/
theorem enterState_booting_lnk {s : State} (h : s.hostRstN = true) :
    (enterState .booting .noStage none s).lnk = s.lnk := by
  rw [enterState_lnk, h]
  simp [powerEnabled]

theorem enterBooting_of_good {s : State} (h : s.powerGood = true) :
    enterBooting s = enterState .booting .noStage none s := by
  unfold enterBooting
  dsimp only
  rw [if_pos (by rw [(enterState_reach _ _ _ s).kept.powerGood, h])]

theorem enterBooting_of_bad {s : State} (h : s.powerGood = false) :
    enterBooting s = powerFail (enterState .booting .noStage none s) := by
  unfold enterBooting
  dsimp only
  rw [if_neg (by rw [(enterState_reach _ _ _ s).kept.powerGood, h]; decide)]

end Sys2Proof.Machine

namespace Sys2Proof.Proofs
open Sys2Proof.Machine Sys2Proof.Safety

/-- Settles O30, by what the entry into BOOTING makes of each block. -/
theorem powerSequence : Obligations.PowerSequence := by
  refine ⟨fun s => rfl, fun c s hgood htimer hc => ?_⟩
  obtain ⟨-, hrst, ⟨hqual, hlock⟩, hexec⟩ := bootReady htimer hc
  have hreach := enterState_reach .booting .noStage none s
  have hhps := enterState_hps .booting .noStage none s
  refine ⟨_, hexec, ?_⟩
  rw [enterBooting_of_good hgood]
  exact ⟨hhps, by rw [State.hostRstN, hhps]; rfl, by rw [State.hostPwrEn, hhps]; rfl, enterState_weu (by decide) _ _ _,
    enterState_cpt _ _ _ _, enterState_keq _ _ _ _, enterState_seen _ _ _ _,
    (enterState_notices (by decide) (by decide) _ _ _).1,
    latchesKept_enterState _ _ _ (fun h => absurd h hqual) (fun h => absurd h hlock), enterState_posted _ _ _ _,
    hreach.units, enterState_booting_lnk hrst, hreach.kept⟩

/-- Settles O31: a POWER_FAIL is escalated with no order but CYCLE and LOCKOUT; on entry to BOOTING it is escalated in
the state entered. -/
theorem powerFailCycles : Obligations.PowerFailCycles := by
  refine ⟨fun s hstate hstage htimer => ?_, fun s hup => ?_, fun c s hbad htimer hc => ?_⟩
  · have hfailed := powerFail_failed (s := s) (by rw [State.hostPwrEn, hstate, hstage]; rfl)
    refine ⟨powerFail s, ?_, powerFail_escalated s, hfailed.lost, hfailed.latched, hfailed.en, hfailed.lnk⟩
    rw [exec, execPowerGoodTimeout, if_pos (stageOver_iff.2 ⟨hstate, hstage, htimer⟩)]
  · have hfailed := powerFail_failed (s := s.setPowerGood false) (by
      change powerEnabled s.hps.state s.hps.stage = true
      rcases hup with ⟨h, h'⟩ | h | h <;> rw [h]
      · rw [h']; rfl
      · rfl
      · rfl)
    refine ⟨powerFail (s.setPowerGood false), ?_, powerFail_escalated _, hfailed.lost, hfailed.latched, hfailed.en,
      hfailed.lnk⟩
    rcases hup with ⟨h, h'⟩ | h | h
    · simp [exec, execHostPwrGoodFall, h, h']
    · simp [exec, execHostPwrGoodFall, h]
    · simp [exec, execHostPwrGoodFall, h]
  · obtain ⟨hpwr, hrst, -, hexec⟩ := bootReady htimer hc
    have hreach := enterState_reach .booting .noStage none s
    have hhps := enterState_hps .booting .noStage none s
    have hkept := enterState_orderKept (new := .booting) (by decide) .noStage none s
    have hcpt := enterState_cpt .booting .noStage none s
    have hfailed := powerFail_failed (s := enterState .booting .noStage none s) (by rw [State.hostPwrEn, hhps]; rfl)
    rw [enterBooting_of_bad hbad] at hexec
    refine ⟨_, hexec, escalated_of_same hreach.kept.settings ?_ (by rw [hhps]; rfl) hreach.kept.powerGood
      (powerFail_escalated _), hostLost_of_reach hreach hfailed.lost, hfailed.latched, hfailed.en,
      posted_then (enterState_posted .booting .noStage none s) (powerFail_appends _), ?_⟩
    · exact ⟨hreach.kept.time, hreach.kept.zmon, by rw [hcpt]; exact ⟨rfl, rfl, rfl⟩, hkept.step, hkept.attempts⟩
    · rw [hfailed.lnk, enterState_booting_lnk hrst]

end Sys2Proof.Proofs

namespace Sys2Proof.Machine
open Sys2Proof.Safety

/-! ### HPS at the boundary (R58) -/

/-- A host operation that discards no request leaves everything but the host blocks, TMX and CNU. -/
theorem state_of_reach {s t : State} (h : HostReach s t) (hlnk : t.lnk = s.lnk) : t =
    { s with hps := t.hps, weu := t.weu, cpt := t.cpt, keq := t.keq, tmx := t.tmx, cnu := t.cnu } := by
  obtain ⟨⟨h1, h2, h3, h4, h5, h6, h7, h8, h9, h10, h11⟩, -, -, -⟩ := h
  cases s
  cases t
  dsimp only at *
  subst h1 h2 h3 h4 h5 h6 h7 h8 h9 h10 h11 hlnk
  rfl

/-- Whichever of HPS and HSCH takes the boundary first, HPS finds the part as it was but for AFM and HSCH. -/
theorem takeBoundary_hps (first : Bool) (s : State) : ∃ (a : Afm) (x y : Hsch),
    takeBoundary first s = (hpsBoundary ((s.setAfm a).setHsch x)).setHsch y := by
  cases first with
  | true => exact ⟨(afmBoundary s).afm, s.hsch, (hschBoundary (hpsBoundary (afmBoundary s))).hsch, rfl⟩
  | false => exact ⟨(afmBoundary s).afm, (hschBoundary (afmBoundary s)).hsch,
      (hpsBoundary (hschBoundary (afmBoundary s))).hsch, rfl⟩

/-- HPS with its pending power-on asserted (R58, R59). -/
def Hps.powered (h : Hps) (good : Bool) (c : HostPowerSettings) : Hps :=
  { h with
    pendingOn := false
    stage := if good then .resetHold else .waitGood
    stageTimer := some (if good then c.resetPulse else c.powerGoodTimeout) }

theorem hpsBoundary_of_supply {s : State} (hpending : s.hps.pendingOn = true) (hlow : s.live .supplyLow = false) :
    hpsBoundary s = s.setHps (s.hps.powered s.powerGood s.settings.hostPower) := by
  rw [hpsBoundary, if_pos hpending, if_neg (by simp [hlow])]
  cases hgood : s.powerGood <;> rfl

/-- HPS back in QUALIFYING, with the warm-up kept (R54). -/
def backInQualifying (s : State) : State := enterState .qualifying .noStage none s

/-- A host that goes back to QUALIFYING from POWERING while the supply is low waits there: admission is not met (R54,
R55, R57). -/
theorem enterQualifying_of_low {s : State} (hstate : s.hps.state = .powering) (hlow : s.live .supplyLow = true) :
    enterQualifying s =
      if s.hps.warmTimeout then raise .warmTimeout (backInQualifying s) else backInQualifying s := by
  have hwarm : (backInQualifying s).hps.warmTimeout = s.hps.warmTimeout := by rw [backInQualifying, enterState_hps]
  have hentry : (enterState .qualifying .noStage none s).live .supplyLow = true := by
    rw [(enterState_tells _ _ _ s).live _ (by decide) (by decide), hlow]
  unfold enterQualifying startWarmUp
  rw [if_pos hstate]
  change testAdmission (if (backInQualifying s).hps.warmTimeout then _ else _) = _
  rw [hwarm]
  refine testAdmission_of_unmet fun hmet => ?_
  obtain ⟨-, hsupply, -⟩ := (admission_iff _).1 hmet
  split at hsupply
  · rw [raise_live_cond, hentry] at hsupply
    cases hsupply
  · rw [hentry] at hsupply
    cases hsupply

/-- A power-on withdrawn at the boundary (R58). -/
structure Withdrawn (s t : State) : Prop where
  reach : HostReach s t
  lnk : t.lnk = s.lnk
  hps : t.hps = { s.hps with
    state := .qualifying, prev := .powering, stage := .noStage, stageTimer := none, pendingOn := false }
  posted : Posted ⟨.hostState, 1, 2⟩ s t
  warm : t.live .warmTimeout = (s.hps.warmTimeout || s.live .warmTimeout)

theorem hpsBoundary_of_low {s : State} (hstate : s.hps.state = .powering) (hstage : s.hps.stage = .pending)
    (hpending : s.hps.pendingOn = true) (hlow : s.live .supplyLow = true) : Withdrawn s (hpsBoundary s) := by
  have hreach := hpsBoundary_reach s
  have heq : hpsBoundary s = enterQualifying s := by rw [hpsBoundary, if_pos hpending, if_pos hlow]
  have hposted := enterQualifying_posted s
  rw [hstate] at hposted
  have hlive : (backInQualifying s).live .warmTimeout = s.live .warmTimeout := by
    rw [backInQualifying, enterState_live, leaveCauses_live, hstate]
    simp
  have hlnk : (backInQualifying s).lnk = s.lnk := by
    rw [backInQualifying, enterState_lnk, State.hostRstN, State.hostPwrEn, hstate, hstage]
    rfl
  have hhps : (backInQualifying s).hps = { s.hps with
      state := .qualifying, prev := .powering, stage := .noStage, stageTimer := none, pendingOn := false } := by
    rw [backInQualifying, enterState_hps, hstate]
    rfl
  rw [heq] at hreach ⊢
  refine ⟨hreach, ?_, ?_, hposted, ?_⟩ <;> rw [enterQualifying_of_low hstate hlow] <;> split
  · rw [raise_lnk, hlnk]
  · exact hlnk
  · rw [raise_hps, hhps]
  · exact hhps
  · rename_i hwarm
    rw [raise_live_cond, hlive, hwarm]
    simp [Cond.isLive]
  · rename_i hwarm
    rw [hlive, Bool.eq_false_iff.2 hwarm, Bool.false_or]

end Sys2Proof.Machine

namespace Sys2Proof.Proofs
open Sys2Proof.Machine Sys2Proof.Safety

/-- Settles O29: HPS finds the part as it was but for AFM and HSCH, and asserts the power-on or withdraws it. -/
theorem boundaryPowersTheHost : Obligations.BoundaryPowersTheHost := by
  intro first s hhold hdue hstate hstage hpending
  obtain ⟨a, x, y, heq⟩ := takeBoundary_hps first s
  refine ⟨takeBoundary first s, by simp [exec, execClimateBoundary, hhold, hdue], ?_⟩
  rw [heq]
  generalize hu : (s.setAfm a).setHsch x = u
  have huhps : u.hps = s.hps := by rw [← hu]; rfl
  have hlive (c : Cond) : u.live c = s.live c := by rw [← hu]; rfl
  by_cases hlow : s.live .supplyLow = true
  · obtain ⟨hreach, hlnk, hhps, hposted, hwarm⟩ := hpsBoundary_of_low (s := u) (by rw [huhps, hstate])
      (by rw [huhps, hstage]) (by rw [huhps, hpending]) (by rw [hlive, hlow])
    generalize hpsBoundary u = v at *
    refine ⟨?_, fun hnot => ?_, fun _ => ⟨by rw [State.setHsch_hps, hhps, huhps], ?_, ?_, ?_⟩⟩
    · have hv := state_of_reach hreach hlnk
      have hafm : (v.setHsch y).afm = a := by rw [State.setHsch_afm, hreach.kept.afm, ← hu]; rfl
      rw [hafm]
      conv_lhs => rw [hv, ← hu]
      rfl
    · rw [hlow] at hnot
      cases hnot
    · rw [State.hostPwrEn, State.setHsch_hps, hhps]
      rfl
    · exact posted_of_inbox (t := u) (by rw [← hu]; rfl) hposted
    · rw [huhps, hlive] at hwarm
      exact hwarm
  · have hsupply := hpsBoundary_of_supply (s := u) (by rw [huhps, hpending])
      (by rw [hlive]; exact Bool.eq_false_iff.2 hlow)
    rw [hsupply, ← hu]
    refine ⟨rfl, fun _ => ⟨rfl, ?_, rfl, rfl, rfl, rfl, rfl⟩, fun h => absurd h hlow⟩
    change powerEnabled s.hps.state (if s.powerGood then Stage.resetHold else .waitGood) = true
    rw [hstate]
    split <;> rfl

end Sys2Proof.Proofs

namespace Sys2Proof.Machine
open Sys2Proof.Safety

/-! ### Returns to QUALIFYING by time (R63, R64, R71) -/

theorem enterQualifying_orderKept {s : State} (h : s.hps.state ≠ .powering) : OrderKept s (enterQualifying s) := by
  rw [enterQualifying_of_ne h]
  exact (enterAfresh_orderKept s).trans (testAdmission_orderKept _)

theorem enterQualifying_latched {c : Cond} (hc : c ≠ .eventsLost) {s : State} (h : s.hps.state ≠ .powering) :
    (enterQualifying s).latched c = s.latched c := by
  rw [enterQualifying_of_ne h, testAdmission_latched hc, enterAfresh, enterState_latched hc]
  rfl

/-- What a return of a host without supply leaves and brings (R54, R56). -/
structure CameBack (s t : State) : Prop where
  requalified : Requalified s t
  outside : OutsideKept s t
  lnk : t.lnk = s.lnk
  units : t.tmx.units = s.tmx.units
  kept : OrderKept s t

/-- A host that was OFF, CYCLING, SUSPENDED or LOCKED_OUT has neither reset released nor supply (R52). -/
theorem enterQualifying_cameBack {s : State} (hstate : s.hps.state ≠ .powering) (hrst : s.hostRstN = true)
    (hpwr : s.hostPwrEn = false) : CameBack s (enterQualifying s) := by
  have hreturned := enterQualifying_returned hstate
  have hlnk := hreturned.lnk
  rw [hrst, hpwr] at hlnk
  exact ⟨hreturned.requalified, hreturned.lost.outside, hlnk, hreturned.lost.units, enterQualifying_orderKept hstate⟩

/-- The host comes back the same whatever else HPS and WEU held before. -/
theorem cameBack_of {s u t : State} (hreach : HostReach s u) (hlnk : u.lnk = s.lnk) (hstate : u.hps.state = s.hps.state)
    (hlow : u.live .supplyLow = s.live .supplyLow) (h : CameBack u t) : Requalified s t ∧ OutsideKept s t ∧
      t.lnk = s.lnk ∧ t.tmx.units = s.tmx.units := by
  obtain ⟨⟨hclock, htimeout, hmet, hunmet⟩, houtside, hl, hunits, -⟩ := h
  rw [hreach.kept.settings, hreach.kept.zmon, hlow] at hmet hunmet
  rw [hstate] at hunmet
  exact ⟨⟨hclock, htimeout, hmet, hunmet⟩, outsideKept_trans hreach.kept houtside, hl.trans hlnk,
    hunits.trans hreach.units⟩

/-- HPS and WEU as they leave LOCKED_OUT (R64). -/
def unlocked (s : State) : State :=
  (resetLadder s).setHps { s.hps with retryTimer := none, retryMs := 0 }

theorem releaseLockout_eq (s : State) : releaseLockout s = enterQualifying (unlocked s) := rfl

/-- HPS as it leaves SUSPENDED (R71, R73). -/
def woken (s : State) : State :=
  s.setHps { s.hps with
    wakeAt := none, wakeOnTrigger := false, preheat := false
    stopCause := .none, stopRequest := none, leadTimer := 0, leadMs := 0 }

theorem wake_eq (s : State) : wake s = enterQualifying (woken s) := rfl

end Sys2Proof.Machine

namespace Sys2Proof.Proofs
open Sys2Proof.Machine Sys2Proof.Safety

/-- Settles O32, by the entry to QUALIFYING of a host without supply. -/
theorem timedReturns : Obligations.TimedReturns := by
  refine ⟨fun s hstate hstage => ⟨fun htimer => ?_, ?_⟩, fun s hstate hstage htimer hwarm => ?_,
    fun s hstate hretry => ?_, fun at_ s hstate hwake hnow hwarm => ?_⟩
  · rw [exec, execDrainTimeout, if_pos (stageOver_iff.2 ⟨hstate, hstage, htimer⟩)]
    rfl
  · have hexec : exec .hostPwrGoodFall s = .next (toOffTime (s.setPowerGood false)) := by
      simp only [exec, execHostPwrGoodFall, State.setPowerGood_hps, hstate, hstage, if_true]
    rw [hexec]
    rfl
  · have hpowering : s.hps.state ≠ .powering := by rw [hstate]; decide
    obtain ⟨hrequalified, houtside, hlnk, hunits, hkept⟩ := enterQualifying_cameBack hpowering
      (by rw [State.hostRstN, hstate]; rfl) (by rw [State.hostPwrEn, hstate]; rfl)
    have hposted := enterQualifying_posted s
    rw [hstate] at hposted
    refine ⟨enterQualifying s, ?_, hrequalified, houtside, hlnk, hunits, hkept.step, hkept.attempts, hkept.ring,
      latchesKept_enterQualifying hpowering (by rw [hstate]; decide) hwarm, hposted⟩
    rw [exec, execOffTimeExpiry, if_pos (stageOver_iff.2 ⟨hstate, hstage, htimer⟩)]
  · have hlocked : (unlocked s).hps.state = .lockedOut := hstate
    have hpowering : (unlocked s).hps.state ≠ .powering := by rw [hlocked]; decide
    have hback := enterQualifying_cameBack hpowering (by rw [State.hostRstN, hlocked]; rfl)
      (by rw [State.hostPwrEn, hlocked]; rfl)
    obtain ⟨hrequalified, houtside, hlnk, hunits⟩ := cameBack_of (s := s) (u := unlocked s)
      ((HostReach.setHps _ _).step (resetLadder_reach s)) rfl rfl rfl hback
    have hothers := (enterQualifying_returned hpowering).others
    have hposted := enterQualifying_posted (unlocked s)
    rw [hlocked] at hposted
    refine ⟨enterQualifying (unlocked s), ?_, hrequalified, houtside, hlnk, hunits, hback.kept.step,
      hback.kept.attempts, by rw [hothers]; rfl, enterQualifying_live_lockout hlocked,
      enterQualifying_latched (by decide) hpowering, posted_of_inbox (t := unlocked s) rfl hposted⟩
    rw [exec, execLockoutRetryExpiry, if_pos ⟨hstate, hretry⟩, releaseLockout_eq]
  · have hsuspended : (woken s).hps.state = .suspended := hstate
    have hpowering : (woken s).hps.state ≠ .powering := by rw [hsuspended]; decide
    have hback := enterQualifying_cameBack hpowering (by rw [State.hostRstN, hsuspended]; rfl)
      (by rw [State.hostPwrEn, hsuspended]; rfl)
    obtain ⟨hrequalified, houtside, hlnk, hunits⟩ := cameBack_of (s := s) (u := woken s)
      (HostReach.setHps s _) rfl rfl rfl hback
    have hothers := (enterQualifying_returned hpowering).others
    have hposted := enterQualifying_posted (woken s)
    rw [hsuspended] at hposted
    refine ⟨enterQualifying (woken s), ?_, hrequalified, houtside, hlnk, hunits, hback.kept.step,
      hback.kept.attempts, by rw [hothers]; rfl, by rw [hothers]; rfl, by rw [hothers]; rfl, by rw [hothers]; rfl,
      by rw [hothers]; rfl, latchesKept_trans (t := woken s) (latchesKept_of_cnu rfl rfl rfl rfl)
        (latchesKept_enterQualifying hpowering (by rw [hsuspended]; decide) hwarm),
      posted_of_inbox (t := woken s) rfl hposted⟩
    have hdue : s.toWake = some 0 := by simp [State.toWake, hstate, hwake, hnow]
    rw [exec, execWakeTime, if_pos hdue, wake_eq]

end Sys2Proof.Proofs

namespace Sys2Proof.Machine
open Sys2Proof.Safety

/-! ### REQUEST_STOP (R68, R69) -/

theorem stopGate_eq (st : HostState) (stage : Stage) : stopGate st stage =
    if st ≠ .running ∧ st ≠ .stopping then .refused else if stage = .stopDelay then .busy else .taken := by
  cases st <;> simp [stopGate]

theorem flag_toNat (b : Byte) : (b.toNat == 1) = decide (b = 1) := by
  rw [Bool.eq_iff_iff, beq_iff_eq, decide_eq_true_eq]
  exact ⟨fun h => BitVec.eq_of_toNat_eq h, fun h => by rw [h]; rfl⟩

/-! ### The policy groups (R75, R98 to R100) -/

theorem watchdogOf_length {fs : List Int} {c : WatchdogSettings} (h : watchdogOf fs = some c) :
    fs.length = 7 := by
  unfold watchdogOf at h
  split at h
  · rfl
  · cases h

theorem ladderOf_length {fs : List Int} {c : LadderSettings} (h : ladderOf fs = some c) : fs.length = 13 := by
  unfold ladderOf at h
  split at h
  · rfl
  · cases h

theorem hostPowerOf_length {fs : List Int} {c : HostPowerSettings} (h : hostPowerOf fs = some c) : fs.length = 10 := by
  unfold hostPowerOf at h
  split at h
  · rfl
  · cases h

/-- A policy group whose length is right answers LOCKED before its values are looked at (R98, R188). -/
theorem writeGroup_locked {g : Nat} {write : Nat → List Int → State → Option State} {tag gb ib : Byte}
    {rest : List Byte} {old : List Int} {s : State} (hgb : gb.toNat = g)
    (hold : s.settings.group g ib.toNat = some old) (hlen : rest.length = 4 * old.length)
    (hpolicy : policyGroup g = true) (hlock : s.weu.policyLock = true) :
    writeGroup g write .nothing (writeRequest tag (gb :: ib :: rest)) (takeHeld s) =
      s.setLnk (replying s 0x20 tag .locked [] .nothing) := by
  have hold' : (takeHeld s).settings.group g ib.toNat = some old := hold
  have hlock' : (takeHeld s).weu.policyLock = true := hlock
  unfold writeGroup writeRequest
  simp only [hgb, hold', hlen, ne_eq, not_true_eq_false, or_self, if_false, hpolicy, hlock', Bool.and_self, if_true]
  exact answerThen_replying (s := s) (by decide) rfl _ _ _

end Sys2Proof.Machine

namespace Sys2Proof.Proofs
open Sys2Proof.Machine Sys2Proof.Safety

/-- Settles O34, by the gate of the host state, then the payload. -/
theorem requestStop : Obligations.RequestStop := by
  intro tag mode d3 d2 d1 d0 flag s hdue
  have hkind : (0x15 : Byte).toNat < 0x80 := by decide
  refine congrArg _ ((dispatch_of_due hdue (Machine.requestStop _)).trans ?_)
  have hanswer (after : AfterReply) (st : Status) (p : List Byte) (u : State) (hu : u.lnk = (takeHeld s).lnk) :=
    answerThen_replying (tag := tag) (p := [mode, d3, d2, d1, d0, flag]) hkind hu after st p
  have hgate := stopGate_eq s.hps.state s.hps.stage
  unfold Machine.requestStop
  change (match stopGate s.hps.state s.hps.stage with | .busy => _ | .refused => _ | .taken => _) = _
  by_cases hdown : s.hps.state ≠ .running ∧ s.hps.state ≠ .stopping
  · rw [hgate, if_pos hdown, if_pos hdown]
    exact hanswer _ _ _ _ rfl
  · rw [hgate, if_neg hdown, if_neg hdown]
    by_cases hdelay : s.hps.stage = .stopDelay
    · rw [if_pos hdelay, if_pos hdelay]
      exact hanswer _ _ _ _ rfl
    · rw [if_neg hdelay, if_neg hdelay]
      dsimp only
      split
      · exact hanswer _ _ _ _ rfl
      · refine (hanswer _ _ _ (beginStopDelay _ (takeHeld s)) rfl).trans ?_
        rw [beginStopDelay, modeDestination, stopAfter, flag_toNat, flag_toNat]
        simp only [decide_eq_true_eq]
        rfl

/-- Settles O37, by the owner's equation of each group; the lock is tested before the values. -/
theorem policySettingsAndLock : Obligations.PolicySettingsAndLock := by
  refine ⟨fun tag fs c s hw hc hlock hdue => ?_, fun tag fs c s hw hc hlock hdue => ?_,
    fun tag fs c s hw hc hlock hdue => ?_, fun tag s hdue => ?_, fun g n row tag rest s hrow hlock hlen hdue => ?_⟩
  · refine (write_of_due hdue rfl (by decide)).trans (congrArg _ ?_)
    refine (writeGroup_taken (g := 5) (t := takeWatchdog c (takeHeld s)) (old := s.settings.watchdog.fields)
      rfl rfl hw rfl (watchdogOf_length hc) ?_ ?_ rfl rfl).trans rfl
    · rw [hlock]; rfl
    · simp [writeWatchdogFields, hc]
  · refine (write_of_due hdue rfl (by decide)).trans (congrArg _ ?_)
    refine (writeGroup_taken (g := 6) (t := takeLadder c (takeHeld s)) (old := s.settings.ladder.fields)
      rfl rfl hw rfl (ladderOf_length hc) ?_ ?_ rfl rfl).trans ?_
    · rw [hlock]; rfl
    · simp [writeLadderFields, hc]
    · unfold takeLadder
      rw [adjustPosition_eq]
      rfl
  · refine (write_of_due hdue rfl (by decide)).trans (congrArg _ ?_)
    refine (writeGroup_taken (g := 7) (t := takeHostPower c (takeHeld s)) (old := s.settings.hostPower.fields)
      rfl rfl hw rfl (hostPowerOf_length hc) ?_ ?_ rfl rfl).trans rfl
    · rw [hlock]; rfl
    · simp [writeHostPowerFields, hc]
  · have hkind : (0x17 : Byte).toNat < 0x80 := by decide
    refine congrArg _ ((dispatch_of_due hdue _).trans ?_)
    rw [ofLength, if_pos List.length_nil]
    exact answerThen_replying (s := s) (t := (takeHeld s).setWeu { s.weu with policyLock := true }) hkind rfl _ _ _
  · have hgroups : policyGroup 5 = true ∧ policyGroup 6 = true ∧ policyGroup 7 = true := by decide
    simp only [List.mem_cons, Prod.mk.injEq, List.not_mem_nil, or_false] at hrow
    rcases hrow with ⟨rfl, rfl, rfl⟩ | ⟨rfl, rfl, rfl⟩ | ⟨rfl, rfl, rfl⟩
    · exact (write_of_due hdue rfl (by decide)).trans
        (congrArg _ (writeGroup_locked rfl rfl hlen hgroups.1 hlock))
    · exact (write_of_due hdue rfl (by decide)).trans
        (congrArg _ (writeGroup_locked rfl rfl hlen hgroups.2.1 hlock))
    · exact (write_of_due hdue rfl (by decide)).trans
        (congrArg _ (writeGroup_locked rfl rfl hlen hgroups.2.2 hlock))

end Sys2Proof.Proofs

namespace Sys2Proof.Machine
open Sys2Proof.Safety

/-! ### Warm timeout, lead, preheat and stable time (R57, R73, R74, R91) -/

/-- The lead of a zone is R73's, whole numbers or signed. -/
theorem zoneLead_eq (c : ZoneSettings) (blindSoak : Nat) (z : ZoneRec) :
    zoneLead c blindSoak z = leadOfZone c blindSoak z := by
  unfold zoneLead leadOfZone ZoneRec.temp
  cases z.valid with
  | false => rfl
  | true =>
    cases z.filtered with
    | none => rfl
    | some t =>
      have hmax : max 0 (c.admitLow - t) = ((c.admitLow - t).toNat : Int) := by omega
      simp only [if_true, hmax]
      generalize (c.admitLow - t).toNat = n
      have hcast : ((n : Int) * (c.leadRate : Int) / 10).toNat = n * c.leadRate / 10 := by norm_cast
      rw [hcast]
      by_cases hn : n = 0
      · simp [hn]
      · rw [if_neg hn, if_pos (by omega)]

/-- A zone that does not gate counts as a lead of 0 (R73). -/
theorem foldl_max_filter (gating : Zone → Bool) (lead : Zone → Nat) (zs : List Zone) (a : Nat) :
    ((zs.filter gating).map lead).foldl max a = (zs.map fun z => if gating z then lead z else 0).foldl max a := by
  induction zs generalizing a with
  | nil => rfl
  | cons z zs ih =>
    cases h : gating z with
    | true => simp [h, ih]
    | false => simp [h, ih]

theorem computeLead_eq (s : State) : computeLead s = leadOf s := by
  unfold computeLead leadOf
  dsimp only
  rw [foldl_max_filter]
  simp only [zoneLead_eq, Four.all, List.map_cons, List.map_nil, List.foldl_cons, List.foldl_nil, Nat.zero_max,
    max_assoc]

/-- WARM_TIMEOUT as R57 reports it. -/
def warmTold (s : State) : State :=
  post (event .admission 1 s.hps.qualClock) (raise .warmTimeout (s.setHps { s.hps with warmTimeout := true }))

theorem warmTold_eq (s : State) : warmTold s =
    { s with hps := (warmTold s).hps, cnu := (warmTold s).cnu, tmx := (warmTold s).tmx } := by
  unfold warmTold
  rw [post_eq, raise_eq]
  rfl

theorem closeNewest_recovered (rs : List RestartRecord) : closeNewest .recovered rs =
    match rs.getLast? with
    | some r => if r.outcome = .pending then rs.dropLast ++ [{ r with outcome := .recovered }] else rs
    | none => [] := by
  unfold closeNewest
  cases h : rs.getLast? with
  | some r => rfl
  | none => exact List.getLast?_eq_none_iff.1 h

end Sys2Proof.Machine

namespace Sys2Proof.Proofs
open Sys2Proof.Machine Sys2Proof.Safety

/-- Settles O35: each command finds its timer where it is due; the lead is R73's, zone by zone. -/
theorem warmTimeoutPreheatAndStableTime : Obligations.WarmTimeoutPreheatAndStableTime := by
  refine ⟨fun s hstate hwarm hms hlimit => ?_, fun at_ s hstate hwake => ⟨fun htimer => ?_, fun hpre hms hleft => ?_⟩,
    fun sec s hstable hlimit => ?_⟩
  · refine ⟨warmTold s, ?_, ?_, post_latched_mono _ _ (raise_latched_self _ _), ?_, ?_, warmTold_eq s, ?_⟩
    · rw [exec, execWarmTimeout, if_pos (by simp [State.warmOver, hstate, hwarm, hms, hlimit])]
      rfl
    · rw [warmTold, post_hps, raise_hps]
      rfl
    · rw [warmTold, post_live_cond, raise_live_cond]
      simp [Cond.isLive]
    · exact posted_of_inbox (t := raise .warmTimeout (s.setHps _)) (by rw [raise_tmx]; rfl) (post_posted _ _)
    · rw [warmTold, post_units, raise_tmx]
      rfl
  · have hsome : s.toWake.isSome = true := by simp [State.toWake, hstate, hwake]
    rw [exec, execLeadComputation, if_pos ⟨hsome, htimer⟩, computeLead_eq, Config.leadPeriod]
  · have hdue : s.preheatDue = true := by simp [State.preheatDue, State.toWake, hstate, hwake, hpre, hms, hleft]
    rw [exec, execPreheatBegin, if_pos hdue]
  · have hover : s.stableOver = true := by simp [State.stableOver, hstable, hlimit]
    refine ⟨resetLadder (s.setWeu { s.weu with
      records := closeNewest .recovered s.weu.records, stable := .done }), ?_, rfl, closeNewest_recovered _⟩
    rw [exec, execStableTime, if_pos hover]

end Sys2Proof.Proofs

namespace Sys2Proof.Machine
open Sys2Proof.Safety

/-! ### The entry into RUNNING (R79, R96) -/

theorem restartReport_weu (s : State) : (restartReport s).weu = { s.weu with reportDue := false } := by
  rw [restartReport_eq]
  rfl

theorem entering_weu (new : HostState) (stage : Stage) (timer : Option Nat) (s : State) :
    (entering new stage timer s).weu = s.weu := by
  rw [entering, leaveCauses_eq]
  rfl

theorem entering_settings (new : HostState) (stage : Stage) (timer : Option Nat) (s : State) :
    (entering new stage timer s).settings = s.settings := by
  rw [entering, leaveCauses_eq]
  rfl

theorem entering_reach (new : HostState) (stage : Stage) (timer : Option Nat) (s : State) :
    HostReach s (entering new stage timer s) := by
  refine (leaveCauses_reach _ _ _).step ⟨⟨rfl, rfl, rfl, rfl, rfl, rfl, rfl, rfl, rfl, rfl, rfl⟩, ?_, rfl, rfl⟩
  unfold LinkKept
  dsimp only [State.setLnk_lnk]
  split <;> rfl

/-- WEU after an entry into RUNNING: its timers begin, and a due restart report has been given (R79, R96). -/
theorem enterState_running_weu (stage : Stage) (timer : Option Nat) (s : State) :
    (enterState .running stage timer s).weu =
      { weuOnEntry .running s.hps.state s.settings.watchdog s.weu with reportDue := false } := by
  rw [enterState_eq]
  unfold reportEntry
  simp only [if_true, State.setCnu_weu, State.setKeq_weu, State.setCpt_weu, restartReport_weu, State.setWeu_weu,
    post_weu, post_settings, entering_weu, entering_settings]

/-- The notices once a due restart report has been queued for a host that listens (R96, R174). -/
theorem restartReport_notices {s : State} (h : s.cnuListening = true) : (restartReport s).cnu.notices =
    match s.weu.records.getLast? with
    | some r => if s.weu.reportDue then
        (queueNotice s.cnu.notices ⟨s.time.sec, .restartReport r.reason r.step r.action⟩).1 else s.cnu.notices
    | none => s.cnu.notices := by
  have hlistens (x : Weu) : (s.setWeu x).cnuListening = true := h
  unfold restartReport
  cases hdue : s.weu.reportDue with
  | true =>
    cases hlast : s.weu.records.getLast? with
    | none => simp
    | some r => simp [notify, hlistens]
  | false => cases hlast : s.weu.records.getLast? <;> simp

theorem enterState_running_notices (stage : Stage) (timer : Option Nat) {s : State}
    (hroom : s.tmx.inbox.length < Config.inboxSize) (hlistens : s.cnuListening = true) :
    (enterState .running stage timer s).cnu.notices =
      match s.weu.records.getLast? with
      | some r => if s.weu.reportDue then
          (queueNotice s.cnu.notices ⟨s.time.sec, .restartReport r.reason r.step r.action⟩).1 else s.cnu.notices
      | none => s.cnu.notices := by
  have hentry : (enterState .running stage timer s).cnu.notices =
      (restartReport ((post (event .hostState HostState.running.num s.hps.state.num)
        (entering .running stage timer s)).setWeu
          (weuOnEntry .running s.hps.state s.settings.watchdog s.weu))).cnu.notices := by
    rw [enterState_eq]
    unfold reportEntry
    simp only [if_true, true_or, State.setCnu_cnu, State.setKeq_cnu, State.setCpt_cnu, post_weu, post_settings,
      entering_weu, entering_settings]
  have hreach := (HostReach.post (event .hostState HostState.running.num s.hps.state.num) _).step
    (entering_reach .running stage timer s)
  have hcnu : (post (event .hostState HostState.running.num s.hps.state.num)
      (entering .running stage timer s)).cnu = (entering .running stage timer s).cnu := by
    rw [post_of_room _ _ (by rw [entering_tmx]; exact hroom)]
    rfl
  rw [entering_cnu] at hcnu
  generalize post _ (entering .running stage timer s) = v at hentry hreach hcnu
  have hears (w : Weu) : (v.setWeu w).cnuListening = true := by
    change (!v.hold && v.cnu.seen.listening) = true
    rw [hreach.kept.hold, hcnu]
    exact hlistens
  obtain ⟨-, -, hrecords, hdue⟩ := weuOnEntry_records .running s.hps.state s.settings.watchdog s.weu
  rw [hentry, restartReport_notices (hears _), State.setWeu_weu, State.setWeu_cnu, State.setWeu_time, hrecords, hdue,
    hcnu, hreach.kept.time]

/-! ### A kick's code (R104, R106) -/

theorem handCode_handed (code : Option Word16) (s : State) :
    CodeHanded code s (handCode code s).1 ∧ (handCode code s).1.cpt.seen = s.cpt.seen := by
  unfold handCode CodeHanded
  cases code with
  | none => exact ⟨⟨rfl, rfl, rfl, rfl⟩, rfl⟩
  | some c =>
    dsimp only
    split
    · exact ⟨⟨rfl, rfl, rfl, rfl⟩, rfl⟩
    · rw [takeCode]
      dsimp only
      rw [post_cpt]
      exact ⟨⟨rfl, rfl, rfl, rfl⟩, rfl⟩

theorem handCode_appends (code : Option Word16) (s : State) : Appends s (handCode code s).1 := by
  unfold handCode
  split
  · exact .refl s
  · split
    · exact .refl s
    · exact (Appends.post _ _).step (.setCpt s _)

theorem latchesKept_takeCode (c : Word16) (s : State) : LatchesKept [] s (takeCode c s).1 := by
  unfold takeCode
  dsimp only
  generalize hv : s.setCpt _ = v
  have hcnu : v.cnu = s.cnu := by rw [← hv]; rfl
  have hset : LatchesKept [] s v := latchesKept_of_cnu (by rw [hcnu]) (by rw [hcnu]) (by rw [hcnu]) (by rw [hcnu])
  exact latchesKept_trans hset (latchesKept_post _ v)

theorem latchesKept_handCode (code : Option Word16) (s : State) : LatchesKept [] s (handCode code s).1 := by
  unfold handCode
  split
  · exact latchesKept_refl s
  · split
    · exact latchesKept_refl s
    · exact latchesKept_takeCode _ s

theorem takeCode_notices (c : Word16) {s : State} (hroom : s.tmx.inbox.length < Config.inboxSize) :
    (takeCode c s).1.cnu.notices = s.cnu.notices := by
  unfold takeCode
  dsimp only
  generalize hv : s.setCpt _ = v
  have htmx : v.tmx = s.tmx := by rw [← hv]; rfl
  have hcnu : v.cnu = s.cnu := by rw [← hv]; rfl
  rw [post_of_room _ v (by rwa [htmx]), State.setTmx_cnu, hcnu]

/-- What a kick's code leaves as it is: all but CPT's trace, the inbox and, where that is full, CNU (R104, R106). -/
structure CodeKept (s t : State) : Prop where
  weu : t.weu = s.weu
  keq : t.keq = s.keq
  lnk : t.lnk = s.lnk
  seen : t.cnu.seen = s.cnu.seen
  notices : s.tmx.inbox.length < Config.inboxSize → t.cnu.notices = s.cnu.notices

theorem CodeKept.refl (s : State) : CodeKept s s := ⟨rfl, rfl, rfl, rfl, fun _ => rfl⟩

theorem handCode_kept (code : Option Word16) (s : State) : CodeKept s (handCode code s).1 := by
  unfold handCode
  split
  · exact .refl s
  · split
    · exact .refl s
    · exact ⟨post_weu _ _, post_keq _ _, post_lnk _ _, by rw [takeCode, post_cnu]; rfl, takeCode_notices _⟩

/-- The result of a code depends on the trace and the time alone (R104, R106). -/
theorem handCode_result (code : Option Word16) {s t : State} (hfrozen : t.cpt.frozen = s.cpt.frozen)
    (hring : t.cpt.ring = s.cpt.ring) (htime : t.time = s.time) : (handCode code t).2 = (handCode code s).2 := by
  unfold handCode
  cases code with
  | none => rfl
  | some c =>
    dsimp only
    rw [hfrozen]
    split
    · rfl
    · unfold takeCode
      dsimp only
      rw [hring, htime]

theorem codeHanded_of_cpt {code : Option Word16} {s u t : State} (hcpt : u.cpt = { s.cpt with seen := u.cpt.seen })
    (htime : u.time = s.time) (h : CodeHanded code u t) : CodeHanded code s t := by
  unfold CodeHanded at h ⊢
  rw [hcpt, htime] at h
  exact h

end Sys2Proof.Machine

namespace Sys2Proof.Proofs
open Sys2Proof.Machine Sys2Proof.Safety

/-- Settles O17, by what the entry into RUNNING makes of each block, then the kick's code. -/
theorem kickMovesBootingToRunning : Obligations.KickMovesBootingToRunning := by
  intro tag payload code s hdue hcode hbooting
  have hreach := enterState_reach .running .noStage none (takeHeld s)
  have hhps := enterState_hps .running .noStage none (takeHeld s)
  have hweu := enterState_running_weu .noStage none (takeHeld s)
  have hcpt := enterState_cpt .running .noStage none (takeHeld s)
  have hkeq := enterState_keq .running .noStage none (takeHeld s)
  have hseen := enterState_seen .running .noStage none (takeHeld s)
  have hlnk := enterState_lnk .running .noStage none (takeHeld s)
  have hposted := enterState_posted .running .noStage none (takeHeld s)
  have htmx := enterState_tmx .running .noStage none (takeHeld s)
  have hlatches := latchesKept_enterState .running .noStage none (s := takeHeld s)
    (fun h => by rw [show (takeHeld s).hps.state = .booting from hbooting] at h; cases h)
    (fun h => by rw [show (takeHeld s).hps.state = .booting from hbooting] at h; cases h)
  have hexec : exec (.kick tag payload) s = .next (kickAnswer ⟨0x10, tag, payload⟩ .ok code
      (enterState .running .noStage none (takeHeld s))) := by
    refine congrArg _ ((dispatch_of_due hdue (takeKick _)).trans ?_)
    unfold takeKick
    simp only [hcode, show (takeHeld s).hps.state = .booting from hbooting]
  have hnotices := enterState_running_notices .noStage none (s := takeHeld s)
  have hrstEntered : (!(takeHeld s).hostRstN && resetAsserted .running ||
      (takeHeld s).hostPwrEn && !powerEnabled .running .noStage) = false := by
    simp [resetAsserted, powerEnabled]
  rw [hrstEntered, if_neg Bool.false_ne_true] at hlnk
  refine ⟨_, hexec, ?_⟩
  generalize enterState .running .noStage none (takeHeld s) = e at *
  have hkept := handCode_kept code e
  obtain ⟨hhanded, hcptSeen⟩ := handCode_handed code e
  have hresult := handCode_result code (s := s) (t := e) (by rw [hcpt]; rfl) (by rw [hcpt]; rfl) hreach.kept.time
  have hanswer : kickAnswer ⟨0x10, tag, payload⟩ .ok code e = (handCode code e).1.setLnk
      (replying s 0x10 tag .ok (u8 (handCode code s).2.num) .nothing) := by
    unfold kickAnswer
    dsimp only
    rw [hresult]
    exact answerThen_replying (s := s) (by decide) (hkept.lnk.trans hlnk) _ _ _
  have hcode := handCode_reach code e
  rw [hanswer]
  refine ⟨?_, ?_, ?_, ?_, ?_, ?_, ?_, ?_, ?_, fun hroom hhold hseenBooting => ?_, rfl, ?_⟩
  · change (handCode code e).1.hps = _
    rw [handCode_hps, hhps, ← hbooting]
    rfl
  · change (handCode code e).1.weu = _
    rw [hkept.weu, hweu]
    rfl
  · exact codeHanded_of_cpt (by rw [hcpt]; rfl) hreach.kept.time hhanded
  · change (handCode code e).1.cpt.seen = _
    rw [hcptSeen, hcpt]
  · change (handCode code e).1.keq = _
    rw [hkept.keq, hkeq]
    rfl
  · change (handCode code e).1.cnu.seen = _
    rw [hkept.seen, hseen]
  · have htaken : LatchesKept [] s (takeHeld s) := latchesKept_of_cnu rfl rfl rfl rfl
    exact latchesKept_trans htaken (latchesKept_trans hlatches
      (latchesKept_trans (latchesKept_handCode code e) (latchesKept_of_cnu rfl rfl rfl rfl)))
  · have hbootingNum : (takeHeld s).hps.state.num = 4 := by
      rw [show (takeHeld s).hps.state = .booting from hbooting]; rfl
    rw [hbootingNum] at hposted
    exact posted_of_inbox (t := takeHeld s) rfl
      (posted_then (posted_then hposted (handCode_appends code e)) (.setLnk _ _))
  · exact hcode.units.trans hreach.units
  · change (handCode code e).1.cnu.notices = _
    have hroomTaken : (takeHeld s).tmx.inbox.length < Config.inboxSize := by
      change s.tmx.inbox.length < 16
      omega
    have hinbox : e.tmx.inbox.length = s.tmx.inbox.length + 1 := by
      rw [htmx, post_of_room _ _ hroomTaken]
      exact List.length_append
    have hlistens : (takeHeld s).cnuListening = true := by
      change (!s.hold && s.cnu.seen.listening) = true
      rw [hhold, hseenBooting]
      rfl
    rw [hkept.notices (by rw [hinbox]; change _ < 16; omega), hnotices hroomTaken hlistens]
    rfl
  · have htaken : OutsideKept s (takeHeld s) := ⟨rfl, rfl, rfl, rfl, rfl, rfl, rfl, rfl, rfl, rfl, rfl⟩
    exact outsideKept_trans htaken (outsideKept_trans hreach.kept
      (outsideKept_trans hcode.kept ⟨rfl, rfl, rfl, rfl, rfl, rfl, rfl, rfl, rfl, rfl, rfl⟩))

end Sys2Proof.Proofs

namespace Sys2Proof.Machine
open Sys2Proof.Safety

/-! ### Admission in a sample round (R54 to R56) -/

/-- Two events posted one after the other stand in that order, or EVENTS_LOST is latched (R149). -/
theorem posted_in_order {e f : Event} {s t u : State} (he : Posted e s t) (hf : Posted f t u) (k : Tells t u) :
    [e, f].Sublist u.tmx.inbox ∨ u.latched .eventsLost = true := by
  unfold Posted at he hf
  split at he
  · split at hf
    · have hfirst : [e].Sublist t.tmx.inbox := (List.sublist_append_right _ _).trans he.sublist
      exact .inl ((hfirst.append (.refl [f])).trans hf.sublist)
    · exact .inr hf.2
  · exact .inr (k.latched _ he.2)

theorem roundTask_crit (old : Zmon) (z : Zone) (s : State) : roundTask old (.crit z) s =
    if critReached (old.zones.get z) (s.zmon.zones.get z) then critExcursion z s else s := rfl

/-- Every task of a round keeps what has been told (R149). -/
theorem roundTask_tells (old : Zmon) (t : RoundTask) (s : State) : Tells s (roundTask old t s) := by
  cases t with
  | report => exact Tells.emitAll _ s
  | crit z =>
    rw [roundTask_crit]
    split
    · exact (critExcursion_tells z s).tells
    · exact Tells.refl s
  | admission => exact (testAdmission_tells s).tells
  | keypad =>
    have hksu (k : Ksu) : Tells s (s.setKsu k) := ⟨List.prefix_refl _, fun _ h => h⟩
    exact (hksu _).trans (Tells.emitAll _ _)

/-- HPS once a power-on has become pending (R56). -/
def Hps.admitted (h : Hps) : Hps :=
  { h with state := .powering, prev := .qualifying, stage := .pending, stageTimer := none, pendingOn := true }

/-- The host of `s` has been admitted, as R56 says. -/
structure Admitted (s t : State) : Prop where
  hps : t.hps = s.hps.admitted
  lnk : t.lnk = s.lnk
  told : [⟨.admission, 0, s.hps.qualClock⟩, ⟨.hostState, 2, 1⟩].Sublist t.tmx.inbox ∨ t.latched .eventsLost = true

theorem admitHost_admitted {s : State} (hstate : s.hps.state = .qualifying) : Admitted s (admitHost s) := by
  have hadmission := post_posted (event .admission 0 s.hps.qualClock) s
  have hentry := enterState_posted .powering .pending none (post (event .admission 0 s.hps.qualClock) s)
  rw [post_hps, hstate] at hentry
  refine ⟨by rw [admitHost_hps, hstate]; rfl, ?_, posted_in_order hadmission hentry (enterState_tells ..).tells⟩
  rw [admitHost, enterState_lnk, if_neg, post_lnk]
  simp [State.hostRstN, State.hostPwrEn, hstate, resetAsserted, powerEnabled]

theorem Admitted.of_before {s t u : State} (hhps : t.hps = s.hps) (hlnk : t.lnk = s.lnk) (h : Admitted t u) :
    Admitted s u :=
  ⟨by rw [h.hps, hhps], h.lnk.trans hlnk, by rw [← hhps]; exact h.told⟩

theorem Admitted.mono {s t u : State} (h : Admitted s t) (hhps : u.hps = t.hps) (hlnk : u.lnk = t.lnk)
    (k : Tells t u) : Admitted s u :=
  ⟨hhps.trans h.hps, hlnk.trans h.lnk, h.told.imp (·.trans k.inbox.sublist) (k.latched _)⟩

/-- A crit excursion of a host just admitted takes it back to QUALIFYING, where it is admitted again at once, on the
same records and with the warm-up kept (R54, R65). -/
theorem critExcursion_readmits (z : Zone) {u : State} {h : Hps} (hhps : u.hps = h.admitted)
    (hadm : Admissible u.settings u.zmon.zones (u.live .supplyLow)) :
    (critExcursion z u).hps = u.hps ∧ (critExcursion z u).lnk = u.lnk := by
  have hstate : u.hps.state = .powering := by rw [hhps]; rfl
  have hoff : u.hostPwrEn = false := by rw [State.hostPwrEn, hhps]; rfl
  obtain ⟨hqualified, -⟩ := critExcursion_qualified z (u := u) (.inl hstate)
  constructor
  · have hpowering := (hqualified.pending hadm).1
    rw [critExcursion_abandons z (.inl hstate)] at hpowering ⊢
    rcases enterQualifying_hps (raise .thermalStop u) with hwaits | hgoes
    · rw [hwaits] at hpowering
      cases hpowering
    · rw [hgoes, waitingHps, startWarmUp_hps, raise_hps, if_pos hstate, hhps]
      rfl
  · have hheld := hqualified.held
    rw [hoff, if_neg Bool.false_ne_true] at hheld
    have hlink : (critExcursion z u).lnk = { u.lnk with held := (critExcursion z u).lnk.held } :=
      (critExcursion_reach z u).link
    rw [hlink, hheld]

section
variable {raw : PerFour Int} {supply : Int} {s : State}

/-- Where the records of the round meet admission, its tasks leave HPS aside until admission is tested, and the host
admitted from then on. -/
theorem tasks_admit (hstate : s.hps.state = .qualifying)
    (hadm : Admissible s.settings (roundZmon raw supply s).zones (roundZmon raw supply s).supplyLow)
    (ts : List RoundTask) :
    (.admission ∉ ts → Aside (published raw supply s)
      (ts.foldl (fun u t => roundTask s.zmon t u) (published raw supply s))) ∧
    (.admission ∈ ts → Admitted s (ts.foldl (fun u t => roundTask s.zmon t u) (published raw supply s))) := by
  induction ts using List.reverseRecOn with
  | nil => exact ⟨fun _ => .refl _, by simp⟩
  | append_singleton ts t ih =>
    have hmid := (RoundDone.tasks (old := s.zmon) (p := published raw supply s)
      (fun _ => published_raised) ts).midway
    rw [List.foldl_append]
    change (_ → Aside _ (roundTask s.zmon t _)) ∧ (_ → Admitted s (roundTask s.zmon t _))
    generalize ts.foldl (fun u t => roundTask s.zmon t u) (published raw supply s) = u at ih hmid ⊢
    obtain ⟨hbefore, hafter⟩ := ih
    have htells := roundTask_tells s.zmon t u
    have hsilent (ha : Aside u (roundTask s.zmon t u)) (hne : t ≠ .admission) :
        (.admission ∉ ts ++ [t] → Aside (published raw supply s) (roundTask s.zmon t u)) ∧
        (.admission ∈ ts ++ [t] → Admitted s (roundTask s.zmon t u)) := by
      have hmem : .admission ∈ ts ++ [t] ↔ .admission ∈ ts := by simp [hne.symm]
      rw [hmem]
      exact ⟨fun h => (hbefore h).trans ha, fun h => (hafter h).mono ha.hps ha.lnk htells⟩
    cases t with
    | report => exact hsilent (.of_report _ u) (by simp)
    | keypad => exact hsilent (.of_keypad _ u) (by simp)
    | admission =>
      refine ⟨fun h => absurd (by simp) h, fun _ => ?_⟩
      change Admitted s (testAdmission u)
      by_cases hdone : .admission ∈ ts
      · rw [testAdmission_of_ne (by simp [(hafter hdone).hps, Hps.admitted])]
        exact hafter hdone
      · obtain ⟨hhps, -, hlnk, -⟩ := (hbefore hdone).of_published
        have hwaits : u.hps.state = .qualifying := by rw [hhps, hstate]
        rw [testAdmission_of_met hwaits (hmid.admission_iff.2 hadm)]
        exact (admitHost_admitted hwaits).of_before hhps hlnk
    | crit z =>
      have hmem : .admission ∈ ts ++ [RoundTask.crit z] ↔ .admission ∈ ts := by simp
      rw [hmem]
      rw [roundTask_crit] at htells ⊢
      split
      · rename_i hreached
        rw [if_pos hreached] at htells
        refine ⟨fun h => ?_, fun h => ?_⟩
        · have hwaits : u.hps.state = .qualifying := by rw [(hbefore h).of_published.1, hstate]
          rw [critExcursion_ignored z (.inr (.inl hwaits))]
          exact hbefore h
        · have hmet := (admission_iff u).1 (hmid.admission_iff.2 hadm)
          obtain ⟨hhps, hlnk⟩ := critExcursion_readmits z (hafter h).hps hmet
          exact (hafter h).mono hhps hlnk htells
      · exact ⟨hbefore, hafter⟩

theorem admission_mem {order : List RoundTask} (h : order.isPerm RoundTask.all = true) :
    .admission ∈ order := ((List.isPerm_iff.1 h).mem_iff).2 (by decide)

/-- A round on whose records admission is met admits the host (R54, R56). -/
theorem takeRound_admits {order : List RoundTask} (horder : order.isPerm RoundTask.all = true)
    (hstate : s.hps.state = .qualifying)
    (hadm : Admissible s.settings (roundZmon raw supply s).zones (roundZmon raw supply s).supplyLow) :
    Admitted s (takeRound raw supply order s) :=
  (tasks_admit hstate hadm order).2 (admission_mem horder)

/-- A round on whose records admission is not met leaves the host QUALIFYING (R54). -/
theorem takeRound_waits {order : List RoundTask} (horder : order.isPerm RoundTask.all = true)
    (hstate : s.hps.state = .qualifying)
    (hadm : ¬ Admissible s.settings (roundZmon raw supply s).zones (roundZmon raw supply s).supplyLow) :
    (takeRound raw supply order s).hps = s.hps ∧ (takeRound raw supply order s).lnk = s.lnk := by
  have hignored (u : State) (hu : u.hps = s.hps) (z : Zone) : critExcursion z u = u :=
    critExcursion_ignored z (.inr (.inl (by rw [hu, hstate])))
  obtain ⟨hhps, -, hlnk, -⟩ := (takeRound_ignored horder hignored fun _ => hadm).of_published
  exact ⟨hhps, hlnk⟩

end

end Sys2Proof.Machine

namespace Sys2Proof.Proofs
open Sys2Proof.Machine Sys2Proof.Safety

/-- Settles O28: admission is tested on the records published before the round's first task, so that the order of the
tasks, and a crit excursion among them, makes no difference. -/
theorem sampleRoundAdmits : Obligations.SampleRoundAdmits := by
  intro raw supply order s horder hhold hstate
  have hkept := (takeRound_done raw supply order s).kept
  have hoff : s.hostPwrEn = false := by rw [State.hostPwrEn, hstate]; rfl
  have hlnk : (takeRound raw supply order s).lnk = s.lnk := by
    by_cases hadm : Admissible s.settings (roundZmon raw supply s).zones (roundZmon raw supply s).supplyLow
    · exact (takeRound_admits horder hstate hadm).lnk
    · exact (takeRound_waits horder hstate hadm).2
  refine ⟨_, execSampleRound_eq horder hhold, hkept.settings, hkept.hsch, hkept.afm, hlnk, (takeRound_orderly raw supply order s).unpowered hoff, ?_, ?_⟩
  · rw [takeRound_zmon]
    intro hadm
    obtain ⟨hhps, -, htold⟩ := takeRound_admits horder hstate hadm
    exact ⟨hhps, htold⟩
  · rw [takeRound_zmon]
    exact fun hadm => (takeRound_waits horder hstate hadm).1

end Sys2Proof.Proofs

namespace Sys2Proof.Machine
open Sys2Proof.Safety

/-! ### What leaves the book of failures as it is (R88, R94, R100, R104) -/

/-- The trace and the restart records are as they were. -/
structure TraceSame (s t : State) : Prop where
  cpt : t.cpt = { s.cpt with seen := t.cpt.seen }
  records : t.weu.records = s.weu.records

/-- The image or a snapshot holds this ladder (R196, R197). -/
def StoredLadder (p : Pst) (l : LadderSettings) : Prop :=
  (∃ c, p.content? = some c ∧ c.ladder = l) ∨ ∃ x, p.storing = some x ∧ x.snapshot.ladder = l

/-- So are the ladder position and the ladder; the profile holds no ladder that was not there before. -/
structure BookKept (s t : State) : Prop extends TraceSame s t where
  step : t.weu.step = s.weu.step
  attempts : t.weu.attempts = s.weu.attempts
  ladder : t.settings.ladder = s.settings.ladder
  stored : ∀ l, StoredLadder t.pst l → StoredLadder s.pst l ∨ l = s.settings.ladder

theorem TraceSame.trans {s t u : State} (h : TraceSame s t) (k : TraceSame t u) : TraceSame s u :=
  ⟨by rw [k.cpt, h.cpt], k.records.trans h.records⟩

theorem BookKept.refl (s : State) : BookKept s s := ⟨⟨rfl, rfl⟩, rfl, rfl, rfl, fun _ => .inl⟩

theorem BookKept.trans {s t u : State} (h : BookKept s t) (k : BookKept t u) : BookKept s u where
  toTraceSame := h.toTraceSame.trans k.toTraceSame
  step := k.step.trans h.step
  attempts := k.attempts.trans h.attempts
  ladder := k.ladder.trans h.ladder
  stored := fun l hl => (k.stored l hl).elim (h.stored l) fun hl => .inr (hl.trans h.ladder)

/-- The closing step of the lemmas below: follow one operation after another. -/
theorem BookKept.after {s t u : State} (k : BookKept t u) (h : BookKept s t) : BookKept s u := h.trans k

theorem BookKept.ite {p : Prop} [Decidable p] {s t u : State} (ht : p → BookKept s t) (hu : ¬ p → BookKept s u) :
    BookKept s (if p then t else u) := by
  split
  · exact ht ‹_›
  · exact hu ‹_›

theorem BookKept.when {p : Prop} [Decidable p] {s t : State} (h : p → BookKept s t) :
    BookKept s (if p then t else s) := .ite h fun _ => .refl s

/-- The profile and the settings stay, and with them every ladder. -/
theorem BookKept.of_same {s t : State} (h : TraceSame s t)
    (hposition : t.weu.step = s.weu.step ∧ t.weu.attempts = s.weu.attempts)
    (hladder : t.settings.ladder = s.settings.ladder) (hpst : t.pst = s.pst) : BookKept s t :=
  ⟨h, hposition.1, hposition.2, hladder, fun _ hl => .inl (hpst ▸ hl)⟩

/-- CPT, WEU, the ladder and the profile stay. -/
theorem BookKept.of_blocks {s t : State} (hcpt : t.cpt = s.cpt) (hweu : t.weu = s.weu)
    (hladder : t.settings.ladder = s.settings.ladder) (hpst : t.pst = s.pst) : BookKept s t :=
  .of_same ⟨by rw [hcpt], by rw [hweu]⟩ ⟨by rw [hweu], by rw [hweu]⟩ hladder hpst

theorem BookKept.setHps (s : State) (x : Hps) : BookKept s (s.setHps x) := .of_blocks rfl rfl rfl rfl
theorem BookKept.setLnk (s : State) (x : Lnk) : BookKept s (s.setLnk x) := .of_blocks rfl rfl rfl rfl
theorem BookKept.setCnu (s : State) (x : Cnu) : BookKept s (s.setCnu x) := .of_blocks rfl rfl rfl rfl
theorem BookKept.setKeq (s : State) (x : Keq) : BookKept s (s.setKeq x) := .of_blocks rfl rfl rfl rfl
theorem BookKept.setKsu (s : State) (x : Ksu) : BookKept s (s.setKsu x) := .of_blocks rfl rfl rfl rfl
theorem BookKept.setTmx (s : State) (x : Tmx) : BookKept s (s.setTmx x) := .of_blocks rfl rfl rfl rfl
theorem BookKept.setAfm (s : State) (x : Afm) : BookKept s (s.setAfm x) := .of_blocks rfl rfl rfl rfl
theorem BookKept.setHsch (s : State) (x : Hsch) : BookKept s (s.setHsch x) := .of_blocks rfl rfl rfl rfl
theorem BookKept.setZmon (s : State) (x : Zmon) : BookKept s (s.setZmon x) := .of_blocks rfl rfl rfl rfl
theorem BookKept.setLastSent (s : State) (x : List Byte) : BookKept s (s.setLastSent x) := .of_blocks rfl rfl rfl rfl
theorem BookKept.setPowerGood (s : State) (x : Bool) : BookKept s (s.setPowerGood x) := .of_blocks rfl rfl rfl rfl
theorem BookKept.setPending (s : State) (x : List Instr) : BookKept s (s.setPending x) := .of_blocks rfl rfl rfl rfl
theorem BookKept.setSettings (s : State) (x : Settings) (h : x.ladder = s.settings.ladder := by rfl) :
    BookKept s (s.setSettings x) := .of_blocks rfl rfl h rfl

theorem BookKept.notify (b : NoticeBody) (s : State) : BookKept s (notify b s) := by
  rw [notify_eq]; exact .setCnu s _

theorem BookKept.raise (c : Cond) (s : State) : BookKept s (raise c s) := by
  rw [raise_eq]; exact .setCnu s _

theorem BookKept.post (e : Event) (s : State) : BookKept s (post e s) := by
  rw [post_eq]; exact (BookKept.setCnu _ _).after (.setTmx s _)

theorem BookKept.emitAll (es : List Emit) (s : State) : BookKept s (emitAll es s) := by
  rw [emitAll_eq]
  exact (BookKept.setCnu _ _).after ((BookKept.setKeq _ _).after (.setTmx s _))

theorem BookKept.foldl {α : Type} {f : State → α → State} (h : ∀ s a, BookKept s (f s a)) (l : List α) (s : State) :
    BookKept s (l.foldl f s) :=
  List.foldlRecOn (motive := BookKept s) l f (.refl s) fun t ht a _ => ht.trans (h t a)

/-! ### The host operations that write no record -/

/-- No entry touches the trace, the records or the ladder position (R79, R110). -/
theorem BookKept.enterState (new : HostState) (stage : Stage) (timer : Option Nat) (s : State) :
    BookKept s (enterState new stage timer s) := by
  have hreach := enterState_reach new stage timer s
  obtain ⟨hstep, hattempts, hrecords⟩ : (Machine.enterState new stage timer s).weu.step = s.weu.step ∧
      (Machine.enterState new stage timer s).weu.attempts = s.weu.attempts ∧
      (Machine.enterState new stage timer s).weu.records = s.weu.records := by
    by_cases hrun : new = .running
    · subst hrun
      rw [enterState_running_weu]
      exact ⟨rfl, rfl, rfl⟩
    · obtain ⟨h1, h2, h3, -⟩ := enterState_ladder hrun stage timer s
      exact ⟨h1, h2, h3⟩
  exact .of_same ⟨by rw [enterState_cpt], hrecords⟩ ⟨hstep, hattempts⟩ (by rw [hreach.kept.settings]) hreach.kept.pst

theorem testAdmission_bookKept (s : State) : BookKept s (testAdmission s) :=
  .when fun _ => (BookKept.enterState ..).after (.post _ s)

theorem enterQualifying_bookKept (s : State) : BookKept s (enterQualifying s) := by
  have hstart : BookKept s (startWarmUp s) := .ite (fun _ => .refl s) fun _ => .setHps s _
  refine (testAdmission_bookKept _).after (BookKept.after (.when fun _ => .raise _ _) ?_)
  exact (BookKept.enterState ..).after hstart

theorem endStop_bookKept (s : State) : BookKept s (endStop s) := by
  have hclear : BookKept s (clearStop s) := .setHps s _
  unfold endStop
  split
  · exact (BookKept.enterState ..).after hclear
  · exact (enterQualifying_bookKept _).after hclear
  · obtain ⟨x, hx, -⟩ := setUpWake_sets (Machine.enterState .suspended .noStage none s)
    rw [hx]
    exact (BookKept.setHps _ _).after (.enterState ..)

theorem wake_bookKept (s : State) : BookKept s (wake s) := (enterQualifying_bookKept _).after (.setHps s _)

theorem perform_bookKept (o : Order) (s : State) : BookKept s (perform o s) := by
  have hentry := (BookKept.enterState o.host o.stage (o.timer s) _).after (.setHps s (o.given s))
  rw [perform_eq]
  cases o with
  | reset => exact hentry
  | cycle off => exact BookKept.after (.ite (fun _ => .refl _) fun _ => .setHps _ _) hentry
  | lockout => exact (BookKept.raise _ _).after hentry

theorem beginStop_bookKept (cause : StopCause) (zone : Option Zone) (d : Destination) (s : State) :
    BookKept s (beginStop cause zone d s) :=
  (BookKept.notify _ _).after ((BookKept.enterState ..).after (.setHps s _))

theorem critExcursion_bookKept (z : Zone) (s : State) : BookKept s (critExcursion z s) := by
  have hraise : BookKept s (raise .thermalStop s) := .raise _ s
  have hstop := (beginStop_bookKept .thermal (some z) .qualifying _).after hraise
  unfold critExcursion
  split
  · exact hstop
  · exact .ite (fun _ => hraise) fun _ => hstop
  · refine .when fun _ => ?_
    have hconverted : BookKept s (raise .thermalStop (s.setHps { s.hps with
        stopCause := .thermal, stopZone := some z, destination := .qualifying })) :=
      (BookKept.raise _ _).after (.setHps s _)
    exact BookKept.ite (fun _ => (BookKept.notify _ _).after ((BookKept.setHps _ _).after hconverted))
      fun _ => hconverted
  · exact (enterQualifying_bookKept _).after hraise
  · exact (enterQualifying_bookKept _).after hraise
  all_goals exact .refl s

theorem triggerShutdown_bookKept (s : State) : BookKept s (triggerShutdown s) := by
  unfold triggerShutdown
  split
  · exact beginStop_bookKept ..
  · exact .when fun _ => beginStop_bookKept ..
  all_goals exact .refl s

theorem hpsBoundary_bookKept (s : State) : BookKept s (hpsBoundary s) :=
  .when fun _ => .ite (fun _ => enterQualifying_bookKept s) fun _ =>
    .ite (fun _ => .setHps s _) fun _ => .setHps s _

/-! ### The climate job, the keypad and the trigger units write no record -/

theorem takeRound_bookKept (raw : PerFour Int) (supply : Int) (order : List RoundTask) (s : State) :
    BookKept s (takeRound raw supply order s) := by
  have htask (old : Zmon) (s : State) (t : RoundTask) : BookKept s (roundTask old t s) := by
    cases t with
    | report => exact .emitAll _ s
    | crit z => exact .when fun _ => critExcursion_bookKept z s
    | admission => exact testAdmission_bookKept s
    | keypad => exact (BookKept.emitAll _ _).after (.setKsu s _)
  refine (BookKept.foldl (htask s.zmon) order _).after ?_
  rw [publishRound_eq]
  exact .of_blocks rfl rfl rfl rfl

theorem takeBoundary_bookKept (first : Bool) (s : State) : BookKept s (takeBoundary first s) := by
  obtain ⟨a, x, y, heq⟩ := takeBoundary_hps first s
  rw [heq]
  exact (BookKept.setHsch _ _).after ((hpsBoundary_bookKept _).after
    ((BookKept.setHsch _ _).after (.setAfm s _)))

theorem readHeater_bookKept (x : Int) (i : Heater) (s : State) : BookKept s (readHeater x i s) := by
  have hfault (k : FaultKind) (v : State) : BookKept v (heaterFaults i k v) :=
    (BookKept.post _ _).after ((BookKept.setCnu _ _).after ((BookKept.raise _ _).after (.setHsch v _)))
  have hread (y : Hsch) : BookKept s (s.setHsch y) := .setHsch s y
  unfold readHeater
  exact .when fun _ => .ite (fun _ => (hfault _ _).after (hread _)) fun _ =>
    .ite (fun _ => (hfault _ _).after (hread _)) fun _ => hread _

theorem endSlot_bookKept (current : PerThree Int) (order : List Heater) (s : State) :
    BookKept s (endSlot current order s) := by
  rw [endSlot, nextSlot_eq]
  exact (BookKept.setHsch _ _).after (.foldl (fun s h => readHeater_bookKept _ h s) order s)

theorem measureFan_bookKept (pulses : Nat) (cellOk : Bool) (s : State) : BookKept s (measureFan pulses cellOk s) := by
  rw [measureFan_frame]
  exact ⟨⟨rfl, rfl⟩, rfl, rfl, rfl, fun _ => .inl⟩

theorem ackConditions_bookKept (r : Request) (s : State) : BookKept s (ackConditions r s) := by
  unfold ackConditions
  split
  · dsimp only
    rw [acknowledge_eq]
    exact .of_blocks rfl rfl rfl rfl
  · exact .setLnk s _

/-! ### Settings and the profile -/

theorem takeZone_bookKept (z : Zone) (c : ZoneSettings) (s : State) : BookKept s (takeZone z c s) := by
  rw [takeZone_eq]
  exact (BookKept.setZmon _ _).after (.setSettings s _)

theorem takeFan_bookKept (c : FanSettings) (s : State) : BookKept s (takeFan c s) := by
  rw [takeFan, abortLearn_eq]
  exact (BookKept.setCnu _ _).after ((BookKept.setAfm _ _).after (.setSettings s _))

theorem takeKeypad_bookKept (c : KeypadSettings) (s : State) : BookKept s (takeKeypad c s) :=
  (BookKept.emitAll _ _).after ((BookKept.setKsu _ _).after (.setSettings s _))

theorem takeChord_bookKept (i : Chord) (c : ChordSettings) (s : State) : BookKept s (takeChord i c s) :=
  (BookKept.setKsu _ _).after (.setSettings s _)

theorem takeTrigger_bookKept (u : TrigUnit) (c : TriggerSettings) (s : State) : BookKept s (takeTrigger u c s) :=
  (BookKept.setTmx _ _).after (.setSettings s _)

theorem putUnit_bookKept (u : TrigUnit) (b : Bool) (r : UnitRec) (s : State) : BookKept s (putUnit u b r s) :=
  (BookKept.setTmx _ _).after (.setSettings s _)

/-- A store puts the working ladder into the snapshot (R197). -/
theorem storeProfile_bookKept (r : Request) (s : State) : BookKept s (storeProfile r s) := by
  refine .ite (fun _ => .setLnk s _) fun _ => (BookKept.setLnk _ _).after ⟨⟨rfl, rfl⟩, rfl, rfl, rfl, fun l hl => ?_⟩
  rcases hl with ⟨c, hc, -⟩ | ⟨x, hx, hl⟩
  · cases hc
  · cases hx
    exact .inr hl.symm

/-- A store that ends puts the snapshot's ladder into the image, or loses it (R197). -/
theorem storeDone_bookKept (ok : Bool) {x : Storing} {s : State} (hx : s.pst.storing = some x) :
    BookKept s (storeDone ok x.snapshot s) := by
  have hpst : BookKept s (s.setPst { s.pst with
      image := if ok then some ⟨x.snapshot, imageCheck x.snapshot⟩ else none, storing := none }) := by
    refine ⟨⟨rfl, rfl⟩, rfl, rfl, rfl, fun l hl => ?_⟩
    rcases hl with ⟨c, hc, hl⟩ | ⟨y, hy, -⟩
    · cases ok with
      | true =>
        simp only [State.setPst_pst, if_true, content_of_stored, Option.some.injEq] at hc
        subst hc
        exact .inl (.inr ⟨x, hx, hl⟩)
      | false => cases hc
    · cases hy
  exact .ite (fun _ => (BookKept.notify _ _).after hpst) fun _ =>
    (BookKept.notify _ _).after ((BookKept.raise _ _).after hpst)

/-! ### The resets that leave the host alone, and time -/

/-- A supervisor reset keeps WEU, CPT and the policy groups (R201). -/
theorem beginReset_bookKept (s : State) : BookKept s (beginReset s) := by
  unfold beginReset
  refine BookKept.after (.when fun _ => .raise _ _) ⟨⟨rfl, rfl⟩, rfl, rfl, rfl, fun l hl => .inl ?_⟩
  rcases hl with hc | ⟨x, hx, -⟩
  · exact .inl hc
  · cases hx

theorem endReset_bookKept (cause : ResetCause) (s : State) : BookKept s (endReset cause s) :=
  (BookKept.raise _ _).after (.of_blocks rfl rfl rfl rfl)

theorem supervisorReset_bookKept (low : Bool) (r : Request) (s : State) : BookKept s (supervisorReset low r s) := by
  have hbegun := (beginReset_bookKept (s.setLastSent (frame (replyBody r .ok [])))).after (.setLastSent s _)
  exact .ite (fun _ => hbegun) fun _ => (endReset_bookKept _ _).after hbegun

theorem tick_bookKept (s : State) : BookKept s (tick s) := by
  refine ⟨⟨rfl, rfl⟩, rfl, rfl, rfl, fun l hl => .inl ?_⟩
  rcases hl with hc | ⟨x, hx, hl⟩
  · exact .inl hc
  · obtain ⟨y, hy, rfl⟩ := Option.map_eq_some_iff.1 (hx : s.pst.storing.map _ = some x)
    exact .inr ⟨y, hy, hl⟩

/-! ### The other requests -/

theorem getStatus_bookKept (r : Request) (s : State) : BookKept s (getStatus r s) := by
  unfold getStatus
  split
  · split <;> exact .setLnk s _
  · exact .setLnk s _

theorem readGroup_bookKept (r : Request) (s : State) : BookKept s (readGroup r s) := by
  unfold readGroup
  split
  · split <;> exact .setLnk s _
  · exact .setLnk s _

theorem readTrace_bookKept (r : Request) (s : State) : BookKept s (readTrace r s) := by
  unfold readTrace
  split
  · split <;> exact .setLnk s _
  · exact .setLnk s _

theorem readRestart_bookKept (r : Request) (s : State) : BookKept s (readRestart r s) := by
  unfold readRestart
  split
  · split
    · exact .setLnk s _
    · split <;> exact .setLnk s _
  · exact .setLnk s _

theorem requestStop_bookKept (r : Request) (s : State) : BookKept s (requestStop r s) := by
  unfold requestStop
  split
  · split
    · exact .setLnk s _
    · exact .setLnk s _
    · exact .ite (fun _ => .setLnk s _) fun _ => (BookKept.setLnk _ _).after (.setHps s _)
  · exact .setLnk s _

theorem afterReply_bookKept (a : AfterReply) (s : State) : BookKept s (afterReply a s) := by
  cases a with
  | nothing => exact .refl s
  | applyRate => exact .setLnk s _
  | endStop => exact .when fun _ => endStop_bookKept s

theorem earlyKick_bookKept (t : Nat) (s : State) : BookKept s (earlyKick t s) :=
  (BookKept.post _ _).after (.raise _ s)

theorem latchExpiry_bookKept (s : State) : BookKept s (latchExpiry s) :=
  (BookKept.post _ _).after (.raise _ s)

end Sys2Proof.Machine

namespace Sys2Proof.Machine
open Sys2Proof.Safety

/-! ### The lists themselves: ring, records, ladder (R88, R94, R100, R104) -/

theorem ringOk_nil : RingOk [] := ⟨Nat.zero_le _, .nil⟩

/-- A repeat keeps the codes; any other code differs from the newest, and the oldest goes where there are seventeen. -/
theorem takeInRing_ringOk {ring : List TraceEntry} (h : RingOk ring) (code : Word16) (now : Word32) :
    RingOk (takeInRing code now ring).1 := by
  obtain ⟨hsize, hchain⟩ := h
  unfold takeInRing
  cases hlast : ring.getLast? with
  | none => exact ⟨Nat.succ_le_of_lt (by decide), List.isChain_singleton _⟩
  | some e =>
    have hring : ring.dropLast ++ [e] = ring := List.dropLast_append_getLast? e hlast
    dsimp only
    split
    · rename_i hcode
      have hcodes : (ring.dropLast ++ [{ e with time := now, count := satInc 255 e.count }]).map TraceEntry.code =
          ring.map TraceEntry.code := by
        conv_rhs => rw [← hring]
        simp
      refine ⟨?_, by rw [hcodes]; exact hchain⟩
      rw [← List.length_map (f := TraceEntry.code), hcodes, List.length_map]
      exact hsize
    · rename_i hcode
      have happended : ((ring ++ [(⟨code, now, 1⟩ : TraceEntry)]).map TraceEntry.code).IsChain (· ≠ ·) := by
        rw [List.map_append]
        refine List.isChain_append.2 ⟨hchain, List.isChain_singleton _, fun x hx y hy => ?_⟩
        rw [List.getLast?_map, hlast] at hx
        cases hx
        cases hy
        exact hcode
      split
      · rename_i hshort
        exact ⟨hshort, happended⟩
      · refine ⟨?_, by rw [List.map_drop]; exact happended.drop 1⟩
        rw [List.length_drop, List.length_append]
        exact hsize

theorem closeNewest_length (o : RecordOutcome) (rs : List RestartRecord) : (closeNewest o rs).length = rs.length := by
  unfold closeNewest
  split
  · rename_i r hlast
    split
    · conv_rhs => rw [← List.dropLast_append_getLast? r hlast]
      simp
    · rfl
  · rfl

/-- Closing the newest record changes its outcome alone. -/
theorem closeNewest_traces (o : RecordOutcome) (rs : List RestartRecord) :
    (closeNewest o rs).map RestartRecord.trace = rs.map RestartRecord.trace := by
  unfold closeNewest
  split
  · rename_i r hlast
    split
    · conv_rhs => rw [← List.dropLast_append_getLast? r hlast]
      simp
    · rfl
  · rfl

theorem closeNewest_dropLast (o : RecordOutcome) (rs : List RestartRecord) :
    (closeNewest o rs).dropLast = rs.dropLast := by
  unfold closeNewest
  split
  · split
    · exact List.dropLast_concat
    · rfl
  · rfl

theorem closeNewest_recordsOk {rs : List RestartRecord} (h : RecordsOk rs) (o : RecordOutcome) :
    RecordsOk (closeNewest o rs) :=
  ⟨by rw [closeNewest_length]; exact h.size, by rw [closeNewest_dropLast]; exact h.pending⟩

/-- With the newest record closed none is PENDING (R88, R93, R95). -/
theorem closeNewest_closed {rs : List RestartRecord} (h : RecordsOk rs) {o : RecordOutcome} (ho : o ≠ .pending) :
    ∀ r ∈ closeNewest o rs, r.outcome ≠ .pending := by
  intro r hr
  unfold closeNewest at hr
  split at hr
  · rename_i newest hlast
    have hrs := List.dropLast_append_getLast? newest hlast
    split at hr
    · rcases List.mem_append.1 hr with hr | hr
      · exact h.pending r hr
      · rw [List.mem_singleton.1 hr]
        exact ho
    · rename_i hclosed
      rw [← hrs] at hr
      rcases List.mem_append.1 hr with hr | hr
      · exact h.pending r hr
      · rw [List.mem_singleton.1 hr]
        exact hclosed
  · rename_i hempty
    rw [List.getLast?_eq_none_iff.1 hempty] at hr
    cases hr

theorem mem_of_mem_appendRecord {r x : RestartRecord} {rs : List RestartRecord} (h : x ∈ appendRecord r rs) :
    x ∈ rs ∨ x = r := by
  have happended : x ∈ rs ++ [r] := by
    unfold appendRecord at h
    dsimp only at h
    split at h
    · exact h
    · exact List.mem_of_mem_drop h
  simpa using happended

/-- A record joins a list of closed ones, and the oldest of nine goes (R94). -/
theorem appendRecord_recordsOk {rs : List RestartRecord} (hsize : rs.length ≤ Config.recordSize)
    (hclosed : ∀ x ∈ rs, x.outcome ≠ .pending) (r : RestartRecord) : RecordsOk (appendRecord r rs) := by
  unfold appendRecord
  dsimp only
  split
  · exact ⟨‹_›, by rw [List.dropLast_concat]; exact hclosed⟩
  · rename_i hlong
    rw [List.length_append, List.length_singleton] at hlong
    rw [Config.recordSize] at hsize hlong
    rw [List.drop_append_of_le_length (by omega)]
    refine ⟨by rw [List.length_append, List.length_drop, List.length_singleton, Config.recordSize]; omega, ?_⟩
    rw [List.dropLast_concat]
    exact fun x hx => hclosed x (List.mem_of_mem_drop hx)

theorem ladderStep_attempts {l : LadderSettings} (h : LadderOk l) (n : Nat) : 1 ≤ (l.step n).attempts := by
  unfold LadderSettings.step
  split
  · exact h.limits _
  · exact h.limits .n3

/-- One more failure leaves the position on the ladder, within its step's limit (R88). -/
theorem advance_onLadder {l : LadderSettings} (h : LadderOk l) {step attempts step' attempts' : Nat}
    (hstep : step < l.stepCount) (hadvance : advance l step attempts = some (step', attempts')) :
    step' < l.stepCount ∧ attempts' ≤ (l.step step').attempts := by
  unfold advance at hadvance
  split at hadvance
  · cases hadvance
    exact ⟨hstep, ‹_›⟩
  · split at hadvance <;> cases hadvance
    exact ⟨‹_›, ladderStep_attempts h _⟩

/-- A position moved onto a new ladder stands on it (R100). -/
theorem adjustPosition_onLadder {l : LadderSettings} (h : LadderOk l) (step attempts : Nat) :
    (adjustPosition l step attempts).1 < l.stepCount ∧
      (adjustPosition l step attempts).2 ≤ (l.step (adjustPosition l step attempts).1).attempts := by
  have hlow := h.low
  unfold adjustPosition
  split
  · exact ⟨Nat.sub_lt hlow one_pos, le_rfl⟩
  · split
    · exact ⟨by omega, le_rfl⟩
    · rename_i hlimit
      exact ⟨by omega, Nat.le_of_not_lt hlimit⟩

theorem factory_ladderOk : LadderOk Settings.factory.ladder := ⟨by decide, by decide, fun i => by cases i <;> decide⟩

theorem ladderOk_of_taken {fs : List Int} {c : LadderSettings} (h : ladderOf fs = some c) : LadderOk c := by
  have hc := factory_policy.of_ladder ((ladderOf_eq_some_iff _ _).1 h)
  exact ⟨hc.steps.1, hc.steps.2, fun i => (hc.step i).2.2.1⟩

end Sys2Proof.Machine

namespace Sys2Proof.Machine
open Sys2Proof.Safety

/-! ### What an operation does with the book of failures (R88, R94, R100, R104, R109) -/

/-- The traces of the ring and of every record keep their form (R104). -/
def TracesOk (s : State) : Prop := RingOk s.cpt.ring ∧ ∀ r ∈ s.weu.records, RingOk r.trace

/-- The three parts of the book keep their form. -/
structure BookSound (s t : State) : Prop where
  traces : TracesOk s → TracesOk t
  records : RecordsOk s.weu.records → RecordsOk t.weu.records
  position : PositionOk s → PositionOk t

theorem BookSound.trans {s t u : State} (h : BookSound s t) (k : BookSound t u) : BookSound s u :=
  ⟨k.traces ∘ h.traces, k.records ∘ h.records, k.position ∘ h.position⟩

/-- The trace has gone into the newest record, with its freeze time (R109). -/
def TraceTaken (s t : State) : Prop :=
  t.cpt.ring = [] ∧ ∃ r, t.weu.records.getLast? = some r ∧ r.trace = s.cpt.ring ∧ r.frozenAt = s.cpt.frozenAt

/-- What the command `c` does with the book: its form stays, and the ring of a FROZEN trace stays or is emptied, for a
record or at power-on (R104, R109). -/
structure BookRules (c : Option Instr) (s t : State) : Prop where
  sound : BookSound s t
  frozen : s.cpt.frozen = true →
    t.cpt.ring = s.cpt.ring ∨ TraceTaken s t ∨ (t.cpt.ring = [] ∧ c = some .powerOnReset)

theorem storedLadder_ok {s : State} (h : PositionOk s) {l : LadderSettings} (hl : StoredLadder s.pst l) :
    LadderOk l := by
  rcases hl with ⟨c, hc, rfl⟩ | ⟨x, hx, rfl⟩
  · exact h.image c hc
  · exact h.snapshot x hx

/-- A position on a working ladder in range, and no stored ladder out of range. -/
theorem positionOk_of {t : State} (hladder : LadderOk t.settings.ladder)
    (hstored : ∀ l, StoredLadder t.pst l → LadderOk l)
    (hposition : t.weu.step < t.settings.ladder.stepCount ∧
      t.weu.attempts ≤ (t.settings.ladder.step t.weu.step).attempts) : PositionOk t :=
  ⟨hladder, fun c hc => hstored _ (.inl ⟨c, hc, rfl⟩), fun x hx => hstored _ (.inr ⟨x, hx, rfl⟩), hposition.1,
    hposition.2⟩

theorem BookKept.sound {s t : State} (h : BookKept s t) : BookSound s t where
  traces := fun hs => by rwa [TracesOk, h.cpt, h.records]
  records := fun hs => by rwa [h.records]
  position := fun hs => by
    refine positionOk_of (by rw [h.ladder]; exact hs.working) (fun l hl => ?_) ?_
    · rcases h.stored l hl with hl | rfl
      · exact storedLadder_ok hs hl
      · exact hs.working
    · rw [h.step, h.attempts, h.ladder]
      exact ⟨hs.step, hs.attempts⟩

theorem BookKept.rules {s t : State} (h : BookKept s t) (c : Option Instr) : BookRules c s t :=
  ⟨h.sound, fun _ => .inl (by rw [h.cpt])⟩

/-- Where the trace and the records stay, only the position is in question. -/
theorem TraceSame.rules {s t : State} (h : TraceSame s t) (hposition : PositionOk s → PositionOk t)
    (c : Option Instr) : BookRules c s t :=
  ⟨⟨fun hs => by rwa [TracesOk, h.cpt, h.records], fun hs => by rwa [h.records], hposition⟩,
    fun _ => .inl (by rw [h.cpt])⟩

/-- What leaves the book alone may come before. -/
theorem BookRules.after {c : Option Instr} {s u t : State} (k : BookRules c u t) (h : BookKept s u) :
    BookRules c s t := by
  refine ⟨h.sound.trans k.sound, fun hfrozen => ?_⟩
  have hu := k.frozen (by rw [h.cpt]; exact hfrozen)
  unfold TraceTaken at hu ⊢
  rwa [h.cpt] at hu

/-- What leaves the book alone may follow. -/
theorem BookRules.before {c : Option Instr} {s u t : State} (h : BookRules c s u) (k : BookKept u t) :
    BookRules c s t := by
  refine ⟨h.sound.trans k.sound, fun hfrozen => ?_⟩
  have hu := h.frozen hfrozen
  unfold TraceTaken at hu ⊢
  rwa [k.records, k.cpt]

theorem BookRules.ite {c : Option Instr} {p : Prop} [Decidable p] {s t u : State} (ht : p → BookRules c s t)
    (hu : ¬ p → BookRules c s u) : BookRules c s (if p then t else u) := by
  split
  · exact ht ‹_›
  · exact hu ‹_›

theorem BookRules.when {c : Option Instr} {p : Prop} [Decidable p] {s t : State} (h : p → BookRules c s t) :
    BookRules c s (if p then t else s) := .ite h fun _ => (BookKept.refl s).rules c

/-! ### A record is written (R88, R93, R94, R95) -/

/-- WEU with the newest record closed and the ladder position moved: what a failure leaves for its record. -/
def failing (step attempts : Nat) (s : State) : State :=
  s.setWeu { s.weu with records := closeNewest .failed s.weu.records, step := step, attempts := attempts }

theorem writeRecord_rules {step attempts : Nat} {s : State}
    (hposition : PositionOk s → step < s.settings.ladder.stepCount ∧
      attempts ≤ (s.settings.ladder.step step).attempts)
    (c : Option Instr) (reason : Reason) (unit : Option TrigUnit) (action : RecordAction) (off : Option Nat)
    (o : RecordOutcome) : BookRules c s (writeRecord reason unit action off o (failing step attempts s)) := by
  refine ⟨⟨fun ⟨hring, htraces⟩ => ⟨ringOk_nil, fun r hr => ?_⟩, fun hs => ?_, fun hs => ?_⟩,
    fun hfrozen => .inr (.inl ⟨rfl, _, writeRecord_newest .., rfl, if_pos hfrozen⟩)⟩
  · rcases mem_of_mem_appendRecord hr with hr | rfl
    · have hmem := List.mem_map_of_mem (f := RestartRecord.trace) hr
      change r.trace ∈ (closeNewest .failed s.weu.records).map RestartRecord.trace at hmem
      rw [closeNewest_traces] at hmem
      obtain ⟨x, hx, hxr⟩ := List.mem_map.1 hmem
      rw [← hxr]
      exact htraces x hx
    · exact hring
  · exact appendRecord_recordsOk (closeNewest_recordsOk hs _).size (closeNewest_closed hs (by decide)) _
  · exact positionOk_of hs.working (fun l => storedLadder_ok hs) (hposition hs)

theorem escalate_rules (c : Option Instr) (reason : Reason) (unit : Option TrigUnit) (s : State) :
    BookRules c s (escalate reason unit s) := by
  unfold escalate
  dsimp only
  split
  · rename_i step attempts hadvance
    refine .before ?_ (perform_bookKept _ _)
    exact writeRecord_rules (s := s) (fun hs => advance_onLadder hs.working hs.step hadvance) ..
  · refine .before ?_ (perform_bookKept _ _)
    exact writeRecord_rules (s := s) (fun hs => ⟨hs.step, hs.attempts⟩) ..

/-- A failure's record takes a FROZEN trace with its freeze time (R109). -/
theorem escalate_taken (reason : Reason) (unit : Option TrigUnit) {s : State} (h : s.cpt.frozen = true) :
    TraceTaken s (escalate reason unit s) := by
  have hperformed {v : State} (o : Order) (hv : TraceTaken s v) : TraceTaken s (perform o v) := by
    unfold TraceTaken at hv ⊢
    rwa [(perform_bookKept o v).cpt, (perform_bookKept o v).records]
  unfold escalate
  dsimp only
  split
  · exact hperformed _ ⟨rfl, _, writeRecord_newest .., rfl, if_pos h⟩
  · exact hperformed _ ⟨rfl, _, writeRecord_newest .., rfl, if_pos h⟩

theorem powerFail_rules (c : Option Instr) (s : State) : BookRules c s (powerFail s) :=
  (escalate_rules ..).after (.raise _ s)

theorem recordInStop_rules (c : Option Instr) (reason : Reason) (s : State) :
    BookRules c s (recordInStop reason s) :=
  writeRecord_rules (fun hs => ⟨hs.step, hs.attempts⟩) ..

theorem enterBooting_rules (c : Option Instr) (s : State) : BookRules c s (enterBooting s) :=
  .ite (fun _ => (BookKept.enterState ..).rules c) fun _ => (powerFail_rules c _).after (.enterState ..)

theorem requestRestart_rules (c : Option Instr) (r : Request) (s : State) : BookRules c s (requestRestart r s) := by
  have hrecorded (o : Order) : BookRules c s
      (writeRecord .requested none o.action o.offTime? .pending (failPending s)) :=
    writeRecord_rules (fun hs => ⟨hs.step, hs.attempts⟩) ..
  exact .ite (fun _ => (hrecorded _).before ((perform_bookKept _ _).after (.setLnk _ _))) fun _ =>
    (BookKept.setLnk s _).rules c

theorem hostPwrGoodFall_rules (c : Option Instr) (s : State) : Ends (BookRules c s) (execHostPwrGoodFall s) := by
  have hfall : BookKept s (s.setPowerGood false) := .setPowerGood s false
  have hfail := (powerFail_rules c _).after hfall
  simp only [execHostPwrGoodFall, ends_next]
  split
  · exact .ite (fun _ => hfail) fun _ => hfall.rules c
  · exact hfail
  · exact hfail
  · exact (recordInStop_rules ..).after ((BookKept.raise _ _).after ((endStop_bookKept _).after hfall))
  · exact .ite (fun _ => ((BookKept.setHps _ _).after hfall).rules c) fun _ => hfall.rules c
  all_goals exact hfall.rules c

theorem wdExpired_rules (c : Option Instr) (s : State) : Ends (BookRules c s) (execWdExpired s) := by
  refine (ends_next _ _).2 (.when fun _ => .ite (fun _ => (escalate_rules ..).after (latchExpiry_bookKept s)) fun _ =>
    .when fun _ => ?_)
  exact ((recordInStop_rules ..).after (latchExpiry_bookKept s)).before (endStop_bookKept _)

/-! ### A code is taken, the trace freezes (R104, R106, R107) -/

theorem takeCode_rules (c : Option Instr) (code : Word16) {s : State} (h : s.cpt.frozen = false) :
    BookRules c s (takeCode code s).1 := by
  have htaken := fun x : Cpt => BookKept.post (event .checkpoint 0 code.toNat) (s.setCpt x)
  refine ⟨⟨fun ⟨hring, htraces⟩ => (htaken _).sound.traces ⟨takeInRing_ringOk hring code s.time.ms, htraces⟩,
    fun hs => (htaken _).sound.records hs, fun hs => (htaken _).sound.position ⟨hs.working, hs.image, hs.snapshot,
      hs.step, hs.attempts⟩⟩, fun hfrozen => ?_⟩
  rw [h] at hfrozen
  cases hfrozen

theorem takeCheckpoint_rules (c : Option Instr) (r : Request) (s : State) : BookRules c s (takeCheckpoint r s) := by
  have hanswer (st : Status) (p : List Byte) : BookRules c s (answer r st p s) := (BookKept.setLnk s _).rules c
  unfold takeCheckpoint
  split
  · refine .ite (fun _ => hanswer ..) fun _ => .ite (fun _ => hanswer ..) fun hfrozen => ?_
    exact (takeCode_rules c _ (Bool.eq_false_iff.2 hfrozen)).before (.setLnk _ _)
  · exact hanswer ..

/-- A FROZEN trace takes no code of a kick (R106). -/
theorem handCode_of_frozen (code : Option Word16) {s : State} (h : s.cpt.frozen = true) : (handCode code s).1 = s := by
  unfold handCode
  split
  · rfl
  · rw [if_pos h]

theorem kickAnswer_rules (c : Option Instr) (r : Request) (st : Status) (code : Option Word16) (s : State) :
    BookRules c s (kickAnswer r st code s) := by
  refine .before ?_ (.setLnk _ _)
  unfold handCode
  split
  · exact (BookKept.refl s).rules c
  · split
    · exact (BookKept.refl s).rules c
    · rename_i hfrozen
      exact takeCode_rules c _ (Bool.eq_false_iff.2 hfrozen)

/-- An early kick's code goes into the trace before the record takes it; a FROZEN trace is taken as it is (R106). -/
theorem kickEscalates_rules (c : Option Instr) (r : Request) (code : Option Word16) (s : State) :
    BookRules c s (escalate .wdEarly none (kickAnswer r .early code s)) := by
  by_cases hfrozen : s.cpt.frozen = true
  · refine (escalate_rules ..).after ?_
    unfold kickAnswer
    dsimp only
    rw [handCode_of_frozen code hfrozen]
    exact .setLnk s _
  · exact ⟨(kickAnswer_rules c r .early code s).sound.trans (escalate_rules c _ _ _).sound, fun h => absurd h hfrozen⟩

theorem takeKick_rules (c : Option Instr) (r : Request) (s : State) : BookRules c s (takeKick r s) := by
  have hanswer (st : Status) (p : List Byte) : BookRules c s (answer r st p s) := (BookKept.setLnk s _).rules c
  have hsetWeu (x : Weu) (v : State) (hx : x.records = v.weu.records ∧ x.step = v.weu.step ∧
      x.attempts = v.weu.attempts) : BookKept v (v.setWeu x) :=
    .of_same ⟨rfl, hx.1⟩ hx.2 rfl rfl
  have hjudged (code : Option Word16) : BookRules c s (judgeKick r code s) := by
    refine .ite (fun _ => .ite (fun _ => ?_) fun _ => .ite (fun _ => ?_) fun _ => ?_) fun _ => kickAnswer_rules ..
    · exact (kickAnswer_rules ..).after (hsetWeu _ s ⟨rfl, rfl, rfl⟩)
    · exact (kickEscalates_rules ..).after (earlyKick_bookKept _ s)
    · have hcounted := hsetWeu { (earlyKick (s.weu.kickTimer.getD 0) s).weu with
        earlyCount := satInc 255 (earlyKick (s.weu.kickTimer.getD 0) s).weu.earlyCount } _ ⟨rfl, rfl, rfl⟩
      exact (kickAnswer_rules ..).after (hcounted.after (earlyKick_bookKept _ s))
  unfold takeKick
  split
  · exact hanswer ..
  · split
    · exact (kickAnswer_rules ..).after (.enterState ..)
    · exact hjudged _
    · exact hjudged _
    all_goals exact hanswer ..

theorem setCpt_sound (s : State) (x : Cpt) (h : x.ring = s.cpt.ring) : BookSound s (s.setCpt x) :=
  ⟨fun hs => ⟨h ▸ hs.1, hs.2⟩, id, fun hs => ⟨hs.working, hs.image, hs.snapshot, hs.step, hs.attempts⟩⟩

theorem thawTrace_rules (c : Option Instr) (r : Request) (s : State) : BookRules c s (thawTrace r s) := by
  have hthawed : BookRules c s (s.setCpt { s.cpt with frozen := false, frozenAt := none }) :=
    ⟨setCpt_sound s _ rfl, fun _ => .inl rfl⟩
  exact hthawed.before (.setLnk _ _)

/-! ### The ladder position is set (R91, R92, R100) -/

theorem resetLadder_position {s : State} (h : PositionOk s) : PositionOk (resetLadder s) :=
  positionOk_of h.working (fun _ => storedLadder_ok h) ⟨h.working.low, Nat.zero_le _⟩

theorem resetLadder_traceSame (s : State) : TraceSame s (resetLadder s) := ⟨rfl, rfl⟩

theorem resetLadder_rules (c : Option Instr) (s : State) : BookRules c s (resetLadder s) :=
  (resetLadder_traceSame s).rules resetLadder_position c

/-- The position is set to (0, 0), and the host comes back or not (R64, R72, R92). -/
theorem BookRules.reset_ladder {c : Option Instr} {s t : State} (h : BookKept (resetLadder s) t) : BookRules c s t :=
  (resetLadder_rules c s).before h

theorem triggerPowerOn_rules (c : Option Instr) (s : State) : BookRules c s (triggerPowerOn s) := by
  unfold triggerPowerOn
  split
  · exact .reset_ladder (enterQualifying_bookKept _)
  · exact .reset_ladder ((enterQualifying_bookKept _).after (.setHps _ _))
  · exact .when fun _ => .reset_ladder (wake_bookKept _)
  all_goals exact (BookKept.refl s).rules c

theorem stableTime_rules (c : Option Instr) (s : State) : Ends (BookRules c s) (execStableTime s) := by
  refine (ends_next _ _).2 (.when fun _ => ⟨⟨fun ⟨hring, htraces⟩ => ⟨hring, fun r hr => ?_⟩,
    fun hs => closeNewest_recordsOk hs _,
    fun hs => ⟨hs.working, hs.image, hs.snapshot, hs.working.low, Nat.zero_le _⟩⟩, fun _ => .inl rfl⟩)
  have hmem : r.trace ∈ (closeNewest .recovered s.weu.records).map RestartRecord.trace := List.mem_map_of_mem hr
  rw [closeNewest_traces] at hmem
  obtain ⟨x, hx, hxr⟩ := List.mem_map.1 hmem
  rw [← hxr]
  exact htraces x hx

theorem takeLadder_position {l : LadderSettings} {s : State} (hl : LadderOk l) (h : PositionOk s) :
    PositionOk (takeLadder l s) :=
  positionOk_of (t := takeLadder l s) hl (fun _ => storedLadder_ok h) (adjustPosition_onLadder hl _ _)

/-- A reload brings its source's ladder with it, and the position onto it (R100, R198). -/
theorem reload_rules (c : Option Instr) {src : Settings} {s : State} (h : PositionOk s → LadderOk src.ladder) :
    BookRules c s (reload src s) := by
  have hclimate : BookKept s (reloadClimate src s) :=
    (takeFan_bookKept _ _).after ((BookKept.setSettings _ _).after
      ((BookKept.foldl (fun s _ => .setSettings s _) Three.all _).after
        (.foldl (fun s z => takeZone_bookKept z _ s) Four.all s)))
  have hrest (v : State) : BookKept v (reloadRest src (takeKeypad src.keypad v)) :=
    (BookKept.setSettings _ _).after ((BookKept.setSettings _ _).after ((BookKept.setTmx _ _).after
      ((BookKept.setSettings _ _).after ((BookKept.foldl (fun s i => takeChord_bookKept i _ s) Six.all _).after
        ((BookKept.foldl (fun s _ => .setSettings s _) _ _).after (takeKeypad_bookKept _ v))))))
  have hsame (locked : Bool) (v : State) : TraceSame v (reloadPolicy locked src v) := by
    cases locked <;> exact ⟨rfl, rfl⟩
  have hpolicy (locked : Bool) (v : State) (hl : LadderOk src.ladder) (hv : PositionOk v) :
      PositionOk (reloadPolicy locked src v) := by
    cases locked with
    | true => exact hv
    | false =>
      have hwatchdog := (BookKept.setSettings v { v.settings with watchdog := src.watchdog }).sound.position hv
      exact (BookKept.setSettings _ _).sound.position (takeLadder_position hl hwatchdog)
  rw [reload_eq]
  exact TraceSame.rules (hclimate.toTraceSame.trans ((hsame _ _).trans (hrest _).toTraceSame))
    (fun hs => (hrest _).sound.position (hpolicy _ _ (h hs) (hclimate.sound.position hs))) c

/-! ### Power-on reset (R199) -/

theorem powerOn_rules_book (s : State) : BookRules (some .powerOnReset) s (powerOn s) := by
  have hstart (v : State) : BookKept v (startUp v) := by
    have hprofile : BookKept v (if v.pst.content?.isNone then raise .profileDefaulted v else v) :=
      .when fun _ => .raise _ v
    have hlock (v : State) : BookKept v
        (if v.settings.hostPower.lockAtStart then v.setWeu { v.weu with policyLock := true } else v) :=
      .when fun _ => .of_same ⟨rfl, rfl⟩ ⟨rfl, rfl⟩ rfl rfl
    have hauto (v : State) : BookKept v (if v.settings.hostPower.autoStart then enterQualifying v else v) :=
      .when fun _ => enterQualifying_bookKept v
    exact (hauto _).after ((hlock _).after hprofile)
  have hentered := hstart
    ((State.atPowerOn s.pst.source s.pst.image s.pst.cell s.powerGood).setPending s.pending)
  refine ⟨⟨fun _ => hentered.sound.traces ⟨ringOk_nil, fun r hr => nomatch hr⟩,
    fun _ => hentered.sound.records ⟨Nat.zero_le _, fun r hr => nomatch hr⟩, fun hs => hentered.sound.position ?_⟩,
    fun _ => .inr (.inr ⟨congrArg Cpt.ring hentered.cpt, rfl⟩)⟩
  have hsource : LadderOk s.pst.source.ladder := by
    unfold Pst.source
    cases hc : s.pst.content? with
    | none => exact factory_ladderOk
    | some c => exact hs.image c hc
  exact ⟨hsource, hs.image, (fun _ hx => nomatch hx), hsource.low, Nat.zero_le _⟩

/-! ### The units that fire on one event (R156, R161) -/

/-- While the units of one event are completed: a FROZEN trace is still held, or a record has it and the host's reset
is asserted, so that no second record is written (R87). -/
def TraceHeld (s t : State) : Prop :=
  (t.cpt.frozen = true ∧ t.cpt.ring = s.cpt.ring ∧ t.cpt.frozenAt = s.cpt.frozenAt) ∨
    (t.hostRstN = true ∧ TraceTaken s t)

theorem TraceHeld.same {s v w : State} (h : TraceHeld s v) (k : TraceSame v w)
    (hrst : v.hostRstN = true → w.hostRstN = true) : TraceHeld s w := by
  rcases h with h | ⟨hv, htaken⟩
  · exact .inl (by rwa [k.cpt])
  · refine .inr ⟨hrst hv, ?_⟩
    unfold TraceTaken at htaken ⊢
    rwa [k.records, k.cpt]

theorem hostRstN_iff (s : State) : s.hostRstN = false ↔
    s.hps.state = .booting ∨ s.hps.state = .running ∨ s.hps.state = .stopping := by
  unfold State.hostRstN
  cases s.hps.state <;> simp [resetAsserted]

theorem enterQualifying_asserted (s : State) : (enterQualifying s).hostRstN = true := by
  rcases enterQualifying_hps s with h | h <;> rw [State.hostRstN, h] <;> rfl

theorem triggerPowerOn_asserted {s : State} (h : s.hostRstN = true) : (triggerPowerOn s).hostRstN = true := by
  unfold triggerPowerOn
  split
  · exact enterQualifying_asserted _
  · exact enterQualifying_asserted _
  · split
    · exact enterQualifying_asserted _
    · exact h
  all_goals exact h

theorem triggerPowerOn_traceSame (s : State) : TraceSame s (triggerPowerOn s) := by
  have hback {u : State} (h : BookKept (resetLadder s) u) : TraceSame s u :=
    (resetLadder_traceSame s).trans h.toTraceSame
  unfold triggerPowerOn
  split
  · exact hback (enterQualifying_bookKept _)
  · exact hback ((enterQualifying_bookKept _).after (.setHps _ _))
  · split
    · exact hback (wake_bookKept _)
    · exact ⟨rfl, rfl⟩
  all_goals exact ⟨rfl, rfl⟩

theorem triggerShutdown_of_asserted {s : State} (h : s.hostRstN = true) : triggerShutdown s = s := by
  unfold State.hostRstN at h
  unfold triggerShutdown
  cases hs : s.hps.state <;> simp_all [resetAsserted]

theorem triggerRestart_of_asserted {s : State} (h : s.hostRstN = true) (u : TrigUnit) : triggerRestart u s = s := by
  unfold State.hostRstN at h
  unfold triggerRestart
  cases hs : s.hps.state <;> simp_all [resetAsserted]

theorem triggerRestart_rules (c : Option Instr) (u : TrigUnit) (s : State) : BookRules c s (triggerRestart u s) := by
  unfold triggerRestart
  split
  · exact escalate_rules ..
  · exact escalate_rules ..
  all_goals exact (BookKept.refl s).rules c

theorem handOver_sound (a : TrigAction) (u : TrigUnit) (e : Event) (s : State) : BookSound s (handOver a u e s) := by
  cases a with
  | notify => exact (BookKept.after (.when fun _ => .notify _ _) (.raise _ s)).sound
  | freeze =>
    unfold handOver freezeTrace
    dsimp only
    split
    · exact (BookKept.refl s).sound
    · exact setCpt_sound s _ rfl
  | restart => exact (triggerRestart_rules none u s).sound
  | powerOn => exact (triggerPowerOn_rules none s).sound
  | shutdown => exact (triggerShutdown_bookKept s).sound
  | signal => exact (BookKept.setCnu s _).sound
  | filterLearn => exact (BookKept.when fun _ => .setAfm s _).sound

/-- A unit's action on a FROZEN trace: RESTART alone takes it, once (R87, R107, R109). -/
theorem handOver_traceHeld {s v : State} (a : TrigAction) (u : TrigUnit) (e : Event) (h : TraceHeld s v) :
    TraceHeld s (handOver a u e v) := by
  have hkept {w : State} (k : BookKept v w) (hhps : w.hps = v.hps) : TraceHeld s w :=
    h.same k.toTraceSame fun hrst => by rw [State.hostRstN, hhps]; exact hrst
  have hescalated (hup : v.hps.state = .booting ∨ v.hps.state = .running)
      (hheld : v.cpt.frozen = true ∧ v.cpt.ring = s.cpt.ring ∧ v.cpt.frozenAt = s.cpt.frozenAt) :
      TraceHeld s (handOver .restart u e v) := by
    obtain ⟨hfrozen, hring, hat⟩ := hheld
    refine .inr ?_
    rw [handOver, triggerRestart_of_up hup]
    refine ⟨(escalate_lost ..).rst, ?_⟩
    have htaken := escalate_taken .trigger (some u) hfrozen
    unfold TraceTaken at htaken ⊢
    rwa [hring, hat] at htaken
  cases a with
  | notify =>
    refine hkept (.after (.when fun _ => .notify _ _) (.raise _ v)) ?_
    dsimp only [handOver]
    rw [apply_ite State.hps, notify_hps, ite_self, raise_hps]
  | freeze =>
    unfold handOver freezeTrace
    dsimp only
    split
    · exact h
    · rename_i hrecording
      rcases h with ⟨hfrozen, -⟩ | ⟨hrst, htaken⟩
      · exact absurd hfrozen hrecording
      · exact .inr ⟨hrst, htaken⟩
  | restart =>
    by_cases hrst : v.hostRstN = true
    · unfold handOver
      rw [triggerRestart_of_asserted hrst]
      exact h
    · have hdown := Bool.eq_false_iff.2 hrst
      obtain ⟨hfrozen, hring, hat⟩ := h.resolve_right fun h => hrst h.1
      rcases (hostRstN_iff v).1 hdown with hb | hr | hstop
      · exact hescalated (.inl hb) ⟨hfrozen, hring, hat⟩
      · exact hescalated (.inr hr) ⟨hfrozen, hring, hat⟩
      · rw [handOver, triggerRestart_of_down (by simp [hstop])]
        exact .inl ⟨hfrozen, hring, hat⟩
  | powerOn => exact h.same (triggerPowerOn_traceSame v) triggerPowerOn_asserted
  | shutdown =>
    refine h.same (triggerShutdown_bookKept v).toTraceSame fun hrst => ?_
    unfold handOver
    rw [triggerShutdown_of_asserted hrst]
    exact hrst
  | signal => exact hkept (.setCnu v _) rfl
  | filterLearn => exact hkept (.when fun _ => .setAfm v _) (apply_ite State.hps _ _ _ |>.trans (ite_self _))

end Sys2Proof.Machine

namespace Sys2Proof.Machine
open Sys2Proof.Safety

theorem completeFiring_sound (a : TrigAction) (e : Event) (u : TrigUnit) (s : State) :
    BookSound s (completeFiring a e u s) :=
  ((BookKept.post _ _).after (.setTmx s _)).sound.trans (handOver_sound a u e _)

theorem completeFiring_traceHeld (a : TrigAction) (e : Event) (u : TrigUnit) {s v : State} (h : TraceHeld s v) :
    TraceHeld s (completeFiring a e u v) := by
  refine handOver_traceHeld a u e (h.same ((BookKept.post _ _).after (.setTmx v _)).toTraceSame fun hrst => ?_)
  rw [State.hostRstN, post_hps]
  exact hrst

/-- However many units fire on the event, a FROZEN trace goes into one record at most (R87, R156). -/
theorem takeOldest_rules (c : Option Instr) (s : State) : BookRules c s (takeOldest s) := by
  unfold takeOldest
  split
  · exact (BookKept.refl s).rules c
  · rename_i e rest _
    have hsettled : BookKept s ((s.setTmx { s.tmx with inbox := rest }).setTmx { s.tmx with
        inbox := rest, units := PerSix.of (settleUnit s.settings.trigger s.tmx.units e) }) :=
      (BookKept.setTmx _ _).after (.setTmx s _)
    refine ⟨List.foldlRecOn (motive := BookSound s) _ _ hsettled.sound
      fun _ hv u _ => hv.trans (completeFiring_sound _ e u _), fun hfrozen => ?_⟩
    have hheld : TraceHeld s (takeEvent e (s.setTmx { s.tmx with inbox := rest })) :=
      List.foldlRecOn (motive := TraceHeld s) _ _ (.inl ⟨hfrozen, rfl, rfl⟩)
        fun _ hv u _ => completeFiring_traceHeld _ e u hv
    rcases hheld with ⟨-, hring, -⟩ | ⟨-, htaken⟩
    · exact .inl hring
    · exact .inr (.inl htaken)

/-! ### Requests (R185, R188) -/

theorem BookRules.dispatch {c : Option Instr} {owner : State → State} (ho : ∀ s, BookRules c s (owner s))
    (r : Request) (s : State) : BookRules c s (Machine.dispatch r owner s) :=
  .when fun _ => (ho _).after (.setLnk s _)

theorem BookRules.request {c : Option Instr} {owner : State → State} (ho : ∀ s, BookRules c s (owner s)) (n : Nat)
    (r : Request) (s : State) : BookRules c s (Machine.dispatch r (ofLength n r owner) s) :=
  .dispatch (fun s => .ite (fun _ => ho s) fun _ => (BookKept.setLnk s _).rules c) r s

/-- Of a WRITE_SETTINGS row only the group's own writing matters (R188). -/
theorem BookRules.write {c : Option Instr} {write : Nat → List Int → State → Option State}
    (hw : ∀ i fs s t, write i fs s = some t → BookRules c s t) (g : Nat) (after : AfterReply) (r : Request)
    (wf : Bool) (s : State) :
    Ends (BookRules c s) (if wf then .next (Machine.dispatch r (writeGroup g write after r) s)
      else .fault .illFormed) := by
  have hanswer (s : State) (st : Status) : BookRules c s (answer r st [] s) := (BookKept.setLnk s _).rules c
  have hgroup (s : State) : BookRules c s (writeGroup g write after r s) := by
    unfold writeGroup
    split
    · split
      · refine .ite (fun _ => hanswer s _) fun _ => .ite (fun _ => hanswer s _) fun _ => ?_
        split
        · exact hanswer s _
        · exact (hw _ _ _ _ ‹_›).before (.setLnk _ _)
      · exact hanswer s _
    · exact hanswer s _
  split
  · exact (ends_next _ _).2 (.dispatch hgroup r s)
  · simp

/-- A group whose owner leaves the book alone. -/
theorem BookKept.write {write : Nat → List Int → State → Option State}
    (hw : ∀ i fs s t, write i fs s = some t → BookKept s t) (g : Nat) (after : AfterReply) (r : Request)
    (wf : Bool) (c : Option Instr) (s : State) :
    Ends (BookRules c s) (if wf then .next (Machine.dispatch r (writeGroup g write after r) s)
      else .fault .illFormed) :=
  BookRules.write (fun i fs s t e => (hw i fs s t e).rules c) g after r wf s

theorem BookKept.linkFree (s : State) : LinkFree (BookKept s) := fun t x h => h.trans (.setLnk t x)

/-- Of a TRIGGER_CONTROL row only the operation matters (R163). -/
theorem BookKept.control {op : Nat} {change : TrigUnit → State → Option State}
    (hc : ∀ u s t, change u s = some t → BookKept s t) (r : Request) (wf : Bool) (c : Option Instr) (s : State) :
    Ends (BookRules c s) (if wf then .next (Machine.dispatch r (triggerControl op change r) s)
      else .fault .illFormed) :=
  fun t e => (control_keeps (BookKept.linkFree s) (fun u _ _ h e => h.trans (hc u _ _ e)) r wf (.refl s) t e).rules c

/-- The groups without an index: what the owner takes, where the fields are good. -/
theorem taken_bookKept {α : Type} {c : Option α} {take : α → State → State} (h : ∀ x s, BookKept s (take x s))
    (s t : State) (e : c.map (take · s) = some t) : BookKept s t := by
  obtain ⟨x, -, rfl⟩ := Option.map_eq_some_iff.1 e
  exact h x s

theorem writeZone_bookKept (i : Nat) (fs : List Int) (s t : State) (e : writeZoneFields i fs s = some t) :
    BookKept s t := by
  unfold writeZoneFields at e
  split at e <;> cases e
  exact takeZone_bookKept _ _ _

theorem writeHeater_bookKept (i : Nat) (fs : List Int) (s t : State) (e : writeHeaterFields i fs s = some t) :
    BookKept s t := by
  unfold writeHeaterFields at e
  split at e <;> cases e
  exact .setSettings s _

theorem writeChord_bookKept (i : Nat) (fs : List Int) (s t : State) (e : writeChordFields i fs s = some t) :
    BookKept s t := by
  unfold writeChordFields at e
  split at e <;> cases e
  exact takeChord_bookKept _ _ _

theorem writeTrigger_bookKept (i : Nat) (fs : List Int) (s t : State) (e : writeTriggerFields i fs s = some t) :
    BookKept s t := by
  unfold writeTriggerFields at e
  split at e
  · split at e <;> cases e
    exact takeTrigger_bookKept _ _ _
  · cases e

/-- A ladder that is written is in range, and the position moves onto it (R100). -/
theorem writeLadder_rules (c : Option Instr) (i : Nat) (fs : List Int) (s t : State)
    (e : writeLadderFields i fs s = some t) : BookRules c s t := by
  obtain ⟨l, hl, rfl⟩ := Option.map_eq_some_iff.1 e
  have htaken : TraceSame s (takeLadder l s) := ⟨rfl, rfl⟩
  exact htaken.rules (takeLadder_position (ladderOk_of_taken hl)) c

theorem enableUnit_bookKept (u : TrigUnit) (s t : State) (e : enableUnit u s = some t) : BookKept s t := by
  unfold enableUnit at e
  dsimp only at e
  split at e <;> cases e
  · exact putUnit_bookKept ..
  · exact .refl s

theorem disableUnit_bookKept (u : TrigUnit) (s t : State) (e : disableUnit u s = some t) : BookKept s t := by
  unfold disableUnit at e
  dsimp only at e
  split at e <;> cases e
  · exact .refl s
  · exact putUnit_bookKept ..

theorem rearmUnit_bookKept (u : TrigUnit) (s t : State) (e : rearmUnit u s = some t) : BookKept s t := by
  unfold rearmUnit at e
  dsimp only at e
  split at e <;> cases e
  exact .setTmx s _

theorem revertProfile_rules (c : Option Instr) (r : Request) (s : State) : BookRules c s (revertProfile r s) := by
  unfold revertProfile
  split
  · exact (BookKept.setLnk s _).rules c
  · split
    · exact (BookKept.setLnk s _).rules c
    · rename_i content hcontent
      exact (reload_rules c fun hs => hs.image content hcontent).before (.setLnk _ _)

theorem factorySettings_rules (c : Option Instr) (r : Request) (s : State) :
    BookRules c s (answerThen .applyRate r .ok [] (reload .factory s)) :=
  (reload_rules c fun _ => factory_ladderOk).before (.setLnk _ _)

/-! ### Every command and every step -/

theorem releaseLockout_rules (c : Option Instr) (s : State) : BookRules c s (releaseLockout s) :=
  .reset_ladder ((enterQualifying_bookKept _).after (.setHps _ _))

theorem bootTimeout_rules (c : Option Instr) (s : State) : Ends (BookRules c s) (execBootTimeout s) :=
  (ends_next _ _).2 (.when fun _ => (escalate_rules ..).after ((BookKept.post _ _).after (.raise _ s)))

theorem hostPwrGoodRise_bookKept (s : State) : Ends (BookKept s) (execHostPwrGoodRise s) := by
  refine (ends_next _ _).2 (BookKept.after (.when fun _ => .setHps _ _) (.setPowerGood s true))

theorem exec_bookRules (c : Instr) (s : State) : Ends (BookRules (some c) s) (exec c s) := by
  have kept {t : State} (h : BookKept s t) : BookRules (some c) s t := h.rules _
  have answers (r : Request) (st : Status) (p : List Byte) (s : State) : BookRules (some c) s (answer r st p s) :=
    (BookKept.setLnk s _).rules _
  cases c with
  | powerOnReset => exact (ends_next _ _).2 (powerOn_rules_book s)
  | rstNAssert => exact (ends_next _ _).2 (kept (.ite (fun _ => .refl s) fun _ => beginReset_bookKept s))
  | rstNRelease => exact (ends_next _ _).2 (kept (.when fun _ => endReset_bookKept _ s))
  | supervisorReset tag p low =>
    exact (ends_next _ _).2 (.request (fun s => (supervisorReset_bookKept low _ s).rules _) _ _ s)
  | frameReceived bytes =>
    simp only [exec, execFrameReceived, ends_next]
    split
    · exact kept (.of_blocks rfl rfl rfl rfl)
    · exact kept (.refl s)
  | frameGapTimeout => exact (ends_next _ _).2 (kept (.setLnk s _))
  | linkReset => exact (ends_next _ _).2 (kept (.when fun _ => .setLnk s _))
  | rxdHighAgain => exact (ends_next _ _).2 (kept (.setLnk s _))
  | replySent =>
    simp only [exec, execReplySent, ends_next]
    split
    · exact kept (.refl s)
    · exact kept ((afterReply_bookKept _ _).after ((BookKept.setLastSent _ _).after (.setLnk s _)))
  | badKind kind tag p =>
    simp only [exec, execBadKind]
    split
    · simp
    · exact (ends_next _ _).2 (.dispatch (answers _ _ _) _ s)
  | ping tag p => exact (ends_next _ _).2 (.request (answers _ _ _) _ _ s)
  | getStatus tag p => exact (ends_next _ _).2 (.dispatch (fun s => (getStatus_bookKept _ s).rules _) _ s)
  | getConditions tag p => exact (ends_next _ _).2 (.request (fun _ => answers ..) _ _ s)
  | ackConditions tag p => exact (ends_next _ _).2 (.dispatch (fun s => (ackConditions_bookKept _ s).rules _) _ s)
  | fetchNotices tag p =>
    exact (ends_next _ _).2 (.request (fun s => ((BookKept.setLnk _ _).after (.setCnu s _)).rules _) _ _ s)
  | readKeys tag p =>
    exact (ends_next _ _).2 (.request (fun s => ((BookKept.setLnk _ _).after (.setKeq s _)).rules _) _ _ s)
  | kick tag p => exact (ends_next _ _).2 (.dispatch (takeKick_rules _ _) _ s)
  | checkpoint tag p => exact (ends_next _ _).2 (.dispatch (takeCheckpoint_rules _ _) _ s)
  | readTrace tag p => exact (ends_next _ _).2 (.dispatch (fun s => (readTrace_bookKept _ s).rules _) _ s)
  | thawTrace tag p => exact (ends_next _ _).2 (.request (thawTrace_rules _ _) _ _ s)
  | readRestart tag p => exact (ends_next _ _).2 (.dispatch (fun s => (readRestart_bookKept _ s).rules _) _ s)
  | requestStop tag p => exact (ends_next _ _).2 (.dispatch (fun s => (requestStop_bookKept _ s).rules _) _ s)
  | requestRestart tag p => exact (ends_next _ _).2 (.request (requestRestart_rules _ _) _ _ s)
  | commitPolicy tag p =>
    refine (ends_next _ _).2 (.request (fun s => BookKept.rules ?_ _) _ _ s)
    exact (BookKept.setLnk _ _).after (.of_same ⟨rfl, rfl⟩ ⟨rfl, rfl⟩ rfl rfl)
  | writeZone tag p => exact BookKept.write writeZone_bookKept _ _ _ _ _ s
  | writeHeater tag p => exact BookKept.write writeHeater_bookKept _ _ _ _ _ s
  | writeBudget tag p =>
    exact BookKept.write (fun _ _ => taken_bookKept (take := takeBudget) fun _ s => .setSettings s _) _ _ _ _ _ s
  | writeFan tag p => exact BookKept.write (fun _ _ => taken_bookKept takeFan_bookKept) _ _ _ _ _ s
  | writeWatchdog tag p =>
    exact BookKept.write (fun _ _ => taken_bookKept (take := takeWatchdog) fun _ s => .setSettings s _) _ _ _ _ _ s
  | writeLadder tag p => exact BookRules.write (writeLadder_rules _) _ _ _ _ s
  | writeHostPower tag p =>
    exact BookKept.write (fun _ _ => taken_bookKept (take := takeHostPower) fun _ s => .setSettings s _) _ _ _ _ _ s
  | writeKeypad tag p => exact BookKept.write (fun _ _ => taken_bookKept takeKeypad_bookKept) _ _ _ _ _ s
  | writeKey tag p =>
    exact BookKept.write (fun i _ => taken_bookKept (take := takeKey i) fun _ s => .setSettings s _) _ _ _ _ _ s
  | writeChord tag p => exact BookKept.write writeChord_bookKept _ _ _ _ _ s
  | writeTrigger tag p => exact BookKept.write writeTrigger_bookKept _ _ _ _ _ s
  | writeReport tag p =>
    exact BookKept.write (fun _ _ => taken_bookKept (take := takeReport) fun _ s => .setSettings s _) _ _ _ _ _ s
  | writeLink tag p =>
    exact BookKept.write (fun _ _ => taken_bookKept (take := takeLink) fun _ s => .setSettings s _) _ _ _ _ _ s
  | readSettings tag p => exact (ends_next _ _).2 (.dispatch (fun s => (readGroup_bookKept _ s).rules _) _ s)
  | storeProfile tag p =>
    exact (ends_next _ _).2 (.request (fun s => (storeProfile_bookKept _ s).rules _) _ _ s)
  | storeComplete ok =>
    simp only [exec, execStoreComplete, ends_next]
    split
    · exact kept (storeDone_bookKept ok ‹_›)
    · exact kept (.refl s)
  | revertProfile tag p => exact (ends_next _ _).2 (.request (revertProfile_rules _ _) _ _ s)
  | factorySettings tag p => exact (ends_next _ _).2 (.request (factorySettings_rules _ _) _ _ s)
  | triggerControlEnable tag p => exact BookKept.control enableUnit_bookKept _ _ _ s
  | triggerControlDisable tag p => exact BookKept.control disableUnit_bookKept _ _ _ s
  | triggerControlRearm tag p => exact BookKept.control rearmUnit_bookKept _ _ _ s
  | filterServiced tag p =>
    refine (ends_next _ _).2 (.request (fun s => BookKept.rules ?_ _) _ _ s)
    exact .ite (fun _ => (BookKept.setLnk _ _).after (.setAfm s _)) fun _ => .setLnk s _
  | sampleRound raw supply order =>
    simp only [exec, execSampleRound]
    split
    · exact (ends_next _ _).2 (kept (.ite (fun _ => .refl s) fun _ => takeRound_bookKept raw supply order s))
    · simp
  | slotEnd current order =>
    simp only [exec, execSlotEnd]
    split
    · exact (ends_next _ _).2 (kept (.when fun _ => endSlot_bookKept current order s))
    · simp
  | climateBoundary first => exact (ends_next _ _).2 (kept (.when fun _ => takeBoundary_bookKept first s))
  | fanMeasurement pulses ok =>
    exact (ends_next _ _).2 (kept (.ite (fun _ => .refl s) fun _ => measureFan_bookKept pulses ok s))
  | hostPwrGoodRise => exact fun t e => kept (hostPwrGoodRise_bookKept s t e)
  | hostPwrGoodFall => exact hostPwrGoodFall_rules _ s
  | powerGoodTimeout => exact (ends_next _ _).2 (.when fun _ => powerFail_rules _ s)
  | resetHoldExpiry => exact (ends_next _ _).2 (.when fun _ => enterBooting_rules _ s)
  | resettingExpiry => exact (ends_next _ _).2 (.when fun _ => enterBooting_rules _ s)
  | drainTimeout => exact (ends_next _ _).2 (kept (.when fun _ => .setHps s _))
  | offTimeExpiry => exact (ends_next _ _).2 (kept (.when fun _ => enterQualifying_bookKept s))
  | lockoutRetryExpiry => exact (ends_next _ _).2 (.when fun _ => releaseLockout_rules _ s)
  | graceExpiry => exact (ends_next _ _).2 (kept (.when fun _ => endStop_bookKept s))
  | stopDelayExpiry => exact (ends_next _ _).2 (kept (.when fun _ => endStop_bookKept s))
  | wakeTime => exact (ends_next _ _).2 (kept (.when fun _ => wake_bookKept s))
  | leadComputation => exact (ends_next _ _).2 (kept (.when fun _ => .setHps s _))
  | preheatBegin => exact (ends_next _ _).2 (kept (.when fun _ => .setHps s _))
  | warmTimeout =>
    exact (ends_next _ _).2 (kept (.when fun _ =>
      (BookKept.post _ _).after ((BookKept.raise _ _).after (.setHps s _))))
  | bootTimeout => exact bootTimeout_rules _ s
  | wdExpired => exact wdExpired_rules _ s
  | stableTime => exact stableTime_rules _ s
  | keyScan raws =>
    simp only [exec, execKeyScan]
    split
    · exact (ends_next _ _).2 (kept (.ite (fun _ => .refl s) fun _ => (BookKept.emitAll _ _).after (.setKsu s _)))
    · simp
  | eventTake => exact (ends_next _ _).2 (.ite (fun _ => kept (.refl s)) fun _ => takeOldest_rules _ s)
  | armWindowExpiry u => exact (ends_next _ _).2 (kept (.when fun _ => .setTmx s _))
  | svcTimerExpiry => exact (ends_next _ _).2 (kept (.when fun _ => .setCnu s _))

/-- A step follows the rules of the command at the front of the queue. -/
theorem step_bookRules {s t : State} (h : step s = .next t) : BookRules s.pending.head? s t := by
  unfold step at h
  split at h
  · cases h
    exact (tick_bookKept s).rules _
  · rename_i c rest hq
    rw [hq]
    exact (exec_bookRules c (s.setPending rest) t h).after (.setPending s rest)

end Sys2Proof.Machine

namespace Sys2Proof.Proofs
open Sys2Proof.Machine Sys2Proof.Safety

/-- Settles O25, by the commands: most leave the book of failures alone; a record takes the trace whole, a code joins
a RECORDING trace alone, and every ladder that comes into force brings the position onto it. -/
theorem restartBookInvariant : Obligations.RestartBookInvariant := by
  refine ⟨fun s t hring htraces h => ?_, fun _ _ hs h => (step_bookRules h).sound.records hs,
    fun _ _ hs h => (step_bookRules h).sound.position hs⟩
  obtain ⟨hring', htraces'⟩ := (step_bookRules h).sound.traces ⟨hring, htraces⟩
  refine ⟨hring', htraces', fun hfrozen => ?_⟩
  rcases (step_bookRules h).frozen hfrozen with hsame | ⟨hempty, hrecord⟩ | ⟨hempty, hfront⟩
  · exact .inl hsame
  · exact .inr ⟨hempty, .inr hrecord⟩
  · exact .inr ⟨hempty, .inl (front_of_head? hfront)⟩

end Sys2Proof.Proofs

namespace Sys2Proof.Machine
open Sys2Proof.Safety

/-! ### A KICK that is taken in RUNNING or STOPPING (R81, R83, R106) -/

/-- WEU has judged the kick in `v`; LNK, the host and its queues are as they were when the request was taken. -/
structure KickJudged (s v : State) : Prop where
  outside : OutsideKept s v
  hps : v.hps = s.hps
  keq : v.keq = s.keq
  units : v.tmx.units = s.tmx.units
  cpt : v.cpt = s.cpt
  lnk : v.lnk = (takeHeld s).lnk

theorem takeHeld_judged (s : State) : KickJudged s (takeHeld s) :=
  ⟨⟨rfl, rfl, rfl, rfl, rfl, rfl, rfl, rfl, rfl, rfl, rfl⟩, rfl, rfl, rfl, rfl, rfl⟩

theorem KickJudged.setWeu {s v : State} (h : KickJudged s v) (x : Weu) : KickJudged s (v.setWeu x) :=
  ⟨outsideKept_trans h.outside ⟨rfl, rfl, rfl, rfl, rfl, rfl, rfl, rfl, rfl, rfl, rfl⟩, h.hps, h.keq, h.units, h.cpt,
    h.lnk⟩

theorem KickJudged.earlyKick {s v : State} (h : KickJudged s v) (t : Nat) : KickJudged s (earlyKick t v) := by
  have hreach := earlyKick_reach t v
  refine ⟨outsideKept_trans h.outside hreach.kept, (earlyKick_hps t v).trans h.hps, ?_, hreach.units.trans h.units, ?_,
    ?_⟩
  · rw [Machine.earlyKick, post_keq, raise_keq, h.keq]
  · rw [Machine.earlyKick, post_cpt, raise_cpt, h.cpt]
  · rw [Machine.earlyKick, post_lnk, raise_lnk, h.lnk]

/-- What a kick that has been judged does beyond WEU: its code goes into the trace and its reply is being sent. -/
structure KickReplied (tag : Byte) (code : Option Word16) (st : Status) (s t : State) : Prop where
  hps : t.hps = s.hps
  keq : t.keq = s.keq
  units : t.tmx.units = s.tmx.units
  handed : CodeHanded code s t
  seen : t.cpt.seen = s.cpt.seen
  lnk : t.lnk = replying s 0x10 tag st (u8 (handCode code s).2.num) .nothing
  outside : OutsideKept s t

theorem kickAnswer_eq {tag : Byte} {payload : List Byte} {st : Status} (code : Option Word16) {s v : State}
    (h : KickJudged s v) : kickAnswer ⟨0x10, tag, payload⟩ st code v = (handCode code v).1.setLnk
      (replying s 0x10 tag st (u8 (handCode code s).2.num) .nothing) := by
  unfold kickAnswer
  dsimp only
  rw [handCode_result code (s := s) (t := v) (by rw [h.cpt]) (by rw [h.cpt]) h.outside.time]
  exact answerThen_replying (s := s) (by decide) ((handCode_kept code v).lnk.trans h.lnk) _ _ _

theorem kickAnswer_replied {tag : Byte} {payload : List Byte} {st : Status} (code : Option Word16) {s v : State}
    (h : KickJudged s v) : KickReplied tag code st s (kickAnswer ⟨0x10, tag, payload⟩ st code v) := by
  obtain ⟨hhanded, hseen⟩ := handCode_handed code v
  have hreach := handCode_reach code v
  rw [kickAnswer_eq code h]
  refine ⟨(handCode_hps code v).trans h.hps, (handCode_kept code v).keq.trans h.keq, hreach.units.trans h.units,
    codeHanded_of_cpt (by rw [h.cpt]) h.outside.time hhanded, hseen.trans (by rw [h.cpt]), rfl, ?_⟩
  exact outsideKept_trans h.outside
    (outsideKept_trans hreach.kept ⟨rfl, rfl, rfl, rfl, rfl, rfl, rfl, rfl, rfl, rfl, rfl⟩)

theorem kickAnswer_weu (r : Request) (st : Status) (code : Option Word16) (s : State) :
    (kickAnswer r st code s).weu = s.weu := (handCode_kept code s).weu

theorem kickAnswer_appends (r : Request) (st : Status) (code : Option Word16) (s : State) :
    Appends s (kickAnswer r st code s) := (Appends.setLnk _ _).step (handCode_appends code s)

/-- A kick's code and reply latch nothing more (R106). -/
theorem latchesKept_kickAnswer {also : List Cond} {s v : State} (h : LatchesKept also s v) (r : Request) (st : Status)
    (code : Option Word16) : LatchesKept also s (kickAnswer r st code v) := by
  have hnothing : LatchesKept [] v (kickAnswer r st code v) :=
    latchesKept_trans (latchesKept_handCode code v) (latchesKept_of_cnu rfl rfl rfl rfl)
  exact ⟨fun c hc hnot => (hnothing.kept c hc (fun h => nomatch h)).trans (h.kept c hc hnot),
    fun c hc => (kickAnswer_appends r st code v).tells.latched c (h.set c hc), hnothing.live.trans h.live,
    hnothing.kinds.trans h.kinds, hnothing.svcTimer.trans h.svcTimer⟩

theorem latchesKept_setWeu {also : List Cond} {s v : State} (h : LatchesKept also s v) (x : Weu) :
    LatchesKept also s (v.setWeu x) := ⟨h.kept, h.set, h.live, h.kinds, h.svcTimer⟩

/-! ### An early kick is noted (R81, R83) -/

theorem earlyKick_posted (k : Nat) (s : State) :
    Posted ⟨.watchdog, 1, (min 65535 k : Nat)⟩ s (earlyKick k s) := by
  have harg : ((min 65535 k : Nat) : Int) = min 65535 (k : Int) := by omega
  rw [earlyKick, harg]
  exact posted_of_inbox (t := raise .wdEarly s) (by rw [raise_tmx]) (post_posted _ _)

theorem earlyKick_latched (k : Nat) (s : State) : (earlyKick k s).latched .wdEarly = true :=
  post_latched_mono _ _ (raise_latched_self _ s)

theorem earlyKick_weu (k : Nat) (s : State) : (earlyKick k s).weu = s.weu := by
  rw [earlyKick, post_weu, raise_weu]

/-- WD_EARLY comes of an event: latched, with no live cause (R168). -/
theorem latchesKept_earlyKick {s u : State} (h : LatchesKept [] s u) (k : Nat) :
    LatchesKept [.wdEarly] s (earlyKick k u) where
  kept := fun c hc hnot => by
    rw [earlyKick, post_latched_of_ne _ _ hc, raise_is_latched,
      decide_eq_false (fun h => hnot (List.mem_singleton.2 h.symm)), Bool.or_false]
    exact h.kept c hc fun h => nomatch h
  set := fun c hc => by
    rw [List.mem_singleton.1 hc]
    exact earlyKick_latched k u
  live := by
    rw [earlyKick, post_cnu]
    exact (raise_live _ u).trans h.live
  kinds := by rw [earlyKick, post_kinds, raise_kinds, h.kinds]
  svcTimer := by
    rw [earlyKick, post_cnu]
    exact (raise_svcTimer _ u).trans h.svcTimer

/-! ### The KICK by host state and window -/

theorem kick_of_due {tag : Byte} {payload : List Byte} {code : Option Word16} {s : State}
    (hdue : Due s 0x10 tag payload) (hcode : kickCode? payload = some code)
    (hstate : s.hps.state = .running ∨ s.hps.state = .stopping) :
    exec (.kick tag payload) s = .next (judgeKick ⟨0x10, tag, payload⟩ code (takeHeld s)) := by
  refine congrArg _ ((dispatch_of_due hdue (takeKick _)).trans ?_)
  have htaken : (takeHeld s).hps.state = s.hps.state := rfl
  unfold takeKick
  rcases hstate with h | h <;> simp only [hcode, htaken, h]

/-- A kick outside the host's running is refused, and its code is dropped (R84). -/
theorem kick_refused {tag : Byte} {payload : List Byte} {code : Option Word16} {s : State}
    (hdue : Due s 0x10 tag payload) (hcode : kickCode? payload = some code) (hboot : s.hps.state ≠ .booting)
    (hrun : s.hps.state ≠ .running) (hstop : s.hps.state ≠ .stopping) : exec (.kick tag payload) s =
      .next (s.setLnk (replying s 0x10 tag .refused [if code.isSome then 3 else 0] .nothing)) := by
  have hanswer : takeKick ⟨0x10, tag, payload⟩ (takeHeld s) = answer ⟨0x10, tag, payload⟩ .refused
      [if code.isSome then 3 else 0] (takeHeld s) := by
    have hbyte : u8 (if code.isSome then CodeResult.dropped else CodeResult.none).num =
        [if code.isSome then 3 else 0] := by cases code <;> rfl
    rw [← hbyte]
    unfold takeKick
    simp only [hcode]
    cases hs : (takeHeld s).hps.state with
    | booting => exact absurd hs hboot
    | running => exact absurd hs hrun
    | stopping => exact absurd hs hstop
    | _ => rfl
  refine congrArg _ ((dispatch_of_due hdue (takeKick _)).trans (hanswer.trans ?_))
  exact answerThen_replying (s := s) (by decide) rfl _ _ _

theorem judgeKick_honoured (r : Request) (code : Option Word16) {k : Nat} {s : State} (hphase : s.weu.phase = .windowed)
    (htimer : s.weu.kickTimer = some k) (hwindow : s.weu.windowInForce ≤ k) : judgeKick r code s =
      kickAnswer r .ok code (s.setWeu (restartKick s.settings.watchdog s.weu)) := by
  unfold judgeKick
  rw [if_pos hphase, htimer]
  exact if_pos hwindow

theorem judgeKick_off (r : Request) (code : Option Word16) {s : State} (hphase : s.weu.phase = .off) :
    judgeKick r code s = kickAnswer r .ok code s := by
  unfold judgeKick
  rw [if_neg (by rw [hphase]; decide)]

theorem judgeKick_early (r : Request) (code : Option Word16) {k : Nat} {s : State} (hphase : s.weu.phase = .windowed)
    (htimer : s.weu.kickTimer = some k) (hwindow : k < s.weu.windowInForce) : judgeKick r code s =
      if s.hps.state = .running ∧ s.settings.watchdog.earlyPolicy = .restart then
        escalate .wdEarly none (kickAnswer r .early code (earlyKick k s))
      else kickAnswer r .early code
        ((earlyKick k s).setWeu { s.weu with earlyCount := satInc 255 s.weu.earlyCount }) := by
  unfold judgeKick
  rw [if_pos hphase, htimer]
  dsimp only [Option.getD_some]
  rw [if_neg (Nat.not_le.2 hwindow), earlyKick_weu]

end Sys2Proof.Machine

namespace Sys2Proof.Proofs
open Sys2Proof.Machine Sys2Proof.Safety

/-- Settles O18: WEU judges the kick, then its code and its reply are the same in every case. -/
theorem kickByStateAndWindow : Obligations.KickByStateAndWindow := by
  refine ⟨fun tag payload code s hdue hcode hstate => ?_, fun _ _ _ _ => kick_refused⟩
  have hexec := kick_of_due hdue hcode hstate
  have htaken : LatchesKept [] s (takeHeld s) := latchesKept_of_cnu rfl rfl rfl rfl
  refine ⟨fun k hphase htimer hwindow => ?_, fun hphase => ?_, fun k hphase htimer hwindow hcounted => ?_⟩
  · have hreplied := kickAnswer_replied (tag := tag) (payload := payload) (st := .ok) code
      ((takeHeld_judged s).setWeu (restartKick s.settings.watchdog s.weu))
    rw [judgeKick_honoured _ code (s := takeHeld s) hphase htimer hwindow] at hexec
    obtain ⟨hhps, hkeq, hunits, hhanded, hseen, hlnk, houtside⟩ := hreplied
    refine ⟨_, hexec, kickAnswer_weu .., hhps, hkeq, hunits, hhanded, hseen, ?_, hlnk, houtside⟩
    exact latchesKept_kickAnswer (latchesKept_setWeu htaken _) _ _ code
  · have hreplied := kickAnswer_replied (tag := tag) (payload := payload) (st := .ok) code (takeHeld_judged s)
    rw [judgeKick_off _ code (s := takeHeld s) hphase] at hexec
    obtain ⟨hhps, hkeq, hunits, hhanded, hseen, hlnk, houtside⟩ := hreplied
    refine ⟨_, hexec, kickAnswer_weu .., hhps, hkeq, hunits, hhanded, hseen, ?_, hlnk, houtside⟩
    exact latchesKept_kickAnswer htaken _ _ code
  · have hpass : ¬ ((takeHeld s).hps.state = .running ∧ (takeHeld s).settings.watchdog.earlyPolicy = .restart) := by
      rintro ⟨hrun, hpolicy⟩
      rcases hcounted with hstopping | hcount
      · exact absurd (hrun.symm.trans hstopping) (by decide)
      · exact absurd (hpolicy.symm.trans hcount) (by decide)
    have hreplied := kickAnswer_replied (tag := tag) (payload := payload) (st := .early) code
      (((takeHeld_judged s).earlyKick k).setWeu { s.weu with earlyCount := satInc 255 s.weu.earlyCount })
    rw [judgeKick_early _ code (s := takeHeld s) hphase htimer hwindow, if_neg hpass] at hexec
    obtain ⟨hhps, hkeq, hunits, hhanded, hseen, hlnk, houtside⟩ := hreplied
    refine ⟨_, hexec, kickAnswer_weu .., hhps, hkeq, hunits, hhanded, hseen, ?_, ?_, hlnk, houtside⟩
    · exact latchesKept_kickAnswer (latchesKept_setWeu (latchesKept_earlyKick htaken k) _) _ _ code
    · exact posted_then (posted_of_inbox (t := takeHeld s) rfl (earlyKick_posted k _))
        ((kickAnswer_appends ..).step (.setWeu _ _))

end Sys2Proof.Proofs

namespace Sys2Proof.Machine
open Sys2Proof.Safety

/-! ### Failures of the watchdog (R80, R82, R86, R88) -/

/-- No order counts an early kick (R61, R79). -/
theorem perform_earlyCount (o : Order) (s : State) : (perform o s).weu.earlyCount = s.weu.earlyCount := by
  have hrun : o.host ≠ .running := by cases o <;> nofun
  have hentry := enterState_weu hrun o.stage (o.timer s) (s.setHps (o.given s))
  rw [weuOnEntry_off o.resetAsserted_host] at hentry
  rw [perform_eq]
  have hcount : (enterState o.host o.stage (o.timer s) (s.setHps (o.given s))).weu.earlyCount = s.weu.earlyCount := by
    rw [hentry]
    rfl
  cases o with
  | reset => exact hcount
  | cycle off =>
    unfold Order.finish
    dsimp only
    split
    · exact hcount
    · exact hcount
  | lockout => exact (congrArg Weu.earlyCount (raise_weu _ _)).trans hcount

theorem escalate_earlyCount (reason : Reason) (unit : Option TrigUnit) (s : State) :
    (escalate reason unit s).weu.earlyCount = s.weu.earlyCount := by
  unfold escalate
  dsimp only
  split <;> rw [perform_earlyCount] <;> rfl

/-- An escalation given in `u`, told from an earlier state with the same host and the same book. -/
theorem escalate_after {reason : Reason} {unit : Option TrigUnit} {s u : State} (hkept : OutsideKept s u)
    (hhps : u.hps = s.hps) (hbook : BookKept s u) (hrst : s.hostRstN = false) :
    Escalated reason unit s (escalate reason unit u) ∧ (escalate reason unit u).lnk = { u.lnk with held := [] } := by
  obtain ⟨hescalated, hpins⟩ := escalate_escalated reason unit u
  have hcpt : u.cpt.ring = s.cpt.ring ∧ u.cpt.frozen = s.cpt.frozen ∧ u.cpt.frozenAt = s.cpt.frozenAt := by
    rw [hbook.cpt]
    exact ⟨rfl, rfl, rfl⟩
  refine ⟨escalated_of_same hkept.settings ⟨hkept.time, hkept.zmon, hcpt, hbook.step, hbook.attempts⟩ (by rw [hhps])
    hkept.powerGood hescalated, (hpins ?_).2⟩
  rw [State.hostRstN, hhps]
  exact hrst

/-- The watchdog runs out in RUNNING (R82, R88). -/
theorem wdExpired_escalates {k : Nat} {s : State} (hstate : s.hps.state = .running)
    (htimer : s.weu.kickTimer = some k) :
    let t := escalate .wdExpired none (latchExpiry s)
    Escalated .wdExpired none s t ∧ HostLost s t ∧ t.latched .wdExpired = true ∧
      Posted ⟨.watchdog, 0, (min 65535 k : Nat)⟩ s t ∧ t.lnk = { s.lnk with held := [] } := by
  have hreach := latchExpiry_reach s
  have hkept := latchExpiry_bookKept s
  obtain ⟨hescalated, hlnk⟩ := escalate_after (reason := .wdExpired) (unit := none) hreach.kept (latchExpiry_hps s)
    hkept ((hostRstN_iff s).2 (.inr (.inl hstate)))
  have happends := escalate_appends .wdExpired none (latchExpiry s)
  refine ⟨hescalated, hostLost_of_reach hreach (escalate_lost _ _ _), happends.tells.latched _ (latchExpiry_latched s),
    posted_then (latchExpiry_posted htimer) happends, ?_⟩
  rw [hlnk, latchExpiry, post_lnk, raise_lnk]

/-- The boot allowance has run out: latched and posted (R80). -/
def latchBootTimeout (s : State) : State :=
  post (event .watchdog 2 (min 65535 (s.weu.bootTimer.getD 0))) (raise .bootTimeout s)

theorem bootTimeout_eq {s : State} (h : s.bootOver = true) :
    exec .bootTimeout s = .next (escalate .bootTimeout none (latchBootTimeout s)) := by
  rw [exec, execBootTimeout, if_pos h, latchBootTimeout]

theorem latchBootTimeout_posted {b : Nat} {s : State} (h : s.weu.bootTimer = some b) :
    Posted ⟨.watchdog, 2, (min 65535 b : Nat)⟩ s (latchBootTimeout s) := by
  have harg : ((min 65535 b : Nat) : Int) = min 65535 (b : Int) := by omega
  rw [latchBootTimeout, h, harg]
  exact posted_of_inbox (t := raise .bootTimeout s) (by rw [raise_tmx]) (post_posted _ _)

/-- The boot allowance runs out (R80, R88). -/
theorem bootTimeout_escalates {b : Nat} {s : State} (hstate : s.hps.state = .booting)
    (htimer : s.weu.bootTimer = some b) :
    let t := escalate .bootTimeout none (latchBootTimeout s)
    Escalated .bootTimeout none s t ∧ HostLost s t ∧ t.latched .bootTimeout = true ∧
      Posted ⟨.watchdog, 2, (min 65535 b : Nat)⟩ s t ∧ t.lnk = { s.lnk with held := [] } := by
  have hreach : HostReach s (latchBootTimeout s) := (HostReach.post _ _).step (HostReach.raise _ s)
  have hkept : BookKept s (latchBootTimeout s) := (BookKept.post _ _).after (.raise _ s)
  have hhps : (latchBootTimeout s).hps = s.hps := by rw [latchBootTimeout, post_hps, raise_hps]
  have hlatched : (latchBootTimeout s).latched .bootTimeout = true := post_latched_mono _ _ (raise_latched_self _ s)
  obtain ⟨hescalated, hlnk⟩ := escalate_after (reason := .bootTimeout) (unit := none) hreach.kept hhps
    hkept ((hostRstN_iff s).2 (.inl hstate))
  have happends := escalate_appends .bootTimeout none (latchBootTimeout s)
  refine ⟨hescalated, hostLost_of_reach hreach (escalate_lost _ _ _), happends.tells.latched _ hlatched,
    posted_then (latchBootTimeout_posted htimer) happends, ?_⟩
  rw [hlnk, latchBootTimeout, post_lnk, raise_lnk]

/-- The code of a kick goes into the same trace wherever WEU has judged it (R104, R106). -/
theorem handCode_cpt_of_same (code : Option Word16) {s t : State} (hcpt : t.cpt = s.cpt) (htime : t.time = s.time) :
    (handCode code t).1.cpt = (handCode code s).1.cpt := by
  unfold handCode
  cases code with
  | none => exact hcpt
  | some c =>
    dsimp only
    rw [hcpt]
    split
    · exact hcpt
    · unfold takeCode
      dsimp only
      rw [post_cpt, post_cpt, hcpt, htime]
      rfl

theorem outsideKept_symm {s t : State} (h : OutsideKept s t) : OutsideKept t s :=
  ⟨h.time.symm, h.settings.symm, h.zmon.symm, h.hsch.symm, h.afm.symm, h.ksu.symm, h.pst.symm, h.hold.symm,
    h.powerGood.symm, h.lastSent.symm, h.pending.symm⟩

/-- The early kick's failure is escalated with its reply being sent and its code in the trace (R81, R106). -/
theorem earlyKick_escalates {tag : Byte} {payload : List Byte} (code : Option Word16) (k : Nat) {s : State}
    (hstate : s.hps.state = .running) :
    let t := escalate .wdEarly none (kickAnswer ⟨0x10, tag, payload⟩ .early code (earlyKick k (takeHeld s)))
    Escalated .wdEarly none (handCode code s).1 t ∧ HostLost s t ∧ t.weu.earlyCount = s.weu.earlyCount ∧
      Posted ⟨.watchdog, 1, (min 65535 k : Nat)⟩ s t ∧ t.latched .wdEarly = true ∧
      t.lnk = replyingAlone s 0x10 tag .early (u8 (handCode code s).2.num) := by
  have hjudged := (takeHeld_judged s).earlyKick k
  have hreplied := kickAnswer_replied (tag := tag) (payload := payload) (st := .early) code hjudged
  have hweu := (kickAnswer_weu ⟨0x10, tag, payload⟩ .early code _).trans (earlyKick_weu k (takeHeld s))
  have hcpt := handCode_cpt_of_same code hjudged.cpt hjudged.outside.time
  have hanswered := kickAnswer_appends ⟨0x10, tag, payload⟩ .early code (earlyKick k (takeHeld s))
  have hlatched := hanswered.tells.latched _ (earlyKick_latched k (takeHeld s))
  have hposted := posted_then (posted_of_inbox (s := s) (t := takeHeld s) rfl (earlyKick_posted k _)) hanswered
  change (kickAnswer ⟨0x10, tag, payload⟩ .early code (earlyKick k (takeHeld s))).cpt = _ at hcpt
  generalize kickAnswer ⟨0x10, tag, payload⟩ .early code (earlyKick k (takeHeld s)) = u at *
  have hcode := (handCode_reach code s).kept
  have hkept := outsideKept_trans (outsideKept_symm hcode) hreplied.outside
  have hbook : BookKept (handCode code s).1 u := by
    have hsame : u.weu = (handCode code s).1.weu := hweu.trans (handCode_kept code s).weu.symm
    exact .of_blocks hcpt hsame (by rw [hkept.settings]) hkept.pst
  obtain ⟨hescalated, hlnk⟩ := escalate_after (reason := .wdEarly) (unit := none) hkept
    (hreplied.hps.trans (handCode_hps code s).symm) hbook
    ((hostRstN_iff _).2 (.inr (.inl (by rw [handCode_hps, hstate]))))
  have happends := escalate_appends .wdEarly none u
  refine ⟨hescalated, hostLost_of_kept hreplied.outside hreplied.units (by rw [hweu]; rfl) (escalate_lost _ _ _),
    (escalate_earlyCount _ _ _).trans (by rw [hweu]; rfl), posted_then hposted happends,
    happends.tells.latched _ hlatched, ?_⟩
  rw [hlnk, hreplied.lnk]
  rfl

end Sys2Proof.Machine

namespace Sys2Proof.Proofs
open Sys2Proof.Machine Sys2Proof.Safety

/-- Settles O19: WEU notes the early kick and LNK its reply before the escalation. -/
theorem earlyKickEscalates : Obligations.EarlyKickEscalates := by
  intro tag payload code k s hdue hcode hstate hphase htimer hwindow hpolicy
  refine ⟨_, (kick_of_due hdue hcode (.inl hstate)).trans ?_, earlyKick_escalates (payload := payload) code k hstate⟩
  rw [judgeKick_early _ code (s := takeHeld s) hphase htimer hwindow]
  exact congrArg _ (if_pos ⟨hstate, hpolicy⟩)

/-- Settles O23: the condition and the event come first, then the escalation. -/
theorem watchdogExpiryEscalates : Obligations.WatchdogExpiryEscalates := by
  refine ⟨fun k s hstate hphase htimer hover => ⟨_, ?_, wdExpired_escalates hstate htimer⟩,
    fun b s hstate hphase htimer hover => ⟨_, bootTimeout_eq ?_, bootTimeout_escalates hstate htimer⟩⟩
  · rw [exec, execWdExpired, if_pos (by simp [State.kickOver, hphase, htimer, hover]), if_pos hstate]
  · simp [State.bootOver, hstate, hphase, htimer, hover]

end Sys2Proof.Proofs

namespace Sys2Proof.Safety
open Sys2Proof.Machine

/-! ### Values on the link, high byte first (R190) -/

/-- A value in `width` bytes, high byte first: what `Shows` looks for. -/
def bigEndian (width value : Nat) : List Byte :=
  (List.range width).reverse.map fun i => BitVec.ofNat 8 (value / 256 ^ i)

theorem bigEndian_length (width value : Nat) : (bigEndian width value).length = width := by
  simp [bigEndian]

/-- The byte of a word that starts at bit `start`. -/
theorem extractLsb'_ofNat (w n start : Nat) (h : start + 8 ≤ w) :
    (BitVec.ofNat w n).extractLsb' start 8 = BitVec.ofNat 8 (n / 2 ^ start) := by
  refine BitVec.eq_of_getLsbD_eq fun i hi => ?_
  rw [BitVec.getLsbD_extractLsb', BitVec.getLsbD_ofNat, BitVec.getLsbD_ofNat, Nat.testBit_div_two_pow,
    decide_eq_true hi, decide_eq_true (by omega : start + i < w), Nat.add_comm i start, Bool.true_and]

theorem u8_eq (n : Nat) : u8 n = bigEndian 1 n := by
  simp [u8, bigEndian]

theorem u16_eq (n : Nat) : u16 n = bigEndian 2 n := by
  rw [u16, bytes16, extractLsb'_ofNat 16 n 8 (by decide), extractLsb'_ofNat 16 n 0 (by decide)]
  rfl

theorem u32_eq (n : Nat) : u32 n = bigEndian 4 n := by
  rw [u32, bytes32, extractLsb'_ofNat 32 n 24 (by decide), extractLsb'_ofNat 32 n 16 (by decide),
    extractLsb'_ofNat 32 n 8 (by decide), extractLsb'_ofNat 32 n 0 (by decide)]
  rfl

theorem u24_eq (n : Nat) : u24 n = bigEndian 3 n := by
  change (u32 n).drop 1 = _
  rw [u32_eq]
  rfl

theorem bytes16_eq (w : Word16) : bytes16 w = bigEndian 2 w.toNat := by
  rw [← u16_eq, u16, BitVec.ofNat_toNat, BitVec.setWidth_eq]

theorem bytes32_eq (w : Word32) : bytes32 w = bigEndian 4 w.toNat := by
  rw [← u32_eq, u32, BitVec.ofNat_toNat, BitVec.setWidth_eq]

theorem i32_eq (x : Int) : i32 x = bigEndian 4 (BitVec.ofInt 32 x).toNat := bytes32_eq _

theorem i16_eq (x : Int) : i16 x = bigEndian 2 (signed16 x) := bytes16_eq _

theorem temp?_eq (t : Option Int) : temp? t = bigEndian 2 (tempOrAbsent t) := i16_eq _

theorem u8?_eq (x : Option Nat) : u8? x = bigEndian 1 (orAbsent 1 x) := by
  cases x with
  | none => rfl
  | some n => exact u8_eq n

theorem u16?_eq (x : Option Nat) : u16? x = bigEndian 2 (orAbsent 2 x) := by
  cases x with
  | none => rfl
  | some n => exact u16_eq n

theorem u32?_eq (x : Option Nat) : u32? x = bigEndian 4 (orAbsent 4 x) := by
  cases x with
  | none => rfl
  | some n => exact u32_eq n

/-! ### Flags -/

/-- The value of a byte of flags, bit 0 first. -/
def flags (bits : List Bool) : Nat := bits.foldr (fun b n => b.toNat + 2 * n) 0

theorem flagByte_eq (bits : List Bool) : flagByte bits = bigEndian 1 (flags bits) := u8_eq _

theorem testBit_flags {bits : List Bool} {i : Nat} {b : Bool} (h : bits[i]? = some b) : (flags bits).testBit i = b := by
  induction bits generalizing i with
  | nil => cases h
  | cons a rest ih =>
    have hflags : flags (a :: rest) = 2 * flags rest + a.toNat := Nat.add_comm _ _
    cases i with
    | zero =>
      cases h
      rw [hflags, Nat.testBit_zero]
      cases b <;> simp
    | succ i =>
      have hbit := a.toNat_lt
      rw [hflags, Nat.testBit_succ, show (2 * flags rest + a.toNat) / 2 = flags rest by omega]
      exact ih h

/-! ### Where a page shows a value -/

theorem shows_bigEndian (width value : Nat) : Shows (bigEndian width value) 0 width value :=
  List.take_of_length_le (bigEndian_length width value).le

/-- What comes before a page moves its places. -/
theorem Shows.prepend {page : List Byte} {place width value : Nat} (h : Shows page place width value)
    (before : List Byte) : Shows (before ++ page) (before.length + place) width value := by
  unfold Shows at h ⊢
  rwa [List.drop_length_add_append]

/-- What comes behind a page changes nothing on it. -/
theorem Shows.append {page : List Byte} {place width value : Nat} (h : Shows page place width value)
    (behind : List Byte) : Shows (page ++ behind) place width value := by
  unfold Shows at h ⊢
  have hlength := congrArg List.length h
  rw [List.length_take, List.length_drop, List.length_map, List.length_reverse, List.length_range] at hlength
  rcases Nat.eq_zero_or_pos width with rfl | hwidth
  · rfl
  · rw [List.drop_append_of_le_length (by omega), List.take_append_of_le_length (by rw [List.length_drop]; omega)]
    exact h

/-- Entries of one size follow one another. -/
theorem Shows.entry {α : Type} {f : α → List Byte} {size : Nat} (hsize : ∀ a, (f a).length = size) {l : List α}
    {i : Nat} {a : α} (ha : l[i]? = some a) {place width value : Nat} (h : Shows (f a) place width value) :
    Shows (l.flatMap f) (size * i + place) width value := by
  induction l generalizing i with
  | nil => cases ha
  | cons x rest ih =>
    rw [List.flatMap_cons]
    cases i with
    | zero =>
      cases ha
      rw [Nat.mul_zero, Nat.zero_add]
      exact h.append _
    | succ i =>
      have hrest := (ih ha).prepend (f x)
      rwa [hsize x, ← Nat.add_assoc, Nat.add_comm size, ← Nat.mul_succ] at hrest

/-- A byte of flags shows each of its bits. -/
theorem Shows.bit {page : List Byte} {place : Nat} {bits : List Bool} (h : Shows page place 1 (flags bits)) {i : Nat}
    {b : Bool} (hi : i < 8) (hb : bits[i]? = some b) : ShowsBit page place i b := by
  have hbyte : page[place]? = some (BitVec.ofNat 8 (flags bits)) := by
    have hhead := congrArg List.head? h
    rw [List.head?_take, if_neg one_ne_zero, List.head?_drop] at hhead
    simpa using hhead
  unfold ShowsBit
  rw [List.getD_eq_getElem?_getD, hbyte, Option.getD_some, BitVec.getLsbD_ofNat, decide_eq_true hi, Bool.true_and]
  exact testBit_flags hb

/-! ### A page as its fields -/

/-- The bytes of a page from the width and value of each of its fields. -/
def layout (fields : List (Nat × Nat)) : List Byte := fields.flatMap fun f => bigEndian f.1 f.2

theorem layout_cons (f : Nat × Nat) (fields : List (Nat × Nat)) :
    layout (f :: fields) = bigEndian f.1 f.2 ++ layout fields := List.flatMap_cons

theorem layout_nil : layout [] = [] := rfl

theorem layout_append (fields more : List (Nat × Nat)) : layout (fields ++ more) = layout fields ++ layout more :=
  List.flatMap_append

theorem layout_flatMap {α : Type} (l : List α) (f : α → List (Nat × Nat)) :
    layout (l.flatMap f) = l.flatMap fun a => layout (f a) := List.flatMap_assoc

theorem layout_length (fields : List (Nat × Nat)) : (layout fields).length = (fields.map Prod.fst).sum := by
  simp [layout, List.length_flatMap, bigEndian_length]

/-- The field that begins at a place. -/
def fieldAt : List (Nat × Nat) → Nat → Option (Nat × Nat)
  | [], _ => none
  | f :: rest, place => if place = 0 then some f else if f.1 ≤ place then fieldAt rest (place - f.1) else none

theorem shows_layout {fields : List (Nat × Nat)} {place width value : Nat}
    (h : fieldAt fields place = some (width, value)) : Shows (layout fields) place width value := by
  induction fields generalizing place with
  | nil => cases h
  | cons f rest ih =>
    rw [layout_cons]
    rw [fieldAt] at h
    split at h
    · cases h
      subst place
      exact (shows_bigEndian width value).append _
    · split at h
      · have hrest := (ih h).prepend (bigEndian f.1 f.2)
        rwa [bigEndian_length, Nat.add_sub_of_le ‹_›] at hrest
      · cases h

/-- The field of one of the entries of a page that are of one size. -/
theorem shows_entry {α : Type} (before : List (Nat × Nat)) (f : α → List (Nat × Nat)) {size offset : Nat}
    (hsize : ∀ a, ((f a).map Prod.fst).sum = size)
    (hbefore : (before.map Prod.fst).sum = offset) {l : List α} {i : Nat} {a : α} (ha : l[i]? = some a)
    (after : List (Nat × Nat)) {place width value : Nat} (h : fieldAt (f a) place = some (width, value)) :
    Shows (layout (before ++ l.flatMap f ++ after)) (offset + size * i + place) width value := by
  have hentry := Shows.entry (f := fun a => layout (f a)) (fun a => (layout_length _).trans (hsize a)) ha
    (shows_layout h)
  rw [layout_append, layout_append, layout_flatMap, Nat.add_assoc, ← hbefore, ← layout_length]
  exact (hentry.prepend _).append _

/-- The size of a page whose entries are of one size. -/
theorem entries_length {α : Type} (before : List (Nat × Nat)) (f : α → List (Nat × Nat)) {size offset : Nat}
    (hsize : ∀ a, ((f a).map Prod.fst).sum = size) (hbefore : (before.map Prod.fst).sum = offset) (l : List α) :
    (layout (before ++ l.flatMap f)).length = offset + size * l.length := by
  rw [layout_append, List.length_append, layout_length, hbefore, layout_flatMap, List.length_flatMap,
    List.map_congr_left fun a _ => (layout_length (f a)).trans (hsize a), List.map_const', List.sum_replicate_nat,
    Nat.mul_comm]

end Sys2Proof.Safety

namespace Sys2Proof.Safety
open Sys2Proof.Machine

/-! ### The status pages as their fields (R192) -/

theorem twoBits_flags (b : Bool) {n : Nat} (h : n < 4) : flags (b :: twoBits n) = b.toNat + 2 * n := by
  interval_cases n <;> rfl

/-- The flags of page 0. -/
def hostFlags (s : State) : List Bool :=
  [s.hps.warmTimeout, s.hps.stopRequest.isSome, s.hps.wakeOnTrigger, s.hps.preheat, s.hps.pendingOn, s.hostPwrEn,
    s.hostRstN, s.powerGood]

/-- The stable timer on page 0, as the number that stands for it (R192). -/
def stableNum : StableTimer → Nat
  | .none => 0xFFFF
  | .done => 0xFFFE
  | .counting sec _ => sec

/-- The fields of page 0, in their order. -/
def page0Fields (s : State) : List (Nat × Nat) :=
  [(1, 0), (1, 0), (1, s.hps.state.num), (1, s.hps.prev.num), (1, s.hps.stage.num), (4, orAbsent 4 s.hps.stageTimer),
    (2, s.hps.qualClock), (1, flags (hostFlags s)), (1, s.hps.stopCause.num),
    (1, orAbsent 1 (s.hps.stopZone.map Four.num)), (1, s.hps.destination.host.num),
    (4, orAbsent 4 (s.hps.wakeAt.map (secondsTo · s.time.sec))), (2, s.hps.lead), (4, orAbsent 4 s.hps.retryTimer),
    (1, s.weu.phase.num), (4, orAbsent 4 s.weu.timeLeft), (4, s.weu.windowInForce), (1, s.weu.earlyCount),
    (1, s.weu.step), (1, s.weu.attempts), (1, s.settings.ladder.stepCount), (2, stableNum s.weu.stable),
    (1, s.weu.records.length), (1, orAbsent 1 (s.weu.records.getLast?.map (·.outcome.num))),
    (1, flags [s.weu.reportDue, s.weu.policyLock])]

theorem onPage_eq (t : StableTimer) : t.onPage = bigEndian 2 (stableNum t) := by
  cases t <;> exact u16_eq _

theorem page0_eq (s : State) : page0 s = layout (page0Fields s) := by
  have hnumber : [0, 0] = bigEndian 1 0 ++ bigEndian 1 0 := rfl
  unfold page0
  simp only [hnumber, u8_eq, u16_eq, u32_eq, u8?_eq, u32?_eq, flagByte_eq, onPage_eq, List.append_assoc,
    page0Fields, hostFlags, layout_cons, layout_nil, List.append_nil]

theorem page0_shows (s : State) : Page0Shows s (page0 s) := by
  rw [page0_eq]
  have hhost : Shows (layout (page0Fields s)) 11 1 (flags (hostFlags s)) := shows_layout rfl
  have hflags : Shows (layout (page0Fields s)) 42 1 (flags [s.weu.reportDue, s.weu.policyLock]) := shows_layout rfl
  exact {
    states := ⟨shows_layout rfl, shows_layout rfl⟩
    stage := ⟨shows_layout rfl, shows_layout rfl⟩
    clock := shows_layout rfl
    warmUp := ⟨hhost.bit (by decide) rfl, hhost.bit (by decide) rfl⟩
    stopFlags := ⟨hhost.bit (by decide) rfl, hhost.bit (by decide) rfl, hhost.bit (by decide) rfl⟩
    pins := ⟨hhost.bit (by decide) rfl, hhost.bit (by decide) rfl, hhost.bit (by decide) rfl⟩
    stop := ⟨shows_layout rfl, shows_layout rfl, shows_layout rfl⟩
    wake := shows_layout rfl
    lead := shows_layout rfl
    retry := shows_layout rfl
    phase := shows_layout rfl
    timeLeft := shows_layout rfl
    window := shows_layout rfl
    early := shows_layout rfl
    ladder := ⟨shows_layout rfl, shows_layout rfl, shows_layout rfl⟩
    stable := shows_layout rfl
    records := ⟨shows_layout rfl, shows_layout rfl⟩
    flags := ⟨hflags.bit (by decide) rfl, hflags.bit (by decide) rfl⟩ }

theorem page0_length (s : State) : (page0 s).length = 43 := by
  rw [page0_eq, layout_length]
  simp [page0Fields]

/-- The flags of page 1. -/
def climateFlags (s : State) : List Bool :=
  [s.hsch.hostReserve, s.hsch.fanReserve, s.hsch.shed, s.afm.running, s.afm.stalled, s.afm.clogged, s.zmon.supplyLow]

/-- The fields of a heater on page 1. -/
def heaterFields (h : HeaterRec) (k : FaultKind) : List (Nat × Nat) :=
  [(2, tempOrAbsent (if h.fromError then h.target else none)), (1, h.dem), (1, h.g), (2, h.lastCurrent),
    (1, h.output.toNat + 2 * k.num)]

theorem heaterOnPage_eq (h : HeaterRec) (k : FaultKind) : heaterOnPage h k = layout (heaterFields h k) := by
  have hkind : k.num < 4 := by cases k <;> decide
  unfold heaterOnPage heaterFields
  simp only [temp?_eq, u8_eq, u16_eq, flagByte_eq, twoBits_flags _ hkind, layout_cons, layout_nil, List.append_assoc,
    List.append_nil]

/-- The fields of a zone on page 1. -/
def zoneFields (z : ZoneRec) : List (Nat × Nat) :=
  [(2, tempOrAbsent z.temp), (1, (!z.valid).toNat + 2 * z.alarm.num), (2, z.inWindow)]

theorem zoneOnPage_eq (z : ZoneRec) : zoneOnPage z = layout (zoneFields z) := by
  have halarm : z.alarm.num < 4 := by cases z.alarm <;> decide
  unfold zoneOnPage zoneFields
  simp only [temp?_eq, u16_eq, flagByte_eq, twoBits_flags _ halarm, layout_cons, layout_nil, List.append_assoc,
    List.append_nil]

/-- The fields of the three heaters on page 1. -/
def heatersFields (s : State) : List (Nat × Nat) :=
  Three.all.flatMap fun i => heaterFields (s.hsch.heaters.get i) (s.cnu.kinds.get i)

/-- The fields of page 1 before the heaters. -/
def periodFields (s : State) : List (Nat × Nat) :=
  [(1, 1), (1, 0), (1, flags (climateFlags s)), (2, s.hsch.avail), (2, s.hsch.energy), (2, s.hsch.unspent)]

/-- The fields of page 1 between the heaters and the zones. -/
def fanFields (s : State) : List (Nat × Nat) :=
  [(1, s.afm.duty), (1, s.afm.reason.num), (2, s.afm.speed), (2, orAbsent 2 s.afm.reference), (1, s.afm.learn.num),
    (1, s.afm.readings)]

/-- The fields of page 1, in their order. -/
def page1Fields (s : State) : List (Nat × Nat) :=
  periodFields s ++ heatersFields s ++ fanFields s ++ Four.all.flatMap (fun z => zoneFields (s.zmon.zones.get z)) ++
    [(2, s.zmon.supply)]

theorem page1_eq (s : State) : page1 s = layout (page1Fields s) := by
  have hnumber : [1, 0] = bigEndian 1 1 ++ bigEndian 1 0 := rfl
  unfold page1 page1Fields periodFields heatersFields fanFields climateFlags
  simp only [hnumber, u8_eq, u16_eq, u16?_eq, flagByte_eq, heaterOnPage_eq, zoneOnPage_eq, layout_append,
    layout_flatMap, layout_cons, layout_nil, List.append_assoc, List.append_nil]

theorem Three.all_num (i : Three) : Three.all[i.num]? = some i := by cases i <;> rfl
theorem Four.all_num (i : Four) : Four.all[i.num]? = some i := by cases i <;> rfl
theorem Six.all_num (i : Six) : Six.all[i.num]? = some i := by cases i <;> rfl

theorem page1_heater (s : State) (i : Heater) {place width value : Nat}
    (h : fieldAt (heaterFields (s.hsch.heaters.get i) (s.cnu.kinds.get i)) place = some (width, value)) :
    Shows (layout (page1Fields s)) (9 + 7 * i.num + place) width value := by
  have hsplit : page1Fields s = periodFields s ++ heatersFields s ++
      (fanFields s ++ Four.all.flatMap (fun z => zoneFields (s.zmon.zones.get z)) ++ [(2, s.zmon.supply)]) := by
    simp only [page1Fields, List.append_assoc]
  rw [hsplit]
  exact shows_entry (periodFields s) (fun i => heaterFields (s.hsch.heaters.get i) (s.cnu.kinds.get i))
    (fun _ => rfl) rfl (Three.all_num i) _ h

theorem page1_zone (s : State) (z : Zone) {place width value : Nat}
    (h : fieldAt (zoneFields (s.zmon.zones.get z)) place = some (width, value)) :
    Shows (layout (page1Fields s)) (38 + 5 * z.num + place) width value :=
  shows_entry (periodFields s ++ heatersFields s ++ fanFields s) (fun z => zoneFields (s.zmon.zones.get z))
    (fun _ => rfl) (by simp [periodFields, heatersFields, heaterFields, fanFields, Three.all]) (Four.all_num z) _ h

theorem page1_shows (s : State) : Page1Shows s (page1 s) := by
  rw [page1_eq]
  have hflags : Shows (layout (page1Fields s)) 2 1 (flags (climateFlags s)) := shows_layout rfl
  exact {
    reserves := ⟨hflags.bit (by decide) rfl, hflags.bit (by decide) rfl, hflags.bit (by decide) rfl⟩
    states := ⟨hflags.bit (by decide) rfl, hflags.bit (by decide) rfl, hflags.bit (by decide) rfl,
      hflags.bit (by decide) rfl⟩
    period := ⟨shows_layout rfl, shows_layout rfl, shows_layout rfl⟩
    heater := fun i => ⟨page1_heater s i (place := 0) rfl, page1_heater s i rfl, page1_heater s i rfl,
      page1_heater s i rfl, page1_heater s i rfl⟩
    duty := ⟨shows_layout rfl, shows_layout rfl⟩
    speed := ⟨shows_layout rfl, shows_layout rfl⟩
    learn := ⟨shows_layout rfl, shows_layout rfl⟩
    zone := fun z => ⟨page1_zone s z (place := 0) rfl, page1_zone s z rfl, page1_zone s z rfl⟩
    supply := shows_layout (by simp [fieldAt, page1Fields, periodFields, heatersFields, heaterFields, fanFields,
      zoneFields, Three.all, Four.all]) }

theorem page1_length (s : State) : (page1 s).length = 60 := by
  rw [page1_eq, layout_length]
  simp [page1Fields, periodFields, heatersFields, heaterFields, fanFields, zoneFields, Three.all, Four.all]

/-- The fields of page 2, part 0, in their order. -/
def keypadFields (s : State) : List (Nat × Nat) :=
  [(1, 2), (1, 0), (1, flags [s.ksu.condensation, s.ksu.frost, s.ksu.cover, s.ksu.suppressed]),
    (2, orAbsent 2 (coverLeft s)), (2, tempOrAbsent s.ksu.recalRef),
    (1, s.ksu.keys.countP (·.state == .quarantined)), (1, flags (s.ksu.chords.list.map (·.spent)))] ++
  s.ksu.chords.list.flatMap (fun c => [(2, chordHeld s.time.ms c)]) ++
  [(1, s.keq.queue.length), (1, s.keq.free), (1, s.keq.openKeys.length), (3, (s.keq.openKeys.map (2 ^ ·)).sum),
    (1, s.keq.lost), (1, s.lnk.rate.num), (2, s.lnk.gapCount), (2, s.lnk.lengthCount), (2, s.lnk.checkCount),
    (2, s.lnk.lineCount), (2, s.lnk.overrunCount), (2, s.lnk.breakCount)]

theorem page2Keys_eq (s : State) : page2Keys s = layout (keypadFields s) := by
  have hnumber : [2, 0] = bigEndian 1 2 ++ bigEndian 1 0 := rfl
  unfold page2Keys keypadFields keySetBytes
  simp only [hnumber, ← List.countP_eq_length_filter, u8_eq, u16_eq, u24_eq, u16?_eq, temp?_eq, flagByte_eq,
    layout_append, layout_flatMap, layout_cons, layout_nil, List.append_assoc, List.append_nil]

theorem page2Keys_shows (s : State) : KeypadPageShows s (page2Keys s) := by
  rw [page2Keys_eq]
  have hcauses : Shows (layout (keypadFields s)) 2 1
    (flags [s.ksu.condensation, s.ksu.frost, s.ksu.cover, s.ksu.suppressed]) := shows_layout rfl
  have hchords : Shows (layout (keypadFields s)) 8 1 (flags (s.ksu.chords.list.map (·.spent))) := shows_layout rfl
  exact {
    causes := ⟨hcauses.bit (by decide) rfl, hcauses.bit (by decide) rfl, hcauses.bit (by decide) rfl,
      hcauses.bit (by decide) rfl⟩
    coverHold := shows_layout rfl
    recalRef := shows_layout rfl
    quarantined := shows_layout rfl
    chord := fun i => by cases i <;> exact ⟨hchords.bit (by decide) rfl, shows_layout rfl⟩
    queue := ⟨shows_layout rfl, shows_layout rfl⟩
    openKeys := ⟨shows_layout rfl, shows_layout rfl⟩
    lost := shows_layout rfl
    rate := shows_layout rfl
    counts := ⟨shows_layout rfl, shows_layout rfl, shows_layout rfl, shows_layout rfl, shows_layout rfl,
      shows_layout rfl⟩ }

theorem page2Keys_length (s : State) : (page2Keys s).length = 41 := by
  rw [page2Keys_eq, layout_length]
  simp [keypadFields, PerSix.list]

/-- The fields of a trigger unit on page 2, part 1. -/
def unitFields (c : TriggerSettings) (r : UnitRec) : List (Nat × Nat) :=
  [(1, 128 * c.enabled.toNat + r.state.num), (1, r.count), (2, r.fires), (2, orAbsent 2 r.window)]

theorem unitOnPage_eq (c : TriggerSettings) (r : UnitRec) : unitOnPage c r = layout (unitFields c r) := by
  have hstate : r.state.num + (if c.enabled then 128 else 0) = 128 * c.enabled.toNat + r.state.num := by
    cases c.enabled <;> simp [Nat.add_comm]
  unfold unitOnPage unitFields
  simp only [hstate, u8_eq, u16_eq, u16?_eq, layout_cons, layout_nil, List.append_assoc, List.append_nil]

/-- The fields of page 2, part 1, in their order. -/
def unitsFields (s : State) : List (Nat × Nat) :=
  [(1, 2), (1, 1), (1, s.tmx.inbox.length)] ++
  Six.all.flatMap fun u => unitFields (s.settings.trigger.get u) (s.tmx.units.get u)

theorem page2Units_eq (s : State) : page2Units s = layout (unitsFields s) := by
  have hnumber : [2, 1] = bigEndian 1 2 ++ bigEndian 1 1 := rfl
  unfold page2Units unitsFields
  simp only [hnumber, u8_eq, unitOnPage_eq, layout_append, layout_flatMap, layout_cons, layout_nil, List.append_assoc,
    List.append_nil]

theorem page2Units_shows (s : State) : UnitsPageShows s (page2Units s) := by
  rw [page2Units_eq]
  have hunit (u : TrigUnit) {place width value : Nat}
      (h : fieldAt (unitFields (s.settings.trigger.get u) (s.tmx.units.get u)) place = some (width, value)) :
      Shows (layout (unitsFields s)) (3 + 6 * u.num + place) width value := by
    rw [← List.append_nil (unitsFields s)]
    exact shows_entry _ (fun u => unitFields (s.settings.trigger.get u) (s.tmx.units.get u)) (fun _ => rfl) rfl
      (Six.all_num u) [] h
  exact ⟨shows_layout rfl, fun u => ⟨hunit u (place := 0) rfl, hunit u rfl, hunit u rfl, hunit u rfl⟩⟩

theorem page2Units_length (s : State) : (page2Units s).length = 39 := by
  rw [page2Units_eq, layout_length]
  simp [unitsFields, unitFields, Six.all]

/-- The fields of a key on page 2, parts 2 to 6. -/
def keyFields (r : KeyRec) : List (Nat × Nat) :=
  [(1, r.state.num), (2, r.raw), (2, orAbsent 2 r.baseline), (2, signed16 r.delta)]

/-- The key that a part shows: one that is not fitted as it is after reset (R192). -/
def shownKey (s : State) (k : Nat) : KeyRec := if k < s.settings.keypad.keysFitted then s.ksu.key k else .initial

theorem keyOnPage_eq (s : State) (k : Nat) : keyOnPage s k = layout (keyFields (shownKey s k)) := by
  unfold keyOnPage keyFields shownKey
  simp only [u8_eq, u16_eq, u16?_eq, i16_eq, layout_cons, layout_nil, List.append_assoc, List.append_nil]

/-- The fields of page 2, parts 2 to 6, in their order. -/
def padsFields (part : Nat) (s : State) : List (Nat × Nat) :=
  [(1, 2), (1, part)] ++ (List.range 4).flatMap fun j => keyFields (shownKey s (4 * (part - 2) + j))

theorem page2Pads_eq (part : Nat) (s : State) : page2Pads part s = layout (padsFields part s) := by
  have hkeys : List.range 4 = [0, 1, 2, 3] := rfl
  unfold page2Pads padsFields
  simp only [hkeys, u8_eq, keyOnPage_eq, layout_append, layout_cons, layout_nil, List.flatMap_cons,
    List.flatMap_nil, List.append_assoc, List.append_nil, Nat.add_zero]

theorem page2Pads_shows (part : Nat) (s : State) : PadsPageShows part s (page2Pads part s) := by
  intro j hj k r place
  rw [page2Pads_eq]
  have hkey {at_ width value : Nat} (h : fieldAt (keyFields (shownKey s k)) at_ = some (width, value)) :
      Shows (layout (padsFields part s)) (place + at_) width value := by
    rw [← List.append_nil (padsFields part s)]
    exact shows_entry _ (fun j => keyFields (shownKey s (4 * (part - 2) + j))) (fun _ => rfl) rfl
      (List.getElem?_range hj) [] h
  split
  · rename_i hfitted
    rw [shownKey, if_pos hfitted] at hkey
    exact ⟨hkey (at_ := 0) rfl, hkey rfl, hkey rfl, hkey rfl⟩
  · rename_i hfitted
    rw [shownKey, if_neg hfitted] at hkey
    exact ⟨hkey (at_ := 0) rfl, hkey rfl, hkey rfl, hkey rfl⟩

theorem page2Pads_length (part : Nat) (s : State) : (page2Pads part s).length = 30 := by
  rw [page2Pads_eq, layout_length]
  simp [padsFields, keyFields, List.range_succ]

end Sys2Proof.Safety

namespace Sys2Proof.Safety
open Sys2Proof.Machine

/-! ### Traces, records and notices as their fields (R193) -/

theorem tracePage_eq (page : Nat) (trace : List TraceEntry) : tracePage page trace = pageEntries page trace := rfl

/-- The fields of an entry of a READ_TRACE page. -/
def agedFields (base : Word32) (e : TraceEntry) : List (Nat × Nat) :=
  [(2, e.code.toNat), (1, e.count), (3, min 16777215 (elapsed base e.time))]

theorem agedEntry_eq (base : Word32) : agedEntry base = fun e => layout (agedFields base e) := by
  funext e
  simp only [agedEntry, agedFields, bytes16_eq, u8_eq, u24_eq, layout_cons, layout_nil, List.append_assoc,
    List.append_nil]

/-- The fields of a READ_TRACE page before its entries. -/
def traceHead (c : Cpt) (base : Word32) : List (Nat × Nat) :=
  [(1, 128 * c.frozen.toNat + c.ring.length), (2, c.appends.toNat),
    (4, if c.frozen then (c.frozenAt.getD 0).toNat else 0), (4, base.toNat)]

/-- The time that the entries of a READ_TRACE page are counted back from (R111). -/
def traceBase (page : Nat) (c : Cpt) : Word32 := ((pageEntries page c.ring).getLast?.map TraceEntry.time).getD 0

theorem readTracePage_eq (page : Nat) (c : Cpt) : readTracePage page c =
    layout (traceHead c (traceBase page c) ++ (pageEntries page c.ring).flatMap (agedFields (traceBase page c))) := by
  have hstate : c.ring.length + (if c.frozen then 128 else 0) = 128 * c.frozen.toNat + c.ring.length := by
    cases c.frozen <;> simp [Nat.add_comm]
  have hfrozenAt : (if c.frozen then c.frozenAt.getD 0 else 0).toNat =
      if c.frozen then (c.frozenAt.getD 0).toNat else 0 := by
    cases c.frozen <;> rfl
  unfold readTracePage traceHead traceBase
  simp only [tracePage_eq, hstate, u8_eq, bytes16_eq, bytes32_eq, hfrozenAt, agedEntry_eq, layout_append,
    layout_flatMap, layout_cons, layout_nil, List.append_assoc, List.append_nil]

theorem readTracePage_shows (page : Nat) (c : Cpt) : TracePageShows page c (readTracePage page c) := by
  rw [readTracePage_eq]
  refine ⟨?_, shows_layout rfl, shows_layout rfl, shows_layout rfl, shows_layout rfl, fun i e he newest hnewest => ?_⟩
  · exact entries_length _ (agedFields (traceBase page c)) (fun _ => rfl) rfl _
  · have hbase : traceBase page c = newest.time := by rw [traceBase, hnewest]; rfl
    have hentry {place width value at_ : Nat} (hplace : 11 + 6 * i + place = at_)
        (h : fieldAt (agedFields newest.time e) place = some (width, value)) :
        Shows (layout (traceHead c (traceBase page c) ++
          (pageEntries page c.ring).flatMap (agedFields (traceBase page c)))) at_ width value := by
      have hshown := shows_entry (traceHead c newest.time) (agedFields newest.time) (size := 6) (offset := 11)
        (fun _ => rfl) rfl he [] h
      rwa [List.append_nil, hplace, ← hbase] at hshown
    exact ⟨hentry rfl (place := 0) rfl, hentry (place := 2) (by omega) rfl, hentry (place := 3) (by omega) rfl⟩

/-- The fields of the header of a restart record. -/
def headerFields (index listed : Nat) (r : RestartRecord) : List (Nat × Nat) :=
  [(1, index), (1, 0), (1, listed), (1, r.reason.num), (1, orAbsent 1 (r.trigUnit.map Six.num)), (1, r.step),
    (1, r.attempt), (1, r.action.num), (2, orAbsent 2 r.offTime), (4, r.time.toNat), (2, tempOrAbsent r.board),
    (2, tempOrAbsent r.front), (1, r.outcome.num), (1, r.trace.length), (1, r.frozenAt.isSome.toNat),
    (4, (r.frozenAt.getD 0).toNat)]

theorem header_eq (index listed : Nat) (r : RestartRecord) :
    r.header index listed = layout (headerFields index listed r) := by
  have hfrozen : (if r.frozenAt.isSome then 1 else 0) = r.frozenAt.isSome.toNat := by
    cases r.frozenAt.isSome <;> rfl
  unfold RestartRecord.header headerFields
  simp only [hfrozen, u8_eq, u8?_eq, u16?_eq, bytes32_eq, temp?_eq, layout_cons, layout_nil, List.append_assoc,
    List.append_nil]

theorem header_shows (index listed : Nat) (r : RestartRecord) :
    RestartHeaderShows index listed r (r.header index listed) := by
  rw [header_eq]
  exact {
    size := by rw [layout_length]; simp [headerFields]
    place := ⟨shows_layout rfl, shows_layout rfl, shows_layout rfl⟩
    reason := ⟨shows_layout rfl, shows_layout rfl⟩
    position := ⟨shows_layout rfl, shows_layout rfl⟩
    action := ⟨shows_layout rfl, shows_layout rfl⟩
    time := shows_layout rfl
    temperatures := ⟨shows_layout rfl, shows_layout rfl⟩
    outcome := shows_layout rfl
    trace := shows_layout rfl
    frozenAt := ⟨shows_layout rfl, shows_layout rfl⟩ }

/-- The fields of a trace entry of a restart record. -/
def entryFields (e : TraceEntry) : List (Nat × Nat) := [(2, e.code.toNat), (4, e.time.toNat), (1, e.count)]

theorem entryBytes_eq : TraceEntry.bytes = fun e => layout (entryFields e) := by
  funext e
  simp only [TraceEntry.bytes, entryFields, bytes16_eq, bytes32_eq, u8_eq, layout_cons, layout_nil, List.append_assoc,
    List.append_nil]

theorem tracePart_eq (index part : Nat) (r : RestartRecord) : r.tracePart index part =
    layout ([(1, index), (1, part)] ++ (pageEntries (part - 1) r.trace).flatMap entryFields) := by
  unfold RestartRecord.tracePart
  simp only [tracePage_eq, u8_eq, entryBytes_eq, layout_append, layout_flatMap, layout_cons, layout_nil,
    List.append_assoc, List.append_nil]

theorem tracePart_shows (index part : Nat) (r : RestartRecord) :
    RestartTraceShows index part r (r.tracePart index part) := by
  rw [tracePart_eq]
  refine ⟨entries_length _ entryFields (fun _ => rfl) rfl _, ⟨shows_layout rfl, shows_layout rfl⟩, fun i e he => ?_⟩
  have hentry {place width value at_ : Nat} (hplace : 2 + 7 * i + place = at_)
      (h : fieldAt (entryFields e) place = some (width, value)) :
      Shows (layout ([(1, index), (1, part)] ++ (pageEntries (part - 1) r.trace).flatMap entryFields)) at_ width
        value := by
    have hshown := shows_entry [(1, index), (1, part)] entryFields (size := 7) (offset := 2) (fun _ => rfl) rfl
      he [] h
    rwa [List.append_nil, hplace] at hshown
  exact ⟨hentry rfl (place := 0) rfl, hentry (place := 2) (by omega) rfl, hentry (place := 6) (by omega) rfl⟩

/-- A key record whose kind and repeat are shown as these numbers. -/
theorem keyRecord_shows (key kind times : Nat) (time : Word16) :
    let bytes := u8 key ++ u8 kind ++ bytes16 time ++ u8 times
    bytes.length = 5 ∧ Shows bytes 0 1 key ∧ Shows bytes 1 1 kind ∧ Shows bytes 2 2 time.toNat ∧
      Shows bytes 4 1 times := by
  have hbytes : u8 key ++ u8 kind ++ bytes16 time ++ u8 times =
      layout [(1, key), (1, kind), (2, time.toNat), (1, times)] := by
    simp only [u8_eq, bytes16_eq, layout_cons, layout_nil, List.append_assoc, List.append_nil]
  rw [hbytes]
  exact ⟨layout_length _, shows_layout rfl, shows_layout rfl, shows_layout rfl, shows_layout rfl⟩

theorem keyBytes_shows (r : KeyEvent) : KeyRecordShows r r.bytes := by
  obtain ⟨key, kind, time⟩ := r
  cases kind with
  | press =>
    obtain ⟨hsize, hkey, hkind, htime, htimes⟩ := keyRecord_shows key 0 0 time
    exact ⟨hsize, hkey, hkind, htime, htimes⟩
  | hold n =>
    obtain ⟨hsize, hkey, hkind, htime, htimes⟩ := keyRecord_shows key 1 n time
    exact ⟨hsize, hkey, hkind, htime, htimes⟩
  | release suppressed stuck =>
    obtain ⟨hsize, hkey, hkind, htime, htimes⟩ :=
      keyRecord_shows key (2 + 64 * suppressed.toNat + 128 * stuck.toNat) 0 time
    cases suppressed <;> cases stuck <;> exact ⟨hsize, hkey, hkind, htime, htimes⟩

/-! ### Notices (R193) -/

/-- The fields of a notice's kind. -/
def bodyFields : NoticeBody → List (Nat × Nat)
  | .condition c => [(1, c.id)]
  | .trigger u e => [(1, u.num), (1, e.cls.num), (1, e.index.toNat), (4, (BitVec.ofInt 32 e.arg).toNat)]
  | .shutdownRequest cause zone grace => [(1, cause.num), (1, orAbsent 1 (zone.map Four.num)), (2, grace)]
  | .operationDone op result value => [(1, op.num), (1, result.num), (2, orAbsent 2 value)]
  | .restartReport reason step action => [(1, reason.num), (1, step), (1, action.num)]

theorem byte_eq (b : Byte) : [b] = bigEndian 1 b.toNat := by
  rw [← u8_eq, u8, BitVec.ofNat_toNat, BitVec.setWidth_eq]

theorem noticeBody_eq (b : NoticeBody) : b.fields.2 = layout (bodyFields b) := by
  cases b <;>
    simp only [NoticeBody.fields, bodyFields, u8_eq, u16_eq, u8?_eq, u16?_eq, i32_eq, byte_eq, layout_cons, layout_nil,
      List.append_assoc, List.append_nil]

/-- Bytes of 0 behind fields fill them up to eight. -/
theorem layout_filled {fields : List (Nat × Nat)} (h : (fields.map Prod.fst).sum ≤ 8) :
    (layout fields ++ List.replicate 8 0).take 8 = layout (fields ++ [(8 - (fields.map Prod.fst).sum, 0)]) := by
  have hzero (n : Nat) : bigEndian n 0 = List.replicate n 0 := by
    simp [bigEndian]
  rw [List.take_append, layout_append, layout_cons, layout_nil, List.append_nil, hzero, layout_length,
    List.take_replicate, List.take_of_length_le (by rwa [layout_length]), Nat.min_eq_left (Nat.sub_le _ _)]

/-- The fields of a notice. -/
def noticeFields (n : Notice) : List (Nat × Nat) :=
  [(1, n.body.fields.1), (4, n.time.toNat)] ++
    (bodyFields n.body ++ [(8 - ((bodyFields n.body).map Prod.fst).sum, 0)])

theorem bodyFields_sum (b : NoticeBody) : ((bodyFields b).map Prod.fst).sum ≤ 8 := by
  cases b <;> simp [bodyFields]

theorem notice_eq (n : Notice) : n.bytes = layout (noticeFields n) := by
  unfold Notice.bytes noticeFields
  dsimp only
  rw [noticeBody_eq, layout_filled (bodyFields_sum _)]
  simp only [u8_eq, bytes32_eq, layout_append, layout_cons, layout_nil, List.append_assoc, List.append_nil]

theorem notice_shows (n : Notice) : NoticeShows n n.bytes := by
  obtain ⟨time, body⟩ := n
  have hsize := bodyFields_sum body
  rw [notice_eq]
  refine ⟨?_, shows_layout rfl, ?_⟩
  · rw [layout_length, noticeFields]
    simp
    omega
  cases body with
  | condition c => exact ⟨shows_layout rfl, shows_layout rfl, shows_layout rfl⟩
  | trigger u e =>
    exact ⟨shows_layout rfl, shows_layout rfl, shows_layout rfl, shows_layout rfl, shows_layout rfl, shows_layout rfl⟩
  | shutdownRequest cause zone grace =>
    exact ⟨shows_layout rfl, shows_layout rfl, shows_layout rfl, shows_layout rfl, shows_layout rfl⟩
  | operationDone op result value =>
    exact ⟨shows_layout rfl, shows_layout rfl, shows_layout rfl, shows_layout rfl, shows_layout rfl⟩
  | restartReport reason step action =>
    exact ⟨shows_layout rfl, shows_layout rfl, shows_layout rfl, shows_layout rfl, shows_layout rfl⟩

end Sys2Proof.Safety

namespace Sys2Proof.Safety
open Sys2Proof.Machine

/-! ### The requests that read (R97, R111, R170, R191, R192, R194) -/

/-- The answer of a request that changes nothing but LNK's slots. -/
theorem answer_taken {kind tag : Byte} {p : List Byte} (hk : kind.toNat < 0x80) (st : Status) (payload : List Byte)
    (s : State) : answer ⟨kind, tag, p⟩ st payload (takeHeld s) =
      s.setLnk (replying s kind tag st payload .nothing) :=
  answerThen_replying (s := s) hk rfl _ _ _

theorem ping_answers {tag : Byte} {s : State} (h : Due s 0x01 tag []) : exec (.ping tag []) s =
    .next (s.setLnk (replying s 0x01 tag .ok
      ([0x0C, 0x3A, 0x02, 0x16, 0x01] ++ bytes32 s.time.sec ++ [BitVec.ofNat 8 s.lnk.lastReset.num]) .nothing)) :=
  congrArg _ ((dispatch_of_due h _).trans (answer_taken (by decide) _ _ s))

theorem getConditions_answers {tag : Byte} {s : State} (h : Due s 0x03 tag []) : exec (.getConditions tag []) s =
    .next (s.setLnk (replying s 0x03 tag .ok
      (bytes32 s.cnu.latched ++ bytes32 s.cnu.live ++
        [BitVec.ofNat 8 (s.cnu.kinds.v0.num + 4 * s.cnu.kinds.v1.num + 16 * s.cnu.kinds.v2.num),
         BitVec.ofNat 8 s.cnu.notices.length, if s.cnu.overflow then 1 else 0]) .nothing)) := by
  have hreport : conditionsReport (takeHeld s) = bytes32 s.cnu.latched ++ bytes32 s.cnu.live ++
      [BitVec.ofNat 8 (s.cnu.kinds.v0.num + 4 * s.cnu.kinds.v1.num + 16 * s.cnu.kinds.v2.num),
        BitVec.ofNat 8 s.cnu.notices.length, if s.cnu.overflow then 1 else 0] := by
    change conditionsReport s = _
    rw [conditionsReport, kindsByte, u8_flag]
    rfl
  rw [← hreport]
  exact congrArg _ ((dispatch_of_due h _).trans (answer_taken (by decide) _ _ s))

theorem getStatus_answers {tag page part : Byte} {s : State} (h : Due s 0x02 tag [page, part]) :
    exec (.getStatus tag [page, part]) s = .next (s.setLnk
      (match statusPage page.toNat part.toNat s with
       | some bytes => replying s 0x02 tag .ok bytes .nothing
       | none => replying s 0x02 tag .badArg [] .nothing)) := by
  have hpage : statusPage page.toNat part.toNat (takeHeld s) = statusPage page.toNat part.toNat s := rfl
  refine congrArg _ ((dispatch_of_due h _).trans ?_)
  unfold getStatus
  dsimp only
  rw [hpage]
  cases statusPage page.toNat part.toNat s with
  | some bytes => exact answer_taken (by decide) _ _ s
  | none => exact answer_taken (by decide) _ _ s

theorem readTrace_answers {tag page : Byte} {s : State} (h : Due s 0x12 tag [page]) :
    exec (.readTrace tag [page]) s = .next (s.setLnk
      (if page.toNat ≤ 1 then replying s 0x12 tag .ok (readTracePage page.toNat s.cpt) .nothing
       else replying s 0x12 tag .badArg [] .nothing)) := by
  refine congrArg _ ((dispatch_of_due h _).trans ?_)
  unfold readTrace
  dsimp only
  split
  · exact answer_taken (by decide) _ _ s
  · exact answer_taken (by decide) _ _ s

theorem readRestart_answers {tag index part : Byte} {s : State} (h : Due s 0x14 tag [index, part]) :
    exec (.readRestart tag [index, part]) s = .next (s.setLnk
      (if 7 < index.toNat ∨ 2 < part.toNat then replying s 0x14 tag .badArg [] .nothing
       else
        match s.weu.records.reverse[index.toNat]? with
        | none => replying s 0x14 tag .refused [] .nothing
        | some r =>
          replying s 0x14 tag .ok
            (if part = 0 then r.header index.toNat s.weu.records.length
             else r.tracePart index.toNat part.toNat) .nothing)) := by
  have hrecord : recordAt index.toNat (takeHeld s).weu.records = s.weu.records.reverse[index.toNat]? := rfl
  have hpart : part = 0 ↔ part.toNat = 0 := by
    rw [BitVec.toNat_eq]
    rfl
  refine congrArg _ ((dispatch_of_due h _).trans ?_)
  unfold readRestart
  simp only [hrecord, hpart]
  split
  · exact answer_taken (by decide) _ _ s
  · cases s.weu.records.reverse[index.toNat]? with
    | some r => exact answer_taken (by decide) _ _ s
    | none => exact answer_taken (by decide) _ _ s

theorem readSettings_answers {tag group index : Byte} {s : State} (h : Due s 0x21 tag [group, index]) :
    exec (.readSettings tag [group, index]) s = .next (s.setLnk
      (match s.settings.group group.toNat index.toNat with
       | some fields => replying s 0x21 tag .ok (group :: index :: fields.flatMap i32) .nothing
       | none => replying s 0x21 tag .badArg [] .nothing)) := by
  have hgroup : (takeHeld s).settings.group group.toNat index.toNat = s.settings.group group.toNat index.toNat := rfl
  refine congrArg _ ((dispatch_of_due h _).trans ?_)
  unfold readGroup
  dsimp only
  rw [hgroup]
  cases s.settings.group group.toNat index.toNat with
  | some fields => exact answer_taken (by decide) _ _ s
  | none => exact answer_taken (by decide) _ _ s

/-! ### The pages there are (R192) -/

/-- The pages and parts of R192. -/
def PageListed (page part : Byte) : Prop := (page = 0 ∨ page = 1) ∧ part = 0 ∨ page = 2 ∧ part.toNat ≤ 6

theorem pageListed_iff (page part : Byte) : PageListed page part ↔
    (page.toNat = 0 ∨ page.toNat = 1) ∧ part.toNat = 0 ∨ page.toNat = 2 ∧ part.toNat ≤ 6 := by
  simp [PageListed, BitVec.toNat_eq]

/-- What GET_STATUS answers with for a page that there is: its head, its fields and its size. -/
def PageFound (page part : Byte) (s : State) (bytes : List Byte) : Prop :=
  bytes.take 2 = [page, part] ∧ statusPage page.toNat part.toNat s = some bytes ∧
    PageShows page.toNat part.toNat s bytes ∧
    bytes.length =
      (if page = 0 then 43 else if page = 1 then 60
       else if part = 0 then 41 else if part = 1 then 39 else 30)

/-- Page 2 from part 2 on shows keys. -/
theorem pads_found {part : Byte} (hlow : 2 ≤ part.toNat) (hhigh : part.toNat ≤ 6) (s : State) :
    PageFound 2 part s (page2Pads part.toNat s) := by
  have hzero : part.toNat ≠ 0 := by omega
  have hone : part.toNat ≠ 1 := by omega
  have hzeroByte : part ≠ 0 := fun h => hzero (by rw [h]; rfl)
  have honeByte : part ≠ 1 := fun h => hone (by rw [h]; rfl)
  refine ⟨?_, ?_, ?_, ?_⟩
  · change [BitVec.ofNat 8 2, BitVec.ofNat 8 part.toNat] = _
    rw [BitVec.ofNat_toNat, BitVec.setWidth_eq]
    rfl
  · change (if part.toNat = 0 then _ else if part.toNat = 1 then _ else if part.toNat ≤ 6 then _ else _) = _
    rw [if_neg hzero, if_neg hone, if_pos hhigh]
  · change if part.toNat = 0 then _ else if part.toNat = 1 then _ else _
    rw [if_neg hzero, if_neg hone]
    exact page2Pads_shows _ s
  · rw [if_neg (by decide), if_neg (by decide), if_neg hzeroByte, if_neg honeByte]
    exact page2Pads_length _ s

theorem statusPage_of_listed {page part : Byte} (h : PageListed page part) (s : State) :
    ∃ bytes, PageFound page part s bytes := by
  rcases h with ⟨rfl | rfl, rfl⟩ | ⟨rfl, hpart⟩
  · exact ⟨page0 s, by rw [page0_eq]; rfl, rfl, page0_shows s, page0_length s⟩
  · exact ⟨page1 s, by rw [page1_eq]; rfl, rfl, page1_shows s, page1_length s⟩
  · by_cases hlow : 2 ≤ part.toNat
    · exact ⟨_, pads_found hlow hpart s⟩
    · have hfirst : part = 0 ∨ part = 1 := by
        rw [BitVec.toNat_eq, BitVec.toNat_eq]
        change part.toNat = 0 ∨ part.toNat = 1
        omega
      rcases hfirst with rfl | rfl
      · exact ⟨page2Keys s, by rw [page2Keys_eq]; rfl, rfl, page2Keys_shows s, page2Keys_length s⟩
      · exact ⟨page2Units s, by rw [page2Units_eq]; rfl, rfl, page2Units_shows s, page2Units_length s⟩

theorem statusPage_of_unlisted {page part : Byte} (h : ¬ PageListed page part) (s : State) :
    statusPage page.toNat part.toNat s = none := by
  rw [pageListed_iff] at h
  unfold statusPage
  by_cases hzero : page.toNat = 0
  · rw [if_pos hzero, if_neg (by omega)]
  · rw [if_neg hzero]
    by_cases hone : page.toNat = 1
    · rw [if_pos hone, if_neg (by omega)]
    · rw [if_neg hone]
      by_cases htwo : page.toNat = 2
      · rw [if_pos htwo, if_neg (by omega), if_neg (by omega), if_neg (by omega)]
      · rw [if_neg htwo]

/-! ### The groups of the settings (R190, R191) -/

/-- The groups there are, and how many of each (R190). -/
theorem group_isSome {c : Settings} {g i : Nat} (h : (c.group g i).isSome = true) :
    ∃ n, (g, n) ∈ [(1, 4), (2, 3), (3, 1), (4, 1), (5, 1), (6, 1), (7, 1), (8, 1), (9, 20), (10, 6), (11, 6), (12, 1),
      (13, 1)] ∧ i < n := by
  have hsingle {x : List Int} (h : (if i = 0 then some x else none).isSome = true) : i < 1 := by
    split at h
    · omega
    · cases h
  have hfour {f : Four → List Int} (h : ((Four.ofNum i).map f).isSome = true) : i < 4 := by
    unfold Four.ofNum at h
    split at h <;> simp_all
  have hthree {f : Three → List Int} (h : ((Three.ofNum i).map f).isSome = true) : i < 3 := by
    unfold Three.ofNum at h
    split at h <;> simp_all
  have hsix {f : Six → List Int} (h : ((Six.ofNum i).map f).isSome = true) : i < 6 := by
    unfold Six.ofNum at h
    split at h <;> simp_all
  unfold Settings.group at h
  dsimp only at h
  split at h
  · exact ⟨4, by decide, hfour h⟩
  · exact ⟨3, by decide, hthree h⟩
  · exact ⟨1, by decide, hsingle h⟩
  · exact ⟨1, by decide, hsingle h⟩
  · exact ⟨1, by decide, hsingle h⟩
  · exact ⟨1, by decide, hsingle h⟩
  · exact ⟨1, by decide, hsingle h⟩
  · exact ⟨1, by decide, hsingle h⟩
  · split at h
    · exact ⟨20, by decide, ‹_›⟩
    · cases h
  · exact ⟨6, by decide, hsix h⟩
  · exact ⟨6, by decide, hsix h⟩
  · exact ⟨1, by decide, hsingle h⟩
  · exact ⟨1, by decide, hsingle h⟩
  · cases h

theorem groups_show (c : Settings) : GroupsShow c where
  zone := group_zone c
  heater := group_heater c
  budget := rfl
  fan := rfl
  watchdog := rfl
  ladder := rfl
  hostPower := rfl
  keypad := rfl
  key := fun k hk => if_pos hk
  chord := fun i => by simp [Settings.group]
  trigger := fun u => by simp [Settings.group]
  report := rfl
  link := rfl
  others := fun _ _ => group_isSome

end Sys2Proof.Safety

namespace Sys2Proof.Proofs
open Sys2Proof.Machine Sys2Proof.Safety

/-- Settles O13: each page and record is the layout of its fields, and no reading request does more than answer. -/
theorem readRequestsAnswered : Obligations.ReadRequestsAnswered := by
  refine ⟨fun _ _ => ping_answers, fun tag page part s h => ?_, fun _ _ => getConditions_answers,
    fun _ _ _ => readTrace_answers, fun _ _ _ _ => readRestart_answers, fun _ _ _ _ => readSettings_answers,
    fun page _ => readTracePage_shows page, header_shows, fun index part r _ => tracePart_shows index part r,
    keyBytes_shows, notice_shows, groups_show⟩
  have hanswer := getStatus_answers h
  by_cases hlisted : PageListed page part
  · obtain ⟨bytes, hhead, hpage, hshows, hsize⟩ := statusPage_of_listed hlisted s
    rw [hpage] at hanswer
    exact ⟨.ok, bytes, hanswer, (if_pos (α := Prop) hlisted).mpr ⟨rfl, hhead, hpage, hshows, hsize⟩⟩
  · rw [statusPage_of_unlisted hlisted] at hanswer
    exact ⟨.badArg, [], hanswer, (if_neg (α := Prop) hlisted).mpr ⟨rfl, rfl⟩⟩

end Sys2Proof.Proofs

namespace Sys2Proof.Machine
open Sys2Proof.Safety

/-! ### A code joins the ring (R104) -/

/-- A repeat of the newest code raises its count and moves its time (R104). -/
theorem takeInRing_of_repeat {code : Word16} {now : Word32} {ring : List TraceEntry} {e : TraceEntry}
    (hlast : ring.getLast? = some e) (hcode : e.code = code) :
    takeInRing code now ring = (ring.dropLast ++ [⟨code, now, satInc 255 e.count⟩], true) := by
  subst hcode
  simp only [takeInRing, hlast, if_true]

/-- A code that does not repeat the newest one is appended, the oldest of seventeen going (R104). -/
theorem takeInRing_of_new {code : Word16} {now : Word32} {ring : List TraceEntry}
    (hnew : ∀ e, ring.getLast? = some e → e.code ≠ code) :
    takeInRing code now ring =
      (if ring.length < 16 then ring ++ [⟨code, now, 1⟩] else ring.drop 1 ++ [⟨code, now, 1⟩], false) := by
  unfold takeInRing
  cases hlast : ring.getLast? with
  | none => rw [List.getLast?_eq_none_iff.1 hlast]; rfl
  | some e =>
    have hlength : (ring ++ [(⟨code, now, 1⟩ : TraceEntry)]).length ≤ Config.traceSize ↔ ring.length < 16 := by
      rw [List.length_append]
      exact Nat.succ_le_iff
    have hsome : 1 ≤ ring.length :=
      List.length_pos_of_mem (List.mem_of_getLast? hlast)
    dsimp only
    rw [if_neg (hnew e hlast), List.drop_append_of_le_length hsome]
    exact congrArg (·, false) (if_congr hlength rfl rfl)

/-- CPT once it has taken a code: the ring and the append count change, and nothing else of it (R104). -/
theorem takeCode_cpt (code : Word16) (s : State) : (takeCode code s).1.cpt =
    { s.cpt with
      ring := (takeInRing code s.time.ms s.cpt.ring).1
      appends := if (takeInRing code s.time.ms s.cpt.ring).2 then s.cpt.appends else s.cpt.appends + 1 } :=
  post_cpt _ _

theorem takeCode_posted (code : Word16) (s : State) :
    Posted ⟨.checkpoint, 0, code.toNat⟩ s (takeCode code s).1 := by
  refine posted_of_inbox ?_ (post_posted _ _)
  rfl

@[simp] theorem takeCode_lnk (code : Word16) (s : State) : (takeCode code s).1.lnk = s.lnk := post_lnk _ _
@[simp] theorem takeCode_hps (code : Word16) (s : State) : (takeCode code s).1.hps = s.hps := post_hps _ _
@[simp] theorem takeCode_weu (code : Word16) (s : State) : (takeCode code s).1.weu = s.weu := post_weu _ _
@[simp] theorem takeCode_keq (code : Word16) (s : State) : (takeCode code s).1.keq = s.keq := post_keq _ _

/-! ### CHECKPOINT and THAW_TRACE (R105, R108) -/

/-- The result that a CHECKPOINT's reply gives: ADDED or REPEATED (R105, R189). -/
def takenResult (repeated : Bool) : Nat := if repeated then 2 else 1

/-- The repeat of the newest entry, which a CHECKPOINT's reply gives (R105). -/
def newestRepeat (ring : List TraceEntry) : Nat := (ring.getLast?.map (·.count)).getD 0

theorem newestRepeat_append (ring : List TraceEntry) (e : TraceEntry) : newestRepeat (ring ++ [e]) = e.count := by
  rw [newestRepeat, List.getLast?_append]
  rfl

theorem checkpoint_of_due {tag : Byte} {payload : List Byte} {s : State} (hdue : Due s 0x11 tag payload) :
    exec (.checkpoint tag payload) s = .next (takeCheckpoint ⟨0x11, tag, payload⟩ (takeHeld s)) :=
  congrArg _ (dispatch_of_due hdue _)

/-- A CHECKPOINT of any payload but one code (R105, R189). -/
theorem takeCheckpoint_badLength {tag : Byte} {payload : List Byte} (hlength : payload.length ≠ 2) (s : State) :
    takeCheckpoint ⟨0x11, tag, payload⟩ s = answer ⟨0x11, tag, payload⟩ .badArg [] s := by
  unfold takeCheckpoint
  split
  · rename_i hi lo hpayload
    have hpayload : payload = [hi, lo] := hpayload
    exact absurd (congrArg List.length hpayload) hlength
  · rfl

theorem takeCheckpoint_unheard {tag hi lo : Byte} {s : State} (h : s.cpt.seen.listening = false) :
    takeCheckpoint ⟨0x11, tag, [hi, lo]⟩ s = answer ⟨0x11, tag, [hi, lo]⟩ .refused [] s :=
  if_pos (by rw [h]; rfl)

theorem takeCheckpoint_frozen {tag hi lo : Byte} {s : State} (h : s.cpt.seen.listening = true)
    (hfrozen : s.cpt.frozen = true) :
    takeCheckpoint ⟨0x11, tag, [hi, lo]⟩ s = answer ⟨0x11, tag, [hi, lo]⟩ .frozen [] s :=
  (if_neg (by rw [h]; decide)).trans (if_pos hfrozen)

theorem takeCheckpoint_recording {tag hi lo : Byte} {s : State} (h : s.cpt.seen.listening = true)
    (hrecording : s.cpt.frozen = false) :
    takeCheckpoint ⟨0x11, tag, [hi, lo]⟩ s = answer ⟨0x11, tag, [hi, lo]⟩ .ok
      [BitVec.ofNat 8 (takenResult (takeCode (hi ++ lo) s).2), BitVec.ofNat 8 (takeCode (hi ++ lo) s).1.cpt.ring.length,
       BitVec.ofNat 8 (newestRepeat (takeCode (hi ++ lo) s).1.cpt.ring)] (takeCode (hi ++ lo) s).1 :=
  (if_neg (by rw [h]; decide)).trans (if_neg (by rw [hrecording]; decide))

/-- A CHECKPOINT that is taken: CPT takes its code, and the reply gives the trace as it then is (R105). -/
theorem takeCheckpoint_taken {tag hi lo : Byte} {s : State} (h : s.cpt.seen.listening = true)
    (hrecording : s.cpt.frozen = false) :
    takeCheckpoint ⟨0x11, tag, [hi, lo]⟩ (takeHeld s) =
      (takeCode (hi ++ lo) (takeHeld s)).1.setLnk (replying s 0x11 tag .ok
        [BitVec.ofNat 8 (takenResult (takeInRing (hi ++ lo) s.time.ms s.cpt.ring).2),
         BitVec.ofNat 8 (takeCode (hi ++ lo) (takeHeld s)).1.cpt.ring.length,
         BitVec.ofNat 8 (newestRepeat (takeInRing (hi ++ lo) s.time.ms s.cpt.ring).1)] .nothing) := by
  have hring : (takeCode (hi ++ lo) (takeHeld s)).1.cpt.ring = (takeInRing (hi ++ lo) s.time.ms s.cpt.ring).1 :=
    congrArg Cpt.ring (takeCode_cpt _ _)
  rw [← hring, takeCheckpoint_recording (s := takeHeld s) h hrecording]
  exact answerThen_replying (by decide) (takeCode_lnk _ _) .nothing .ok _

/-- The answer to THAW_TRACE (R108). -/
theorem thawTrace_answers {tag : Byte} {s : State} (h : Due s 0x13 tag []) : exec (.thawTrace tag []) s =
    .next ((s.setCpt { s.cpt with frozen := false, frozenAt := none }).setLnk
      (replying s 0x13 tag .ok [0, BitVec.ofNat 8 s.cpt.ring.length] .nothing)) :=
  congrArg _ ((dispatch_of_due h _).trans
    (answerThen_replying (t := (takeHeld s).setCpt { s.cpt with frozen := false, frozenAt := none })
      (by decide) rfl .nothing .ok _))

end Sys2Proof.Machine

namespace Sys2Proof.Proofs
open Sys2Proof.Machine Sys2Proof.Safety

/-- Settles O20: the request by its gates; a code that passes them is taken by CPT, which sees nothing of LNK. -/
theorem checkpointIsTaken : Obligations.CheckpointIsTaken := by
  refine ⟨fun tag payload s hdue hlength => ?_, fun tag hi lo s hdue => ⟨fun hdeaf => ?_, fun hhears hfrozen => ?_,
    fun hhears hrecording => ?_⟩⟩
  · rw [checkpoint_of_due hdue, takeCheckpoint_badLength hlength, answer_taken (by decide)]
  · rw [checkpoint_of_due hdue, takeCheckpoint_unheard (s := takeHeld s) hdeaf, answer_taken (by decide)]
  · rw [checkpoint_of_due hdue, takeCheckpoint_frozen (s := takeHeld s) hhears hfrozen, answer_taken (by decide)]
  · have hexec := checkpoint_of_due hdue
    rw [takeCheckpoint_taken hhears hrecording] at hexec
    have hcpt := takeCode_cpt (hi ++ lo) (takeHeld s)
    have hreach := takeCode_reach (hi ++ lo) (takeHeld s)
    have htaken : LatchesKept [] s (takeHeld s) := latchesKept_of_cnu rfl rfl rfl rfl
    refine ⟨_, _, newestRepeat (takeInRing (hi ++ lo) s.time.ms s.cpt.ring).1, hexec, rfl, fun e hlast hcode => ?_,
      fun hnew => ?_, ?_, ?_, hreach.units, takeCode_hps _ _, takeCode_weu _ _, takeCode_keq _ _, ?_⟩
    · rw [takeInRing_of_repeat (ring := (takeHeld s).cpt.ring) hlast hcode] at hcpt
      rw [takeInRing_of_repeat hlast hcode, newestRepeat_append]
      exact ⟨rfl, rfl, hcpt⟩
    · rw [takeInRing_of_new (ring := (takeHeld s).cpt.ring) hnew] at hcpt
      rw [takeInRing_of_new hnew]
      refine ⟨rfl, ?_, hcpt⟩
      dsimp only
      split
      · exact newestRepeat_append _ _
      · exact newestRepeat_append _ _
    · exact posted_then (posted_of_inbox (t := takeHeld s) rfl (takeCode_posted _ _)) (.setLnk _ _)
    · exact latchesKept_trans htaken (latchesKept_trans (latchesKept_takeCode _ _) (latchesKept_of_cnu rfl rfl rfl rfl))
    · exact outsideKept_trans (takeHeld_judged s).outside
        (outsideKept_trans hreach.kept ⟨rfl, rfl, rfl, rfl, rfl, rfl, rfl, rfl, rfl, rfl, rfl⟩)

/-- Settles O21, by the equation of the answer. -/
theorem thawTrace : Obligations.ThawTrace := fun _ _ hdue => thawTrace_answers hdue

end Sys2Proof.Proofs

namespace Sys2Proof.Machine
open Sys2Proof.Safety

/-! ### The key records by number -/

theorem key_of_length_le {u : Ksu} {k : Nat} (h : u.keys.length ≤ k) : u.key k = .initial := by
  simp [Ksu.key, h]

/-- What holds of every key record holds of every key by number. -/
theorem forall_keys_iff (u : Ksu) (P : KeyRec → Prop) :
    (∀ r ∈ u.keys, P r) ↔ ∀ k < u.keys.length, P (u.key k) := by
  simp only [List.forall_mem_iff_getElem, Ksu.key, List.getD_eq_getElem?_getD]
  exact forall₂_congr fun k hk => by rw [List.getElem?_eq_getElem hk, Option.getD_some]

/-- Key records given by number, in a list that is mapped by position. -/
theorem length_mapIndexed {α β : Type} (f : Nat → α → β) (n : Nat) (l : List α) :
    (mapIndexed f n l).length = l.length := by
  induction l generalizing n with
  | nil => rfl
  | cons a l ih => simp [mapIndexed, ih]

theorem getElem?_mapIndexed {α β : Type} (f : Nat → α → β) (n : Nat) (l : List α) (k : Nat) :
    (mapIndexed f n l)[k]? = l[k]?.map (f (n + k)) := by
  induction l generalizing n k with
  | nil => rfl
  | cons a l ih =>
    cases k with
    | zero => rfl
    | succ k =>
      rw [mapIndexed, List.getElem?_cons_succ, List.getElem?_cons_succ, ih]
      congr 2
      omega

theorem key_mapIndexed (f : Nat → KeyRec → KeyRec) (u : Ksu) (k : Nat) :
    Ksu.key { u with keys := mapIndexed f 0 u.keys } k =
      if k < u.keys.length then f k (u.key k) else u.key k := by
  simp only [Ksu.key, List.getD_eq_getElem?_getD, getElem?_mapIndexed, Nat.zero_add]
  by_cases hk : k < u.keys.length
  · simp [hk]
  · simp [hk]

theorem key_map (f : KeyRec → KeyRec) (u : Ksu) (k : Nat) :
    Ksu.key { u with keys := u.keys.map f } k = if k < u.keys.length then f (u.key k) else u.key k := by
  simp only [Ksu.key, List.getD_eq_getElem?_getD, List.getElem?_map]
  by_cases hk : k < u.keys.length
  · simp [hk]
  · simp [hk]

theorem keys_set_key (u : Ksu) (k : Nat) : u.keys.set k (u.key k) = u.keys := by
  by_cases hk : k < u.keys.length
  · simp [Ksu.key, hk]
  · exact List.set_eq_of_length_le (by omega)

/-- The first keys are those with the lower numbers. -/
theorem take_keys {u : Ksu} {n : Nat} (h : n ≤ u.keys.length) :
    u.keys.take n = (List.range n).map u.key := by
  refine List.ext_getElem (by simp [h]) fun k hk _ => ?_
  have hlt : k < u.keys.length := by rw [List.length_take] at hk; omega
  simp [Ksu.key, hlt]

theorem countKeys_eq {u : Ksu} {n : Nat} (h : n ≤ u.keys.length) (f : KeyState → Bool) :
    u.countKeys n f = ((List.range n).filter fun k => f (u.key k).state).length := by
  rw [Ksu.countKeys, take_keys h, List.filter_map, List.length_map]
  rfl

/-! ### A step made for each key (R115) -/

/-- The step of one key: its record is replaced, and more is handed on. -/
def Pad.atKey (f : KeyRec → KeyRec) (g : KeyRec → List Emit) (k : Nat) (p : Pad) : Pad :=
  ⟨{ p.ksu with keys := p.ksu.keys.set k (f (p.ksu.key k)) }, p.out ++ g (p.ksu.key k)⟩

/-- A step that leaves the key as it is and hands nothing on. -/
theorem Pad.atKey_none {f : KeyRec → KeyRec} {g : KeyRec → List Emit} {k : Nat} {p : Pad}
    (hf : f (p.ksu.key k) = p.ksu.key k) (hg : g (p.ksu.key k) = []) : p.atKey f g k = p := by
  rw [Pad.atKey, hf, hg, keys_set_key, List.append_nil]

/-- The pad once the step has been made for the keys K0 to K(n-1): each has its record from its own, and has
handed on what it gives, in key order. -/
structure KeysDone (f : Nat → KeyRec → KeyRec) (g : Nat → KeyRec → List Emit) (u : Ksu) (out : List Emit) (n : Nat)
    (p : Pad) : Prop where
  others : p.ksu = { u with keys := p.ksu.keys }
  length : p.ksu.keys.length = u.keys.length
  key : ∀ k, p.ksu.key k = if k < n then f k (u.key k) else u.key k
  out : p.out = out ++ (List.range n).flatMap fun k => g k (u.key k)

theorem keysDone_range {f : Nat → KeyRec → KeyRec} {g : Nat → KeyRec → List Emit} {u : Ksu} {out : List Emit}
    {step : Nat → Pad → Pad} {n : Nat} (hn : n ≤ u.keys.length)
    (hstep : ∀ k q, q.ksu = { u with keys := q.ksu.keys } → step k q = q.atKey (f k) (g k) k) :
    KeysDone f g u out n ((List.range n).foldl (fun p k => step k p) ⟨u, out⟩) := by
  induction n with
  | zero => exact ⟨rfl, rfl, fun k => rfl, by simp⟩
  | succ n ih =>
    have h := ih (Nat.le_of_succ_le hn)
    simp only [List.range_succ, List.foldl_append, List.foldl_cons, List.foldl_nil]
    generalize (List.range n).foldl (fun p k => step k p) ⟨u, out⟩ = p at h ⊢
    obtain ⟨hothers, hlength, hkey, hout⟩ := h
    have hkn : p.ksu.key n = u.key n := by rw [hkey n, if_neg (lt_irrefl n)]
    rw [hstep n p hothers]
    refine ⟨?_, ?_, fun k => ?_, ?_⟩
    · rw [Pad.atKey, hothers]
    · rw [Pad.atKey, List.length_set, hlength]
    · rw [Pad.atKey, key_set, hkn, hkey k, hlength]
      by_cases hnk : n = k
      · subst hnk
        rw [if_pos ⟨rfl, by omega⟩, if_pos (by omega)]
      · rw [if_neg (by omega)]
        exact if_congr (by omega) rfl rfl
    · simp [Pad.atKey, hout, List.range_succ, hkn]

/-- A step made for each key of a pad with all its records. -/
theorem keysDone_eachKey {f : Nat → KeyRec → KeyRec} {g : Nat → KeyRec → List Emit} {step : Nat → Pad → Pad}
    {p : Pad} (hp : p.ksu.keys.length = 20)
    (hstep : ∀ k q, q.ksu = { p.ksu with keys := q.ksu.keys } → step k q = q.atKey (f k) (g k) k) :
    KeysDone f g p.ksu p.out 20 (eachKey step p) :=
  keysDone_range (n := 20) (by omega) hstep

/-! ### One key's steps (R114 to R125) -/

/-- What a release hands on: KEY_RELEASE with the time held, and a RELEASE record (R122, R124, R128). -/
def releaseEmits (now : Word32) (k : Nat) (r : KeyRec) (suppressed stuck : Bool) : List Emit :=
  [.post (event .keyRelease k (heldMs now r)), keyOffer now k (.release suppressed stuck)]

theorem giveRelease_eq (now : Word32) (k : Nat) (r : KeyRec) (a b : Bool) (p : Pad) :
    giveRelease now k r a b p = ⟨p.ksu, p.out ++ releaseEmits now k r a b⟩ := by
  simp [giveRelease, Pad.emit, releaseEmits]

/-- Steps 1 to 3 for a fitted key (R114, R117, R119, R120). -/
def measured (c : KeypadSettings) (due : Retake) (raw : Nat) (r : KeyRec) : KeyRec :=
  antiTouch c.touchThr
    (if retakeNames due (measureKey raw r).state then (measureKey raw r).retake else measureKey raw r)

/-- Step 4 completes the key's release (R118, R122). -/
def releasesNow (c : KeypadSettings) (r : KeyRec) : Bool :=
  decide (r.state ≠ .quarantined ∧ (stepKey c r).state = .pendingRelease ∧ c.releaseCount ≤ (stepKey c r).releaseRun)

/-- Step 4 for a fitted key (R118, R122, R125). -/
def debounced (c : KeypadSettings) (now : Word32) (r : KeyRec) : KeyRec :=
  if r.state = .quarantined then stepQuarantined c now r
  else if releasesNow c r then (stepKey c r).toIdle else stepKey c r

theorem stepKey_pressTime (c : KeypadSettings) (r : KeyRec) : (stepKey c r).pressTime = r.pressTime := by
  cases hs : r.state <;> simp only [stepKey, hs] <;> split <;> rfl

/-- The time held depends on the press time alone. -/
theorem releaseEmits_congr {r r' : KeyRec} (h : r'.pressTime = r.pressTime) (now : Word32) (k : Nat) (a b : Bool) :
    releaseEmits now k r' a b = releaseEmits now k r a b := by
  rw [releaseEmits, heldMs, h]
  rfl

theorem debounceKey_eq (c : KeypadSettings) (now : Word32) (k : Nat) (p : Pad) : debounceKey c now k p =
    p.atKey (fun r => if k < c.keysFitted then debounced c now r else r)
      (fun r => if k < c.keysFitted ∧ releasesNow c r = true then releaseEmits now k r false false else []) k := by
  unfold debounceKey
  dsimp only
  by_cases hk : k < c.keysFitted
  · simp only [hk, if_true, true_and]
    by_cases hq : (p.ksu.key k).state = .quarantined
    · simp [hq, Pad.atKey, debounced, releasesNow, Pad.setKey]
    · by_cases hr : releasesNow c (p.ksu.key k) = true
      · have hrel := hr
        simp only [releasesNow, decide_eq_true_eq] at hrel
        simp only [if_neg hq, if_pos hrel.2, Pad.atKey, debounced, hr, if_true, giveRelease_eq, Pad.setKey,
          releaseEmits_congr (stepKey_pressTime c _)]
      · have hrel : ¬ ((stepKey c (p.ksu.key k)).state = .pendingRelease ∧
            c.releaseCount ≤ (stepKey c (p.ksu.key k)).releaseRun) := fun h => hr (decide_eq_true ⟨hq, h⟩)
        simp only [if_neg hq, if_neg hrel, Pad.atKey, debounced, if_neg hr, Pad.setKey, List.append_nil]
  · rw [if_neg hk, Pad.atKey_none] <;> simp [hk]

/-- A key when suppression starts: a held one released, a pending press cleared (R128). -/
def KeyRec.silenced (r : KeyRec) : KeyRec :=
  clearPending (if r.state.held then { r.toIdle with ordinal := 0 } else r)

/-- What a key hands on when suppression starts (R128). -/
def silenceEmits (now : Word32) (k : Nat) (r : KeyRec) : List Emit :=
  if r.state.held then releaseEmits now k r true false else []

theorem suppressKey_eq (now : Word32) (k : Nat) (p : Pad) : suppressKey now k p =
    p.atKey (fun r => if r.state.held then { r.toIdle with ordinal := 0 } else r) (silenceEmits now k) k := by
  unfold suppressKey
  dsimp only
  by_cases hh : (p.ksu.key k).state.held = true
  · simp only [hh, if_true, giveRelease_eq, Pad.setKey, Pad.atKey, silenceEmits]
  · rw [if_neg hh, Pad.atKey_none] <;> simp [hh, silenceEmits]

/-- Step 6 for a key (R121). -/
def pressed (suppressed : Bool) (now : Word32) (r : KeyRec) : KeyRec :=
  if r.due then
    if suppressed then { r with due := false }
    else { r with state := .pressed, pressRun := 0, due := false, pressTime := now, ordinal := 0 }
  else r

/-- What a press hands on (R121, R132). -/
def pressEmits (suppressed : Bool) (now : Word32) (k : Nat) (r : KeyRec) : List Emit :=
  if r.due = true ∧ suppressed = false then [.post (event .keyPress k 0), keyOffer now k .press] else []

theorem pressKey_eq (now : Word32) (k : Nat) (p : Pad) : pressKey now k p =
    p.atKey (pressed p.ksu.suppressed now) (pressEmits p.ksu.suppressed now k) k := by
  unfold pressKey
  dsimp only
  by_cases hd : (p.ksu.key k).due = true
  · by_cases hs : p.ksu.suppressed = true
    · simp [hd, hs, Pad.atKey, pressed, pressEmits, Pad.setKey]
    · simp [hd, hs, Pad.atKey, pressed, pressEmits, Pad.setKey, Pad.emit]
  · rw [if_neg hd, Pad.atKey_none] <;> simp [hd, pressed, pressEmits]

/-- The key is held longer than stuck_time (R124). -/
def isStuck (c : KeypadSettings) (now : Word32) (r : KeyRec) : Bool :=
  decide (0 < c.stuckTime ∧ c.stuckTime * 1000 < elapsed now r.pressTime)

/-- A hold is due that has not been given (R123). -/
def holdsNow (c : KeypadSettings) (rep : Bool) (now : Word32) (r : KeyRec) : Bool :=
  rep && decide (r.ordinal < holdsDue c (elapsed now r.pressTime))

/-- Step 7 for a fitted key (R123, R124). -/
def heldTested (c : KeypadSettings) (rep : Bool) (now : Word32) (r : KeyRec) : KeyRec :=
  if r.state.held then
    if isStuck c now r then
      { r with state := .quarantined, pressRun := 0, releaseRun := 0, ordinal := 0, quietStart := none }
    else if holdsNow c rep now r then { r with ordinal := min 65535 (holdsDue c (elapsed now r.pressTime)) }
    else r
  else r

/-- What step 7 hands on for a fitted key (R123, R124). -/
def heldEmits (c : KeypadSettings) (rep : Bool) (now : Word32) (k : Nat) (r : KeyRec) : List Emit :=
  if r.state.held then
    if isStuck c now r then releaseEmits now k r false true ++ [.raise .keyStuck]
    else if holdsNow c rep now r then
      [.post (event .keyHold k (min 65535 (holdsDue c (elapsed now r.pressTime)) : Nat)), keyOffer now k (.hold 1)]
    else []
  else []

theorem stuckOrHold_eq (c : KeypadSettings) (repeats : List Bool) (now : Word32) (k : Nat) (p : Pad) :
    stuckOrHold c repeats now k p =
      p.atKey (fun r => if k < c.keysFitted then heldTested c (repeats.getD k false) now r else r)
        (fun r => if k < c.keysFitted then heldEmits c (repeats.getD k false) now k r else []) k := by
  unfold stuckOrHold
  dsimp only
  generalize repeats.getD k false = rep
  by_cases hk : k < c.keysFitted
  · by_cases hh : (p.ksu.key k).state.held = true
    · rw [if_pos ⟨hk, hh⟩]
      by_cases hs : isStuck c now (p.ksu.key k) = true
      · have hstuck := hs
        simp only [isStuck, decide_eq_true_eq] at hstuck
        rw [if_pos hstuck]
        simp [giveRelease_eq, Pad.setKey, Pad.emit, Pad.atKey, hk, heldTested, heldEmits, hh, hs]
      · have hstuck : ¬ (0 < c.stuckTime ∧ c.stuckTime * 1000 < elapsed now (p.ksu.key k).pressTime) :=
          fun h => hs (decide_eq_true h)
        rw [if_neg hstuck]
        unfold holdKey
        change (if holdsNow c rep now (p.ksu.key k) = true then _ else _) = _
        by_cases hn : holdsNow c rep now (p.ksu.key k) = true
        · rw [if_pos hn]
          simp [Pad.setKey, Pad.emit, Pad.atKey, hk, heldTested, heldEmits, hh, hs, hn]
        · rw [if_neg hn, Pad.atKey_none] <;> simp [hk, heldTested, heldEmits, hh, hs, hn]
    · rw [if_neg (fun h => hh h.2), Pad.atKey_none] <;> simp [hk, heldTested, heldEmits, hh]
  · rw [if_neg (fun h => hk h.1), Pad.atKey_none] <;> simp [hk]

/-! ### Suppression (R126 to R130) -/

/-- Suppression after a change of its causes, which was `before`: it starts, it ends, or it is as it was (R128,
R130). -/
def changeSuppression (now : Word32) (t0 : Option Int) (cause : Nat) (before : Bool) (p : Pad) : Pad :=
  if before = false ∧ p.ksu.suppressed = true then startSuppression now cause p
  else if before = true ∧ p.ksu.suppressed = false then endSuppression t0 cause p
  else p

/-- Cover after a test with more keys touched than max_touch, or not (R127). -/
def coverJudged (c : KeypadSettings) (now : Word32) (many : Bool) (u : Ksu) : Bool :=
  if u.cover then
    many || (match u.coverFall with
      | none => true
      | some t => !decide (c.coverHold ≤ elapsed now t))
  else many

/-- The fall time of cover after a test (R127). -/
def coverFallJudged (c : KeypadSettings) (now : Word32) (many : Bool) (u : Ksu) : Option Word32 :=
  if u.cover then
    if many then none
    else
      match u.coverFall with
      | none => some now
      | some t => if c.coverHold ≤ elapsed now t then none else some t
  else u.coverFall

/-- The causes of suppression after a cover test (R127). -/
def Ksu.withCover (c : KeypadSettings) (now : Word32) (u : Ksu) : Ksu :=
  { u with
    cover := coverJudged c now (decide (c.maxTouch < coverCount c u)) u
    coverFall := coverFallJudged c now (decide (c.maxTouch < coverCount c u)) u }

/-- The cover test judges cover, and suppression follows (R127, R128, R130). -/
theorem coverTest_eq (c : KeypadSettings) (now : Word32) (t0 : Option Int) (p : Pad) : coverTest c now t0 p =
    changeSuppression now t0 2 p.ksu.suppressed ⟨p.ksu.withCover c now, p.out⟩ := by
  have hsame : p = ⟨{ p.ksu with cover := p.ksu.cover, coverFall := p.ksu.coverFall }, p.out⟩ := rfl
  unfold coverTest changeSuppression Ksu.withCover Ksu.suppressed
  dsimp only
  generalize (p.ksu.condensation || p.ksu.frost) = other
  by_cases hm : c.maxTouch < coverCount c p.ksu
  · cases hc : p.ksu.cover
    · cases other <;> simp [hm, hc, coverJudged, coverFallJudged]
    · simp [hm, hc, coverJudged, coverFallJudged]
  · cases hc : p.ksu.cover
    · rw [hc] at hsame
      simpa [hm, hc, coverJudged, coverFallJudged] using hsame
    · cases hf : p.ksu.coverFall with
      | none => simp [hm, hc, hf, coverJudged, coverFallJudged]
      | some t =>
        by_cases he : c.coverHold ≤ elapsed now t
        · cases other <;> simp [hm, hc, hf, he, coverJudged, coverFallJudged]
        · rw [hc, hf] at hsame
          simpa [hm, hc, hf, he, coverJudged, coverFallJudged] using hsame

end Sys2Proof.Machine

namespace Sys2Proof.Machine
open Sys2Proof.Safety

/-! ### A change of suppression (R128, R130) -/

/-- What a change of suppression hands on (R128, R130): where it starts the releases of the held keys, then the
latch and the event; where it ends the event, then the end of the live cause. -/
def changeEmits (now : Word32) (cause : Nat) (before : Bool) (u : Ksu) : List Emit :=
  if before = false ∧ u.suppressed = true then
    ((List.range 20).flatMap fun k => silenceEmits now k (u.key k)) ++
      [.raise .suppressed, .post (event .suppress cause 1)]
  else if before = true ∧ u.suppressed = false then
    [.post (event .suppress cause 0), .endCause .suppressed]
  else []

/-- The pad after a change of suppression that was `before`. -/
structure SuppressionChanged (now : Word32) (t0 : Option Int) (cause : Nat) (before : Bool) (p q : Pad) : Prop where
  others : q.ksu = { p.ksu with
    keys := q.ksu.keys, chords := q.ksu.chords, retake := q.ksu.retake, recalRef := q.ksu.recalRef }
  length : q.ksu.keys.length = p.ksu.keys.length
  key : ∀ k, q.ksu.key k =
    if before = false ∧ p.ksu.suppressed = true then (p.ksu.key k).silenced else p.ksu.key k
  chord : ∀ i, q.ksu.chords.get i =
    if before = false ∧ p.ksu.suppressed = true then { p.ksu.chords.get i with start := none } else p.ksu.chords.get i
  retake : q.ksu.retake = if before = true ∧ p.ksu.suppressed = false then .allKeys else p.ksu.retake
  recalRef : q.ksu.recalRef =
    if before = true ∧ p.ksu.suppressed = false then (if t0.isSome then t0 else p.ksu.recalRef) else p.ksu.recalRef
  out : q.out = p.out ++ changeEmits now cause before p.ksu

theorem suppressionChanged {p : Pad} (hp : p.ksu.keys.length = 20) (now : Word32) (t0 : Option Int) (cause : Nat)
    (before : Bool) : SuppressionChanged now t0 cause before p (changeSuppression now t0 cause before p) := by
  unfold changeSuppression
  by_cases hstarts : before = false ∧ p.ksu.suppressed = true
  · have hnot : ¬ (before = true ∧ p.ksu.suppressed = false) := by simp [hstarts]
    have hdone := keysDone_eachKey (step := suppressKey now) hp fun k q _ => suppressKey_eq now k q
    rw [if_pos hstarts]
    unfold startSuppression stopChords Pad.emit
    dsimp only
    generalize eachKey (suppressKey now) p = q at hdone ⊢
    obtain ⟨hothers, hlength, hkey, hout⟩ := hdone
    refine ⟨?_, ?_, fun k => ?_, fun i => ?_, ?_, ?_, ?_⟩
    · dsimp only
      rw [hothers]
    · exact (List.length_map (f := clearPending)).trans hlength
    · rw [if_pos hstarts]
      refine (key_map clearPending q.ksu k).trans ?_
      rw [hlength, hkey k, hp]
      by_cases hk : k < 20
      · rw [if_pos hk, if_pos hk]; rfl
      · rw [if_neg hk, if_neg hk, key_of_length_le (by omega)]; rfl
    · rw [if_pos hstarts, hothers]
      cases i <;> rfl
    · rw [if_neg hnot, hothers]
    · rw [if_neg hnot, hothers]
    · simp [hout, changeEmits, hstarts]
  · by_cases hends : before = true ∧ p.ksu.suppressed = false
    · rw [if_neg hstarts, if_pos hends]
      refine ⟨rfl, rfl, fun k => ?_, fun i => ?_, ?_, ?_, ?_⟩
      · rw [if_neg hstarts]; rfl
      · rw [if_neg hstarts]; rfl
      · rw [if_pos hends]; rfl
      · rw [if_pos hends]; rfl
      · simp [endSuppression, Pad.emit, changeEmits, hends]
    · rw [if_neg hstarts, if_neg hends]
      exact ⟨rfl, rfl, fun k => by rw [if_neg hstarts], fun i => by rw [if_neg hstarts], by rw [if_neg hends],
        by rw [if_neg hends], by rw [changeEmits, if_neg hstarts, if_neg hends, List.append_nil]⟩

/-! ### Chords (R131) -/

/-- A chord that is tested against the keys as they stand (R131). -/
def chordTested (c : KeypadSettings) (cs : ChordSettings) (now : Word32) (u : Ksu) (r : ChordRec) : ChordRec :=
  if cs.keys.isEmpty then r
  else if exactlyHeld c cs.keys u then
    if r.spent then r
    else
      match r.start with
      | none => { r with start := some now }
      | some t => if cs.hold ≤ elapsed now t then ⟨none, true⟩ else r
  else if r.spent then
    if cs.keys.any fun k => !(u.key k).state.held then { r with spent := false } else r
  else { r with start := none }

/-- CHORD, where the chord has been held long enough and is not spent (R131). -/
def chordEmits (c : KeypadSettings) (cs : ChordSettings) (now : Word32) (u : Ksu) (i : Chord) (r : ChordRec) :
    List Emit :=
  if cs.keys.isEmpty = false ∧ exactlyHeld c cs.keys u = true ∧ r.spent = false ∧
      (match r.start with
       | none => false
       | some t => decide (cs.hold ≤ elapsed now t)) = true then
    [.post (event .chord i.num cs.hold)]
  else []

theorem PerSix.set_get {α : Type} (x : PerSix α) (i : Six) : x.set i (x.get i) = x := by cases i <;> rfl

theorem chordTest_eq (c : KeypadSettings) (cs : ChordSettings) (now : Word32) (i : Chord) (p : Pad) :
    chordTest c cs now i p =
      ⟨{ p.ksu with chords := p.ksu.chords.set i (chordTested c cs now p.ksu (p.ksu.chords.get i)) },
        p.out ++ chordEmits c cs now p.ksu i (p.ksu.chords.get i)⟩ := by
  have hsame : p = ⟨{ p.ksu with chords := p.ksu.chords.set i (p.ksu.chords.get i) }, p.out ++ []⟩ := by
    rw [PerSix.set_get, List.append_nil]
  unfold chordTest chordTested chordEmits
  dsimp only
  cases cs.keys.isEmpty
  · cases exactlyHeld c cs.keys p.ksu
    · cases hs : (p.ksu.chords.get i).spent
      · simp
      · cases cs.keys.any fun k => !(p.ksu.key k).state.held
        · simpa using hsame
        · simp
    · cases hs : (p.ksu.chords.get i).spent
      · cases ht : (p.ksu.chords.get i).start with
        | none => simp
        | some t =>
          by_cases hh : cs.hold ≤ elapsed now t
          · simp [hh, Pad.emit]
          · simpa [hs, ht, hh] using hsame
      · simpa [hs] using hsame
  · simpa using hsame

/-- The pad once the chords of the list have been tested. -/
structure ChordsDone (c : Settings) (now : Word32) (p : Pad) (is : List Chord) (q : Pad) : Prop where
  others : q.ksu = { p.ksu with chords := q.ksu.chords }
  chord : ∀ i, q.ksu.chords.get i =
    if i ∈ is then chordTested c.keypad (c.chord.get i) now p.ksu (p.ksu.chords.get i) else p.ksu.chords.get i
  out : q.out = p.out ++ is.flatMap fun i => chordEmits c.keypad (c.chord.get i) now p.ksu i (p.ksu.chords.get i)

theorem exactlyHeld_congr {c : KeypadSettings} {u v : Ksu} (h : ∀ k, u.key k = v.key k) (set : List Nat) :
    exactlyHeld c set u = exactlyHeld c set v := by
  simp only [exactlyHeld, h]

/-- A chord test looks at the keys, and at no other chord. -/
theorem chordTested_congr {c : KeypadSettings} {cs : ChordSettings} {now : Word32} {u v : Ksu}
    (h : ∀ k, u.key k = v.key k) (i : Chord) (r : ChordRec) :
    chordTested c cs now u r = chordTested c cs now v r ∧ chordEmits c cs now u i r = chordEmits c cs now v i r := by
  simp only [chordTested, chordEmits, exactlyHeld_congr h, h, and_self]

theorem chordsDone (c : Settings) (now : Word32) (p : Pad) {is : List Chord} (hn : is.Nodup) :
    ChordsDone c now p is (is.foldl (fun p i => chordTest c.keypad (c.chord.get i) now i p) p) := by
  induction is using List.reverseRecOn with
  | nil => exact ⟨rfl, fun i => by simp, by simp⟩
  | append_singleton is i ih =>
    have hi : i ∉ is := fun h => by
      have := List.nodup_append.1 hn
      exact this.2.2 i h i (List.mem_singleton_self i) rfl
    have h := ih (List.nodup_append.1 hn).1
    rw [List.foldl_append, List.foldl_cons, List.foldl_nil, chordTest_eq]
    generalize is.foldl (fun p i => chordTest c.keypad (c.chord.get i) now i p) p = q at h ⊢
    obtain ⟨hothers, hchord, hout⟩ := h
    have hkeys (k : Nat) : q.ksu.key k = p.ksu.key k := by rw [hothers]; rfl
    have hsame : q.ksu.chords.get i = p.ksu.chords.get i := by rw [hchord i, if_neg hi]
    obtain ⟨htested, hemits⟩ := chordTested_congr (c := c.keypad) (cs := c.chord.get i) (now := now) hkeys i
      (p.ksu.chords.get i)
    refine ⟨?_, fun j => ?_, ?_⟩
    · dsimp only
      rw [hothers]
    · dsimp only
      rw [PerSix.get_set, hsame, htested, hchord j]
      by_cases hij : i = j
      · subst hij
        simp
      · simp [hij, Ne.symm hij]
    · simp [hout, hsame, hemits, List.append_assoc]

/-! ### Drift (R116) -/

/-- The pad is quiet: suppression is inactive and every fitted key is IDLE (R116). -/
def quietPad (c : KeypadSettings) (u : Ksu) : Bool :=
  !u.suppressed && (u.keys.take c.keysFitted).all (fun r => r.state == .idle)

theorem quietPad_iff {c : KeypadSettings} {u : Ksu} (h : c.keysFitted ≤ u.keys.length) :
    quietPad c u = true ↔ u.suppressed = false ∧ ∀ k < c.keysFitted, (u.key k).state = .idle := by
  rw [quietPad, take_keys h]
  simp

theorem driftKeys_eq (c : KeypadSettings) (u : Ksu) : driftKeys c u = { u with keys := (driftKeys c u).keys } := by
  unfold driftKeys
  split <;> rfl

theorem driftKeys_length (c : KeypadSettings) (u : Ksu) : (driftKeys c u).keys.length = u.keys.length := by
  unfold driftKeys
  split
  · exact length_mapIndexed _ _ _
  · rfl

theorem driftKeys_key (c : KeypadSettings) (u : Ksu) (k : Nat) : (driftKeys c u).key k =
    if quietPad c u = true ∧ k < c.keysFitted then driftKey (u.key k) else u.key k := by
  unfold driftKeys
  change Ksu.key (if quietPad c u = true then _ else _) k = _
  by_cases hq : quietPad c u = true
  · rw [if_pos hq, key_mapIndexed]
    by_cases hk : k < u.keys.length
    · simp [hk, hq]
    · simp only [if_neg hk, hq, true_and]
      rw [key_of_length_le (by omega)]
      split <;> rfl
  · simp [hq]

end Sys2Proof.Machine

namespace Sys2Proof.Machine
open Sys2Proof.Safety

/-! ### The stages of a scan (R115) -/

/-- The pad after step 4 (R114 to R125). -/
def scanDebounced (c : KeypadSettings) (now : Word32) (raws : List Nat) (u : Ksu) : Pad :=
  stuckEnds u.anyQuarantined (eachKey (debounceKey c now) ⟨measureKeys c raws u, []⟩)

/-- The pad after step 5 (R127). -/
def scanCovered (c : KeypadSettings) (now : Word32) (t0 : Option Int) (raws : List Nat) (u : Ksu) : Pad :=
  coverTest c now t0 (scanDebounced c now raws u)

/-- The pad after step 6 (R121). -/
def scanPressed (c : KeypadSettings) (now : Word32) (t0 : Option Int) (raws : List Nat) (u : Ksu) : Pad :=
  eachKey (pressKey now) (scanCovered c now t0 raws u)

/-- The pad after step 7 (R123, R124). -/
def scanHeld (c : Settings) (now : Word32) (t0 : Option Int) (raws : List Nat) (u : Ksu) : Pad :=
  eachKey (stuckOrHold c.keypad c.keyRepeat now) (scanPressed c.keypad now t0 raws u)

/-- The pad after step 8 (R131). -/
def scanChorded (c : Settings) (now : Word32) (t0 : Option Int) (raws : List Nat) (u : Ksu) : Pad :=
  Six.all.foldl (fun p i => chordTest c.keypad (c.chord.get i) now i p) (scanHeld c now t0 raws u)

theorem scanPad_eq (c : Settings) (now : Word32) (t0 : Option Int) (raws : List Nat) (u : Ksu) :
    scanPad c now t0 raws u =
      ⟨driftKeys c.keypad (scanChorded c now t0 raws u).ksu, (scanChorded c now t0 raws u).out⟩ := rfl

theorem measureKeys_key (c : KeypadSettings) (raws : List Nat) (u : Ksu) (k : Nat) : (measureKeys c raws u).key k =
    if k < u.keys.length ∧ k < c.keysFitted then measured c u.retake (raws.getD k 0) (u.key k) else u.key k := by
  refine (key_mapIndexed _ u k).trans ?_
  by_cases hk : k < u.keys.length
  · simp only [hk, if_true, true_and]
    rfl
  · simp [hk]

/-- A key after step 4 (R114 to R125). -/
def stepped (c : KeypadSettings) (now : Word32) (raws : List Nat) (u : Ksu) (k : Nat) : KeyRec :=
  if k < c.keysFitted then debounced c now (measured c u.retake (raws.getD k 0) (u.key k)) else u.key k

/-- What a key hands on in step 4 (R122). -/
def stepEmits (c : KeypadSettings) (now : Word32) (raws : List Nat) (u : Ksu) (k : Nat) : List Emit :=
  if k < c.keysFitted ∧ releasesNow c (measured c u.retake (raws.getD k 0) (u.key k)) = true then
    releaseEmits now k (measured c u.retake (raws.getD k 0) (u.key k)) false false
  else []

/-- The end of KEY_STUCK's live cause, where it is due (R125). -/
def stuckEndEmits (before : Bool) (u : Ksu) : List Emit :=
  if before = true ∧ u.anyQuarantined = false then [.endCause .keyStuck] else []

theorem stuckEnds_eq (before : Bool) (p : Pad) : stuckEnds before p = ⟨p.ksu, p.out ++ stuckEndEmits before p.ksu⟩ := by
  unfold stuckEnds stuckEndEmits
  cases before <;> cases h : p.ksu.anyQuarantined <;> simp [Pad.emit]

/-- The pad after step 4. -/
structure DebounceDone (c : KeypadSettings) (now : Word32) (raws : List Nat) (u : Ksu) (p : Pad) : Prop where
  others : p.ksu = { u with keys := p.ksu.keys, retake := .none }
  length : p.ksu.keys.length = 20
  key : ∀ k < 20, p.ksu.key k = stepped c now raws u k
  out : p.out =
    ((List.range 20).flatMap (stepEmits c now raws u)) ++ stuckEndEmits u.anyQuarantined p.ksu

theorem scanDebounced_done {u : Ksu} (hu : u.keys.length = 20) (c : KeypadSettings) (now : Word32) (raws : List Nat) :
    DebounceDone c now raws u (scanDebounced c now raws u) := by
  have hlength : (measureKeys c raws u).keys.length = 20 := (length_mapIndexed _ _ _).trans hu
  have hdone := keysDone_eachKey (p := ⟨measureKeys c raws u, []⟩) (step := debounceKey c now) hlength
    fun k q _ => debounceKey_eq c now k q
  unfold scanDebounced
  rw [stuckEnds_eq]
  generalize eachKey (debounceKey c now) ⟨measureKeys c raws u, []⟩ = p at hdone ⊢
  obtain ⟨hothers, hlength', hkey, hout⟩ := hdone
  have hmeasured {k : Nat} (hk : k < 20) (hf : k < c.keysFitted) :
      (measureKeys c raws u).key k = measured c u.retake (raws.getD k 0) (u.key k) := by
    rw [measureKeys_key, if_pos ⟨by omega, hf⟩]
  refine ⟨by rw [hothers]; rfl, hlength'.trans hlength, fun k hk => ?_, ?_⟩
  · rw [hkey k, if_pos hk, stepped]
    split
    · rw [hmeasured hk ‹_›]
    · rw [measureKeys_key, if_neg (fun h => ‹¬ _› h.2)]
  · dsimp only
    rw [hout, List.nil_append]
    congr 1
    refine List.flatMap_congr fun k hk => ?_
    unfold stepEmits
    by_cases hf : k < c.keysFitted
    · simp only [hmeasured (List.mem_range.1 hk) hf]
    · simp [hf]

/-- The pad with cover judged, before suppression follows it (R127). -/
def scanJudged (c : KeypadSettings) (now : Word32) (raws : List Nat) (u : Ksu) : Ksu :=
  (scanDebounced c now raws u).ksu.withCover c now

/-- Suppression is active from step 5 on (R127, R128, R130). -/
def scanSuppressed (c : KeypadSettings) (now : Word32) (raws : List Nat) (u : Ksu) : Bool :=
  (scanJudged c now raws u).suppressed

/-- A key after step 5 (R128). -/
def covered (c : KeypadSettings) (now : Word32) (raws : List Nat) (u : Ksu) (k : Nat) : KeyRec :=
  if u.suppressed = false ∧ scanSuppressed c now raws u = true then (stepped c now raws u k).silenced
  else stepped c now raws u k

/-- A key after step 6 (R121). -/
def pressedAt (c : KeypadSettings) (now : Word32) (raws : List Nat) (u : Ksu) (k : Nat) : KeyRec :=
  pressed (scanSuppressed c now raws u) now (covered c now raws u k)

/-- A key after step 7 (R123, R124). -/
def settled (c : Settings) (now : Word32) (raws : List Nat) (u : Ksu) (k : Nat) : KeyRec :=
  if k < c.keypad.keysFitted then
    heldTested c.keypad (c.keyRepeat.getD k false) now (pressedAt c.keypad now raws u k)
  else pressedAt c.keypad now raws u k

/-- What a key hands on in step 7 (R123, R124). -/
def holdEmits (c : Settings) (now : Word32) (raws : List Nat) (u : Ksu) (k : Nat) : List Emit :=
  if k < c.keypad.keysFitted then
    heldEmits c.keypad (c.keyRepeat.getD k false) now k (pressedAt c.keypad now raws u k)
  else []

/-- What a scan hands on up to step 5 (R122, R125, R128, R130). -/
def coverEmits (c : KeypadSettings) (now : Word32) (raws : List Nat) (u : Ksu) : List Emit :=
  (List.range 20).flatMap (stepEmits c now raws u) ++
    stuckEndEmits u.anyQuarantined (scanDebounced c now raws u).ksu ++
    changeEmits now 2 u.suppressed (scanJudged c now raws u)

/-- What a scan hands on in steps 6 and 7 (R121, R123, R124). -/
def touchEmits (c : Settings) (now : Word32) (raws : List Nat) (u : Ksu) : List Emit :=
  ((List.range 20).flatMap fun k =>
    pressEmits (scanSuppressed c.keypad now raws u) now k (covered c.keypad now raws u k)) ++
  (List.range 20).flatMap (holdEmits c now raws u)

/-- The pad after step 7. -/
structure HeldDone (c : Settings) (now : Word32) (t0 : Option Int) (raws : List Nat) (u : Ksu) (p : Pad) : Prop where
  condensation : p.ksu.condensation = u.condensation
  frost : p.ksu.frost = u.frost
  cover : p.ksu.cover = (scanJudged c.keypad now raws u).cover
  coverFall : p.ksu.coverFall = (scanJudged c.keypad now raws u).coverFall
  length : p.ksu.keys.length = 20
  key : ∀ k < 20, p.ksu.key k = settled c now raws u k
  chord : ∀ i, p.ksu.chords.get i =
    if u.suppressed = false ∧ scanSuppressed c.keypad now raws u = true then
      { u.chords.get i with start := none } else u.chords.get i
  retake : p.ksu.retake =
    if u.suppressed = true ∧ scanSuppressed c.keypad now raws u = false then .allKeys else .none
  recalRef : p.ksu.recalRef =
    if u.suppressed = true ∧ scanSuppressed c.keypad now raws u = false then
      (if t0.isSome then t0 else u.recalRef) else u.recalRef
  out : p.out = coverEmits c.keypad now raws u ++ touchEmits c now raws u

/-- The pad after step 5. -/
structure CoverDone (c : KeypadSettings) (now : Word32) (t0 : Option Int) (raws : List Nat) (u : Ksu) (p : Pad) :
    Prop where
  causes : p.ksu.condensation = u.condensation ∧ p.ksu.frost = u.frost ∧
    p.ksu.cover = (scanJudged c now raws u).cover ∧ p.ksu.coverFall = (scanJudged c now raws u).coverFall
  length : p.ksu.keys.length = 20
  key : ∀ k < 20, p.ksu.key k = covered c now raws u k
  chord : ∀ i, p.ksu.chords.get i =
    if u.suppressed = false ∧ scanSuppressed c now raws u = true then { u.chords.get i with start := none }
    else u.chords.get i
  retake : p.ksu.retake =
    if u.suppressed = true ∧ scanSuppressed c now raws u = false then .allKeys else .none
  recalRef : p.ksu.recalRef =
    if u.suppressed = true ∧ scanSuppressed c now raws u = false then (if t0.isSome then t0 else u.recalRef)
    else u.recalRef
  out : p.out = coverEmits c now raws u

theorem CoverDone.suppressed {c : KeypadSettings} {now : Word32} {t0 : Option Int} {raws : List Nat} {u : Ksu}
    {p : Pad} (hu : u.keys.length = 20) (h : CoverDone c now t0 raws u p) :
    p.ksu.suppressed = scanSuppressed c now raws u := by
  obtain ⟨hcond, hfrost, hcover, -⟩ := h.causes
  have hd := (scanDebounced_done hu c now raws).others
  rw [Ksu.suppressed, hcond, hfrost, hcover, scanSuppressed, Ksu.suppressed, scanJudged, Ksu.withCover, hd]

/-- Steps 1 to 4 and the cover test change the keys, cover and the re-take alone. -/
theorem scanJudged_fields {u : Ksu} (hu : u.keys.length = 20) (c : KeypadSettings) (now : Word32) (raws : List Nat) :
    (scanJudged c now raws u).condensation = u.condensation ∧ (scanJudged c now raws u).frost = u.frost ∧
      (scanJudged c now raws u).recalRef = u.recalRef ∧ (scanJudged c now raws u).retake = .none ∧
      (scanJudged c now raws u).chords = u.chords ∧
      ∀ k < 20, (scanJudged c now raws u).key k = stepped c now raws u k := by
  have hdone := scanDebounced_done hu c now raws
  have hkeys (k : Nat) : (scanJudged c now raws u).key k = (scanDebounced c now raws u).ksu.key k := rfl
  refine ⟨?_, ?_, ?_, ?_, ?_, fun k hk => (hkeys k).trans (hdone.key k hk)⟩ <;>
    rw [scanJudged, Ksu.withCover, hdone.others]

theorem scanCovered_done {u : Ksu} (hu : u.keys.length = 20) (c : KeypadSettings) (now : Word32) (t0 : Option Int)
    (raws : List Nat) : CoverDone c now t0 raws u (scanCovered c now t0 raws u) := by
  have hdone := scanDebounced_done hu c now raws
  have hbefore : (scanDebounced c now raws u).ksu.suppressed = u.suppressed := by rw [hdone.others]; rfl
  have hchanged := suppressionChanged (p := ⟨scanJudged c now raws u, (scanDebounced c now raws u).out⟩)
    hdone.length now t0 2 u.suppressed
  have hcovered : scanCovered c now t0 raws u = changeSuppression now t0 2 u.suppressed
      ⟨scanJudged c now raws u, (scanDebounced c now raws u).out⟩ := by
    rw [scanCovered, coverTest_eq, hbefore, scanJudged]
  rw [← hcovered] at hchanged
  obtain ⟨hcond, hfrost, href, hdue, hchords, hkeys⟩ := scanJudged_fields hu c now raws
  obtain ⟨hothers, hlength, hkey, hchord, hretake, hrecalRef, hout⟩ := hchanged
  refine ⟨?_, hlength.trans hdone.length, fun k hk => ?_, fun i => ?_, ?_, ?_, ?_⟩
  · rw [hothers]
    exact ⟨hcond, hfrost, rfl, rfl⟩
  · rw [hkey k, covered, ← hkeys k hk]
    rfl
  · rw [hchord i, ← hchords]
    rfl
  · rw [hretake, ← hdue]
    rfl
  · rw [hrecalRef, ← href]
    rfl
  · rw [hout, hdone.out]
    rfl

theorem scanHeld_done {u : Ksu} (hu : u.keys.length = 20) (c : Settings) (now : Word32) (t0 : Option Int)
    (raws : List Nat) : HeldDone c now t0 raws u (scanHeld c now t0 raws u) := by
  have hcover := scanCovered_done hu c.keypad now t0 raws
  have hsup := hcover.suppressed hu
  unfold scanHeld scanPressed
  generalize scanCovered c.keypad now t0 raws u = v at hcover hsup ⊢
  obtain ⟨⟨hcond, hfrost, hcov, hfall⟩, hlength, hkey, hchord, hretake, hrecalRef, hout⟩ := hcover
  have hpress := keysDone_eachKey (p := v) (step := pressKey now)
    (f := fun _ => pressed (scanSuppressed c.keypad now raws u) now)
    (g := pressEmits (scanSuppressed c.keypad now raws u) now) hlength fun k q hq => by
      rw [pressKey_eq, hq, ← hsup]
      rfl
  generalize eachKey (pressKey now) v = w at hpress ⊢
  obtain ⟨hothers, hlength', hkey', hout'⟩ := hpress
  have hheld := keysDone_eachKey (p := w) (step := stuckOrHold c.keypad c.keyRepeat now) (hlength'.trans hlength)
    fun k q _ => stuckOrHold_eq c.keypad c.keyRepeat now k q
  have hpressed {k : Nat} (hk : k < 20) : w.ksu.key k = pressedAt c.keypad now raws u k := by
    rw [hkey' k, if_pos hk, hkey k hk]
    rfl
  generalize eachKey (stuckOrHold c.keypad c.keyRepeat now) w = x at hheld ⊢
  obtain ⟨hothers', hlength'', hkey'', hout''⟩ := hheld
  have hksu : x.ksu = { v.ksu with keys := x.ksu.keys } := by rw [hothers', hothers]
  refine ⟨?_, ?_, ?_, ?_, hlength''.trans (hlength'.trans hlength), fun k hk => ?_, fun i => ?_, ?_, ?_, ?_⟩
  · rw [hksu]; exact hcond
  · rw [hksu]; exact hfrost
  · rw [hksu]; exact hcov
  · rw [hksu]; exact hfall
  · rw [hkey'' k, if_pos hk, hpressed hk]
    rfl
  · rw [hksu]; exact hchord i
  · rw [hksu]; exact hretake
  · rw [hksu]; exact hrecalRef
  · rw [hout'', hout', hout, List.append_assoc]
    congr 1
    refine congrArg₂ (· ++ ·) (List.flatMap_congr fun k hk => ?_) (List.flatMap_congr fun k hk => ?_)
    · rw [hkey k (List.mem_range.1 hk)]
    · rw [hpressed (List.mem_range.1 hk)]
      rfl

theorem HeldDone.suppressed {c : Settings} {now : Word32} {t0 : Option Int} {raws : List Nat} {u : Ksu}
    {p : Pad} (hu : u.keys.length = 20) (h : HeldDone c now t0 raws u p) :
    p.ksu.suppressed = scanSuppressed c.keypad now raws u := by
  have hd := (scanDebounced_done hu c.keypad now raws).others
  rw [Ksu.suppressed, h.condensation, h.frost, h.cover, scanSuppressed, Ksu.suppressed, scanJudged, Ksu.withCover, hd]

/-- CHORD events of a scan, in chord order (R131). -/
def scanChordEmits (c : Settings) (now : Word32) (t0 : Option Int) (raws : List Nat) (u : Ksu) : List Emit :=
  Six.all.flatMap fun i => chordEmits c.keypad (c.chord.get i) now (scanHeld c now t0 raws u).ksu i
    ((scanHeld c now t0 raws u).ksu.chords.get i)

/-- What a scan makes of the pad (R115): its causes of suppression, its keys, its chords, and what it hands on. -/
structure ScanDone (c : Settings) (now : Word32) (t0 : Option Int) (raws : List Nat) (u : Ksu) (p : Pad) : Prop where
  condensation : p.ksu.condensation = u.condensation
  frost : p.ksu.frost = u.frost
  cover : p.ksu.cover = (scanJudged c.keypad now raws u).cover
  coverFall : p.ksu.coverFall = (scanJudged c.keypad now raws u).coverFall
  suppressed : p.ksu.suppressed = scanSuppressed c.keypad now raws u
  length : p.ksu.keys.length = 20
  key : ∀ k < 20, p.ksu.key k =
    if quietPad c.keypad (scanChorded c now t0 raws u).ksu = true ∧ k < c.keypad.keysFitted then
      driftKey (settled c now raws u k) else settled c now raws u k
  retake : p.ksu.retake =
    if u.suppressed = true ∧ scanSuppressed c.keypad now raws u = false then .allKeys else .none
  recalRef : p.ksu.recalRef =
    if u.suppressed = true ∧ scanSuppressed c.keypad now raws u = false then
      (if t0.isSome then t0 else u.recalRef) else u.recalRef
  chord : ∀ i, p.ksu.chords.get i =
    chordTested c.keypad (c.chord.get i) now (scanHeld c now t0 raws u).ksu
      (if u.suppressed = false ∧ scanSuppressed c.keypad now raws u = true then
        { u.chords.get i with start := none } else u.chords.get i)
  out : p.out = coverEmits c.keypad now raws u ++ touchEmits c now raws u ++ scanChordEmits c now t0 raws u

theorem scanPad_done {u : Ksu} (hu : u.keys.length = 20) (c : Settings) (now : Word32) (t0 : Option Int)
    (raws : List Nat) : ScanDone c now t0 raws u (scanPad c now t0 raws u) := by
  have hheld := scanHeld_done hu c now t0 raws
  have hsup := hheld.suppressed hu
  have hchords := chordsDone c now (scanHeld c now t0 raws u) (is := Six.all) (by decide)
  rw [← scanChorded] at hchords
  rw [scanPad_eq]
  have hksu : (driftKeys c.keypad (scanChorded c now t0 raws u).ksu) = { (scanHeld c now t0 raws u).ksu with
      keys := (driftKeys c.keypad (scanChorded c now t0 raws u).ksu).keys
      chords := (scanChorded c now t0 raws u).ksu.chords } := by
    rw [driftKeys_eq, hchords.others]
  have hall (i : Chord) : i ∈ Six.all := by cases i <;> decide
  refine ⟨?_, ?_, ?_, ?_, ?_, ?_, fun k hk => ?_, ?_, ?_, fun i => ?_, ?_⟩
  · rw [hksu]; exact hheld.condensation
  · rw [hksu]; exact hheld.frost
  · rw [hksu]; exact hheld.cover
  · rw [hksu]; exact hheld.coverFall
  · rw [hksu]; exact hsup
  · rw [driftKeys_length, hchords.others]; exact hheld.length
  · rw [driftKeys_key, show (scanChorded c now t0 raws u).ksu.key k = settled c now raws u k by
      rw [hchords.others]; exact hheld.key k hk]
  · rw [hksu]; exact hheld.retake
  · rw [hksu]; exact hheld.recalRef
  · rw [hksu]
    dsimp only
    rw [hchords.chord i, if_pos (hall i), hheld.chord i]
  · rw [hchords.out, hheld.out]
    rfl

end Sys2Proof.Machine

namespace Sys2Proof.Machine
open Sys2Proof.Safety

/-! ### One key through the steps of a scan -/

/-- The baseline of a fitted key after steps 1 to 3 (R114, R117, R119, R120). -/
def measuredBase (c : KeypadSettings) (due : Retake) (raw : Nat) (r : KeyRec) : Nat :=
  match r.baseline with
  | none => raw
  | some b =>
    if retakeNames due r.state = true ∨ (r.state ≠ .pressed ∧ b + c.touchThr < raw) then raw else b

/-- Steps 1 to 3 give a fitted key its raw count, a baseline and the delta between them, and nothing else. -/
theorem measured_eq (c : KeypadSettings) (due : Retake) (raw : Nat) (r : KeyRec) : measured c due raw r =
    { r with
      raw := raw, baseline := some (measuredBase c due raw r)
      delta := (measuredBase c due raw r : Int) - raw } := by
  have hanti (r' : KeyRec) (h : r'.baseline = some r'.raw) : antiTouch c.touchThr r' = r' := by
    unfold antiTouch
    rw [h]
    exact if_neg (by omega)
  unfold measured measuredBase measureKey
  cases hb : r.baseline with
  | none =>
    dsimp only
    split <;> rw [hanti _ rfl] <;> simp [KeyRec.retake]
  | some b =>
    dsimp only
    by_cases hn : retakeNames due r.state = true
    · rw [if_pos hn, hanti _ rfl, if_pos (.inl hn)]
      simp [KeyRec.retake]
    · simp only [hn, Bool.false_eq_true, if_false, false_or, antiTouch]
      split
      · simp [KeyRec.retake]
      · rfl

@[simp] theorem measured_state (c : KeypadSettings) (due : Retake) (raw : Nat) (r : KeyRec) :
    (measured c due raw r).state = r.state := by rw [measured_eq]

/-! #### Step 4, state by state (R118, R122, R125) -/

theorem debounced_idle {c : KeypadSettings} {r : KeyRec} (h : r.state = .idle) (now : Word32) : debounced c now r =
    if (c.touchThr : Int) ≤ r.delta then
      { r with state := .pendingPress, pressRun := 1, due := decide (c.pressCount ≤ 1) } else r := by
  have hstep : stepKey c r = if (c.touchThr : Int) ≤ r.delta then
      { r with state := .pendingPress, pressRun := 1, due := decide (c.pressCount ≤ 1) } else r := by
    simp only [stepKey, h]
  have hrel : releasesNow c r = false := by
    rw [releasesNow, hstep]
    split <;> simp [h]
  rw [debounced, if_neg (by simp [h]), if_neg (by simp [hrel]), hstep]

theorem debounced_pendingPress {c : KeypadSettings} {r : KeyRec} (h : r.state = .pendingPress) (now : Word32) :
    debounced c now r =
      if (c.touchThr : Int) ≤ r.delta then
        { r with
          pressRun := min c.pressCount (r.pressRun + 1), due := decide (c.pressCount ≤ r.pressRun + 1) }
      else { r with state := .idle, pressRun := 0, due := false } := by
  have hdue : decide (min c.pressCount (r.pressRun + 1) = c.pressCount) = decide (c.pressCount ≤ r.pressRun + 1) := by
    simp
  have hstep : stepKey c r = if (c.touchThr : Int) ≤ r.delta then
        { r with
          pressRun := min c.pressCount (r.pressRun + 1), due := decide (c.pressCount ≤ r.pressRun + 1) }
      else { r with state := .idle, pressRun := 0, due := false } := by
    simp only [stepKey, h, hdue]
  have hrel : releasesNow c r = false := by
    rw [releasesNow, hstep]
    split <;> simp [h]
  rw [debounced, if_neg (by simp [h]), if_neg (by simp [hrel]), hstep]

theorem debounced_quarantined {c : KeypadSettings} {r : KeyRec} (h : r.state = .quarantined) (now : Word32) :
    debounced c now r = stepQuarantined c now r := if_pos h

/-- The release run of a held key that a scan finds below release_thr (R118). -/
def nextReleaseRun (r : KeyRec) : Nat := if r.state = .pressed then 1 else r.releaseRun + 1

theorem held_iff (st : KeyState) : st.held = true ↔ st = .pressed ∨ st = .pendingRelease := by
  cases st <;> simp [KeyState.held]

theorem stepKey_held {c : KeypadSettings} {r : KeyRec} (h : r.state.held = true) : stepKey c r =
    if (c.releaseThr : Int) ≤ r.delta then
      { r with state := .pressed, releaseRun := if r.state = .pressed then r.releaseRun else 0 }
    else { r with state := .pendingRelease, releaseRun := nextReleaseRun r } := by
  rcases (held_iff _).1 h with hs | hs
  · by_cases hd : (c.releaseThr : Int) ≤ r.delta
    · simp only [stepKey, hs, if_pos hd, if_neg (not_lt.2 hd), if_true]
      rw [← hs]
    · simp only [stepKey, hs, if_neg hd, if_pos (not_le.1 hd), nextReleaseRun, if_true]
  · by_cases hd : (c.releaseThr : Int) ≤ r.delta
    · simp [stepKey, hs, hd, not_lt.2 hd]
    · simp only [stepKey, hs, if_neg hd, if_pos (not_le.1 hd), nextReleaseRun, reduceCtorEq, if_false]

/-- A held key is released once its run below release_thr is long enough (R118, R122; log entry 15). -/
theorem releasesNow_held {c : KeypadSettings} {r : KeyRec} (h : r.state.held = true) :
    releasesNow c r = true ↔ ¬ (c.releaseThr : Int) ≤ r.delta ∧ c.releaseCount ≤ nextReleaseRun r := by
  have hq : r.state ≠ .quarantined := fun hq => by rw [hq] at h; cases h
  rw [releasesNow, stepKey_held h, decide_eq_true_iff]
  split <;> simp [*]

/-- No other key is released in step 4. -/
theorem releasesNow_of_not_held {c : KeypadSettings} {r : KeyRec} (h : r.state.held = false) :
    releasesNow c r = false := by
  rw [releasesNow, decide_eq_false_iff_not]
  rintro ⟨hq, hp, -⟩
  cases hs : r.state with
  | idle =>
    rw [stepKey, hs] at hp
    dsimp only at hp
    split at hp <;> simp [hs] at hp
  | pendingPress =>
    rw [stepKey, hs] at hp
    dsimp only at hp
    split at hp <;> simp at hp
  | pressed | pendingRelease => rw [hs] at h; cases h
  | quarantined => exact hq hs

theorem debounced_held {c : KeypadSettings} {r : KeyRec} (h : r.state.held = true) (now : Word32) :
    debounced c now r =
      if (c.releaseThr : Int) ≤ r.delta then
        { r with state := .pressed, releaseRun := if r.state = .pressed then r.releaseRun else 0 }
      else if c.releaseCount ≤ nextReleaseRun r then r.toIdle
      else { r with state := .pendingRelease, releaseRun := nextReleaseRun r } := by
  have hq : r.state ≠ .quarantined := fun hq => by rw [hq] at h; cases h
  rw [debounced, if_neg hq]
  by_cases hrel : releasesNow c r = true
  · obtain ⟨hd, hn⟩ := (releasesNow_held h).1 hrel
    rw [if_pos hrel, stepKey_held h, if_neg hd, if_neg hd, if_pos hn]
    rfl
  · rw [if_neg hrel, stepKey_held h]
    by_cases hd : (c.releaseThr : Int) ≤ r.delta
    · rw [if_pos hd, if_pos hd]
    · rw [if_neg hd, if_neg hd, if_neg fun hn => hrel ((releasesNow_held h).2 ⟨hd, hn⟩)]

/-- A QUARANTINED key stays, or is IDLE with its raw count as baseline (R125). -/
theorem stepQuarantined_cases (c : KeypadSettings) (now : Word32) (r : KeyRec) :
    (∃ q, stepQuarantined c now r = { r with quietStart := q }) ∨
      stepQuarantined c now r = { r.retake with state := .idle, quietStart := none } := by
  unfold stepQuarantined
  split
  · exact .inl ⟨_, rfl⟩
  · split
    · exact .inl ⟨_, rfl⟩
    · split
      · exact .inr rfl
      · exact .inl ⟨_, rfl⟩

/-- What step 4 can do to a key: its state, runs, due mark and quiet start change; the end of a quarantine makes
the raw count its baseline; nothing else (R118, R122, R125). -/
theorem debounced_cases (c : KeypadSettings) (now : Word32) (r : KeyRec) :
    (∃ st a b d q, debounced c now r = { r with
        state := st, pressRun := a, releaseRun := b, due := d, quietStart := q } ∧
      (st.held = true → r.state.held = true) ∧ (r.state = .quarantined ↔ st = .quarantined)) ∨
    (r.state = .quarantined ∧ debounced c now r = { r.retake with state := .idle, quietStart := none }) := by
  cases hs : r.state with
  | idle =>
    refine .inl ?_
    rw [debounced_idle hs]
    split
    · exact ⟨_, _, _, _, _, rfl, by simp [KeyState.held], by simp⟩
    · exact ⟨_, _, _, _, _, rfl, by simp [hs, KeyState.held], by simp [hs]⟩
  | pendingPress =>
    refine .inl ?_
    rw [debounced_pendingPress hs]
    split
    · exact ⟨_, _, _, _, _, rfl, by simp [hs, KeyState.held], by simp [hs]⟩
    · exact ⟨_, _, _, _, _, rfl, by simp [KeyState.held], by simp⟩
  | pressed | pendingRelease =>
    refine .inl ?_
    rw [debounced_held (by rw [hs]; rfl)]
    split
    · exact ⟨_, _, _, _, _, rfl, fun _ => rfl, by simp⟩
    · split
      · exact ⟨_, _, _, _, _, rfl, fun _ => rfl, by simp⟩
      · exact ⟨_, _, _, _, _, rfl, fun _ => rfl, by simp⟩
  | quarantined =>
    rw [debounced_quarantined hs]
    rcases stepQuarantined_cases c now r with ⟨q, h⟩ | h
    · exact .inl ⟨_, _, _, _, _, h, by simp [hs, KeyState.held], by simp [hs]⟩
    · exact .inr ⟨rfl, h⟩

/-- Step 4 never makes a key held that was not (R118). -/
theorem debounced_not_held {c : KeypadSettings} {now : Word32} {r : KeyRec} (h : r.state.held = false) :
    (debounced c now r).state.held = false := by
  rcases debounced_cases c now r with ⟨st, a, b, d, q, heq, hheld, -⟩ | ⟨-, heq⟩
  · rw [heq, Bool.eq_false_iff]
    exact fun hst => by simp [hheld hst] at h
  · rw [heq]; rfl

/-! #### Steps 5 to 9 -/

theorem silenced_of_held {r : KeyRec} (h : r.state.held = true) :
    r.silenced = { r.toIdle with ordinal := 0 } := by
  rw [KeyRec.silenced, if_pos h]
  rfl

theorem silenced_of_not_held {r : KeyRec} (h : r.state.held = false) : r.silenced = clearPending r := by
  rw [KeyRec.silenced, if_neg (by simp [h])]

/-- After suppression has started a key is IDLE or QUARANTINED (R128). -/
theorem silenced_state (r : KeyRec) : r.silenced.state = if r.state = .quarantined then .quarantined else .idle := by
  cases hs : r.state with
  | pressed | pendingRelease => rw [silenced_of_held (by rw [hs]; rfl)]; rfl
  | idle | pendingPress | quarantined =>
    rw [silenced_of_not_held (by rw [hs]; rfl), clearPending]
    simp [hs]

/-- Suppression leaves what has been measured (R128). -/
theorem silenced_measures (r : KeyRec) :
    r.silenced.raw = r.raw ∧ r.silenced.baseline = r.baseline ∧ r.silenced.delta = r.delta ∧
      r.silenced.quietStart = r.quietStart := by
  unfold KeyRec.silenced clearPending KeyRec.toIdle
  split <;> split <;> exact ⟨rfl, rfl, rfl, rfl⟩

theorem silenced_idle {r : KeyRec} (h : r.state = .idle) : r.silenced = r := by
  rw [silenced_of_not_held (by rw [h]; rfl), clearPending, if_neg (by simp [h])]

theorem pressed_of_not_due {r : KeyRec} (h : r.due = false) (s : Bool) (now : Word32) : pressed s now r = r := by
  rw [pressed, if_neg (by simp [h])]

/-- After step 6 no key is due (R121). -/
theorem pressed_due (s : Bool) (now : Word32) (r : KeyRec) : (pressed s now r).due = false := by
  unfold pressed
  split
  · split <;> rfl
  · exact Bool.eq_false_iff.2 ‹_›

/-- Under suppression no key is pressed (R121). -/
theorem pressed_suppressed (now : Word32) (r : KeyRec) : pressed true now r = { r with due := false } := by
  unfold pressed
  split
  · rfl
  · rename_i hd
    rw [← Bool.eq_false_iff.2 hd]

theorem pressed_measures (s : Bool) (now : Word32) (r : KeyRec) :
    (pressed s now r).raw = r.raw ∧ (pressed s now r).baseline = r.baseline ∧ (pressed s now r).delta = r.delta ∧
      (pressed s now r).quietStart = r.quietStart := by
  unfold pressed
  split
  · split <;> exact ⟨rfl, rfl, rfl, rfl⟩
  · exact ⟨rfl, rfl, rfl, rfl⟩

theorem heldTested_of_not_held {r : KeyRec} (h : r.state.held = false) (c : KeypadSettings) (rep : Bool)
    (now : Word32) : heldTested c rep now r = r := if_neg (by simp [h])

theorem heldTested_measures (c : KeypadSettings) (rep : Bool) (now : Word32) (r : KeyRec) :
    (heldTested c rep now r).raw = r.raw ∧ (heldTested c rep now r).baseline = r.baseline ∧
      (heldTested c rep now r).delta = r.delta ∧ (heldTested c rep now r).due = r.due := by
  unfold heldTested
  split
  · split
    · exact ⟨rfl, rfl, rfl, rfl⟩
    · split <;> exact ⟨rfl, rfl, rfl, rfl⟩
  · exact ⟨rfl, rfl, rfl, rfl⟩

theorem driftKey_fields (r : KeyRec) : driftKey r = { r with baseline := (driftKey r).baseline } ∧
    ((driftKey r).baseline = none ↔ r.baseline = none) := by
  unfold driftKey
  cases h : r.baseline with
  | none => exact ⟨rfl, by simp [h]⟩
  | some b => exact ⟨rfl, by simp⟩

end Sys2Proof.Machine

namespace Sys2Proof.Machine
open Sys2Proof.Safety

/-! ### A scan keeps the pad (R114, R118, R121, R129, R133) -/

theorem covered_eq_stepped_or (c : KeypadSettings) (now : Word32) (raws : List Nat) (u : Ksu) (k : Nat) :
    covered c now raws u k = stepped c now raws u k ∨
      (covered c now raws u k = (stepped c now raws u k).silenced ∧ u.suppressed = false ∧
        scanSuppressed c now raws u = true) := by
  unfold covered
  split
  · exact .inr ⟨rfl, ‹_›⟩
  · exact .inl rfl

/-- A key that is not fitted is passed over (R114, R133). -/
theorem settled_unfitted {c : Settings} {now : Word32} {raws : List Nat} {u : Ksu} {k : Nat}
    (hk : c.keypad.keysFitted ≤ k) (hidle : (u.key k).state = .idle) (hdue : (u.key k).due = false) :
    settled c now raws u k = u.key k := by
  have hstepped : stepped c.keypad now raws u k = u.key k := if_neg (by omega)
  have hcovered : covered c.keypad now raws u k = u.key k := by
    rcases covered_eq_stepped_or c.keypad now raws u k with h | ⟨h, -⟩
    · rw [h, hstepped]
    · rw [h, hstepped, silenced_idle hidle]
  rw [settled, if_neg (by omega), pressedAt, hcovered, pressed_of_not_due hdue]

/-- The settled key is the key of step 6 but for its state, its runs, its ordinal and its quiet start. -/
theorem settled_due (c : Settings) (now : Word32) (raws : List Nat) (u : Ksu) (k : Nat) :
    (settled c now raws u k).due = false := by
  unfold settled
  split
  · rw [(heldTested_measures ..).2.2.2]
    exact pressed_due _ _ _
  · exact pressed_due _ _ _

/-- Under suppression no key is held after a scan (R129). -/
theorem settled_not_held {c : Settings} {now : Word32} {raws : List Nat} {u : Ksu} {k : Nat}
    (hu : u.suppressed = true → (u.key k).state.held = false) (hs : scanSuppressed c.keypad now raws u = true) :
    (settled c now raws u k).state.held = false := by
  have hcovered : (covered c.keypad now raws u k).state.held = false := by
    unfold covered
    cases hb : u.suppressed with
    | false =>
      rw [if_pos ⟨rfl, hs⟩, silenced_state]
      split <;> rfl
    | true =>
      rw [if_neg (by simp), stepped]
      split
      · exact debounced_not_held (by rw [measured_state]; exact hu hb)
      · exact hu hb
  have hpressed : (pressedAt c.keypad now raws u k).state.held = false := by
    rw [pressedAt, hs, pressed_suppressed]
    exact hcovered
  unfold settled
  split
  · rw [heldTested_of_not_held hpressed]
    exact hpressed
  · exact hpressed

/-- What has been measured of a fitted key stands after steps 5 to 7. -/
theorem settled_measures (c : Settings) (now : Word32) (raws : List Nat) (u : Ksu) (k : Nat) :
    (settled c now raws u k).raw = (stepped c.keypad now raws u k).raw ∧
    (settled c now raws u k).baseline = (stepped c.keypad now raws u k).baseline ∧
    (settled c now raws u k).delta = (stepped c.keypad now raws u k).delta := by
  have hcovered : (covered c.keypad now raws u k).raw = (stepped c.keypad now raws u k).raw ∧
      (covered c.keypad now raws u k).baseline = (stepped c.keypad now raws u k).baseline ∧
      (covered c.keypad now raws u k).delta = (stepped c.keypad now raws u k).delta := by
    rcases covered_eq_stepped_or c.keypad now raws u k with h | ⟨h, -⟩
    · rw [h]; exact ⟨rfl, rfl, rfl⟩
    · rw [h]
      obtain ⟨h1, h2, h3, -⟩ := silenced_measures (stepped c.keypad now raws u k)
      exact ⟨h1, h2, h3⟩
  obtain ⟨hr, hb, hd, -⟩ := pressed_measures (scanSuppressed c.keypad now raws u) now (covered c.keypad now raws u k)
  have hpressed : (pressedAt c.keypad now raws u k).raw = (stepped c.keypad now raws u k).raw ∧
      (pressedAt c.keypad now raws u k).baseline = (stepped c.keypad now raws u k).baseline ∧
      (pressedAt c.keypad now raws u k).delta = (stepped c.keypad now raws u k).delta :=
    ⟨hr.trans hcovered.1, hb.trans hcovered.2.1, hd.trans hcovered.2.2⟩
  unfold settled
  split
  · obtain ⟨h1, h2, h3, -⟩ := heldTested_measures c.keypad (c.keyRepeat.getD k false) now
      (pressedAt c.keypad now raws u k)
    exact ⟨h1.trans hpressed.1, h2.trans hpressed.2.1, h3.trans hpressed.2.2⟩
  · exact hpressed

/-- A fitted key has a baseline after a scan (R114). -/
theorem stepped_baseline {c : KeypadSettings} {k : Nat} (hk : k < c.keysFitted) (now : Word32) (raws : List Nat)
    (u : Ksu) : (stepped c now raws u k).baseline ≠ none := by
  rw [stepped, if_pos hk]
  rcases debounced_cases c now (measured c u.retake (raws.getD k 0) (u.key k)) with ⟨st, a, b, d, q, h, -⟩ | ⟨-, h⟩
  · rw [h, measured_eq]; simp
  · rw [h]; simp [KeyRec.retake]

/-- A key of the pad after a scan, drifted or not. -/
theorem ScanDone.key_cases {c : Settings} {now : Word32} {t0 : Option Int} {raws : List Nat} {u : Ksu} {p : Pad}
    (h : ScanDone c now t0 raws u p) {k : Nat} (hk : k < 20) :
    p.ksu.key k = settled c now raws u k ∨
      (p.ksu.key k = driftKey (settled c now raws u k) ∧ k < c.keypad.keysFitted) := by
  rw [h.key k hk]
  split
  · exact .inr ⟨rfl, (‹_ ∧ _›).2⟩
  · exact .inl rfl

theorem ScanDone.key_state {c : Settings} {now : Word32} {t0 : Option Int} {raws : List Nat} {u : Ksu} {p : Pad}
    (h : ScanDone c now t0 raws u p) {k : Nat} (hk : k < 20) :
    (p.ksu.key k).state = (settled c now raws u k).state ∧ (p.ksu.key k).due = false := by
  rcases h.key_cases hk with he | ⟨he, -⟩
  · rw [he]; exact ⟨rfl, settled_due ..⟩
  · rw [he, (driftKey_fields _).1]; exact ⟨rfl, settled_due ..⟩

/-- PadOk speaks of the key records, of suppression and of the number of keys fitted. -/
theorem padOk_iff (s : State) : PadOk s ↔ s.ksu.keys.length = 20 ∧ (∀ k < 20,
    (s.ksu.suppressed = true → (s.ksu.key k).state.held = false) ∧ (s.ksu.key k).due = false ∧
    (s.settings.keypad.keysFitted ≤ k → (s.ksu.key k).state = .idle ∧ (s.ksu.key k).baseline = none) ∧
    ((s.ksu.key k).baseline = none → (s.ksu.key k).state = .idle)) := by
  constructor
  · rintro ⟨hsize, hheld, hdue, hunfitted, hunmeasured⟩
    have hsize' : s.ksu.keys.length = 20 := hsize
    refine ⟨hsize, fun k hk => ⟨fun hs => ?_, ?_, hunfitted k, ?_⟩⟩
    · exact (forall_keys_iff s.ksu fun r => r.state.held = false).1 (hheld hs) k (by omega)
    · exact (forall_keys_iff s.ksu fun r => r.due = false).1 hdue k (by omega)
    · exact (forall_keys_iff s.ksu fun r => r.baseline = none → r.state = .idle).1 hunmeasured k (by omega)
  · rintro ⟨hsize, hkeys⟩
    refine ⟨hsize, fun hs => ?_, ?_, fun k hf => ?_, ?_⟩
    · exact (forall_keys_iff s.ksu fun r => r.state.held = false).2 fun k hk => (hkeys k (by omega)).1 hs
    · exact (forall_keys_iff s.ksu fun r => r.due = false).2 fun k hk => (hkeys k (by omega)).2.1
    · by_cases hk : k < 20
      · exact (hkeys k hk).2.2.1 hf
      · rw [key_of_length_le (by omega)]; exact ⟨rfl, rfl⟩
    · exact (forall_keys_iff s.ksu fun r => r.baseline = none → r.state = .idle).2
        fun k hk => (hkeys k (by omega)).2.2.2

/-- A scan keeps the form of the pad, whatever the settings. -/
theorem takeScan_padOk (raws : List Nat) {s : State} (h : PadOk s) : PadOk (takeScan raws s) := by
  obtain ⟨hsize, hkeys⟩ := (padOk_iff s).1 h
  have hdone := scanPad_done hsize s.settings s.time.ms (s.zoneTemp .n0) raws
  have hksu : (takeScan raws s).ksu = (scanPad s.settings s.time.ms (s.zoneTemp .n0) raws s.ksu).ksu :=
    emitAll_ksu _ _
  have hsettings : (takeScan raws s).settings = s.settings := emitAll_settings _ _
  rw [padOk_iff, hksu, hsettings]
  refine ⟨hdone.length, fun k hk => ?_⟩
  obtain ⟨hheld, hdue, hunfitted, -⟩ := hkeys k hk
  obtain ⟨hstate, hdue'⟩ := hdone.key_state hk
  refine ⟨fun hs => ?_, hdue', fun hf => ?_, fun hb => ?_⟩
  · rw [hstate]
    exact settled_not_held hheld (hdone.suppressed ▸ hs)
  · obtain ⟨hidle, hnone⟩ := hunfitted hf
    rcases hdone.key_cases hk with he | ⟨-, hlt⟩
    · rw [he, settled_unfitted hf hidle hdue]
      exact ⟨hidle, hnone⟩
    · omega
  · have hsettled : (settled s.settings s.time.ms raws s.ksu k).baseline = none := by
      rcases hdone.key_cases hk with he | ⟨he, -⟩
      · rwa [he] at hb
      · rwa [he, (driftKey_fields _).2] at hb
    rw [(settled_measures ..).2.1] at hsettled
    have hf : s.settings.keypad.keysFitted ≤ k := by
      by_contra hf
      exact stepped_baseline (by omega) _ _ _ hsettled
    rw [hstate, settled_unfitted hf (hunfitted hf).1 hdue]
    exact (hunfitted hf).1

end Sys2Proof.Machine

namespace Sys2Proof.Machine
open Sys2Proof.Safety

/-! ### KSU at a round (R119, R126) -/

/-- The pad with condensation and frost judged, before suppression follows them (R126). -/
def Ksu.withWater (c : KeypadSettings) (t0 t3 : Option Int) (u : Ksu) : Ksu :=
  { u with condensation := condensationNow c t0 t3, frost := frostNow c t0 }

/-- Of two causes of one round the one with the lower index is told (R128, R130). -/
def waterCause (c : KeypadSettings) (t0 t3 : Option Int) (u : Ksu) : Nat :=
  if (if u.suppressed then u.condensation else condensationNow c t0 t3) then 0 else 1

/-- A round judges the causes of suppression, which follows them; where it is inactive before and after, the
recalibration test is made (log entry 22). -/
theorem keypadRound_eq (c : KeypadSettings) (now : Word32) (t0 t3 : Option Int) (u : Ksu) :
    keypadRound c now t0 t3 u =
      if u.suppressed = false ∧ (u.withWater c t0 t3).suppressed = false then ⟨recalTest c t0 (u.withWater c t0 t3), []⟩
      else changeSuppression now t0 (waterCause c t0 t3 u) u.suppressed ⟨u.withWater c t0 t3, []⟩ := by
  unfold keypadRound changeSuppression waterCause
  change (if (!u.suppressed && (u.withWater c t0 t3).suppressed) = true then _
    else if (u.suppressed && !(u.withWater c t0 t3).suppressed) = true then _
    else if (!(u.withWater c t0 t3).suppressed) = true then _ else _) = _
  cases hb : u.suppressed <;> cases (u.withWater c t0 t3).suppressed <;> simp <;> rfl

/-- The recalibration test makes a reference, and a re-take due (R119). -/
theorem recalTest_eq (c : KeypadSettings) (t0 : Option Int) (u : Ksu) : recalTest c t0 u =
    { u with recalRef := (recalTest c t0 u).recalRef, retake := (recalTest c t0 u).retake } := by
  unfold recalTest
  split
  · rfl
  · split
    · rfl
    · split <;> rfl

/-- The keys after a round (R128). -/
theorem keypadRound_key {u : Ksu} (hu : u.keys.length = 20) (c : KeypadSettings) (now : Word32) (t0 t3 : Option Int)
    (k : Nat) : (keypadRound c now t0 t3 u).ksu.key k =
      if u.suppressed = false ∧ (u.withWater c t0 t3).suppressed = true then (u.key k).silenced else u.key k := by
  rw [keypadRound_eq]
  split
  · rename_i h
    rw [if_neg (by simp [h]), recalTest_eq]
    rfl
  · exact (suppressionChanged (p := ⟨u.withWater c t0 t3, []⟩) hu now t0 _ _).key k

theorem keypadRound_pad {u : Ksu} (hu : u.keys.length = 20) (c : KeypadSettings) (now : Word32) (t0 t3 : Option Int) :
    (keypadRound c now t0 t3 u).ksu.keys.length = 20 ∧
    (keypadRound c now t0 t3 u).ksu.condensation = condensationNow c t0 t3 ∧
    (keypadRound c now t0 t3 u).ksu.frost = frostNow c t0 ∧
    (keypadRound c now t0 t3 u).ksu.cover = u.cover ∧ (keypadRound c now t0 t3 u).ksu.coverFall = u.coverFall := by
  rw [keypadRound_eq]
  split
  · rw [recalTest_eq]
    exact ⟨hu, rfl, rfl, rfl, rfl⟩
  · have h := suppressionChanged (p := ⟨u.withWater c t0 t3, []⟩) hu now t0 (waterCause c t0 t3 u) u.suppressed
    refine ⟨h.length.trans hu, ?_⟩
    rw [h.others]
    exact ⟨rfl, rfl, rfl, rfl⟩

theorem keypadRound_suppressed {u : Ksu} (hu : u.keys.length = 20) (c : KeypadSettings) (now : Word32)
    (t0 t3 : Option Int) :
    (keypadRound c now t0 t3 u).ksu.suppressed = (u.withWater c t0 t3).suppressed := by
  obtain ⟨-, hcond, hfrost, hcover, -⟩ := keypadRound_pad hu c now t0 t3
  rw [Ksu.suppressed, hcond, hfrost, hcover]
  rfl

/-! ### What keeps the form of the pad -/

theorem silenced_due {r : KeyRec} (h : r.due = false) : r.silenced.due = false := by
  unfold KeyRec.silenced clearPending KeyRec.toIdle
  split <;> split <;> simp [h]

/-- A round keeps the form of the pad (R128, R129). -/
theorem keypadRound_padOk {s t : State} (h : PadOk s) (c : KeypadSettings) (now : Word32) (t0 t3 : Option Int)
    (hksu : t.ksu = (keypadRound c now t0 t3 s.ksu).ksu)
    (hfitted : t.settings.keypad.keysFitted = s.settings.keypad.keysFitted) : PadOk t := by
  obtain ⟨hsize, hkeys⟩ := (padOk_iff s).1 h
  rw [padOk_iff, hksu, hfitted]
  refine ⟨(keypadRound_pad hsize c now t0 t3).1, fun k hk => ?_⟩
  obtain ⟨hheld, hdue, hunfitted, hunmeasured⟩ := hkeys k hk
  rw [keypadRound_suppressed hsize, keypadRound_key hsize]
  by_cases hstarts : s.ksu.suppressed = false ∧ (s.ksu.withWater c t0 t3).suppressed = true
  · rw [if_pos hstarts]
    have hidle (hi : (s.ksu.key k).state = .idle) : (s.ksu.key k).silenced.state = .idle := by
      rw [silenced_idle hi, hi]
    refine ⟨fun _ => ?_, silenced_due hdue, fun hf => ⟨hidle (hunfitted hf).1, ?_⟩, fun hb => ?_⟩
    · rw [silenced_state]; split <;> rfl
    · rw [(silenced_measures _).2.1]; exact (hunfitted hf).2
    · rw [(silenced_measures _).2.1] at hb
      exact hidle (hunmeasured hb)
  · rw [if_neg hstarts]
    refine ⟨fun hs => hheld ?_, hdue, hunfitted, hunmeasured⟩
    exact Bool.eq_true_of_not_eq_false fun hn => hstarts ⟨hn, hs⟩

/-- A pad whose unfitted keys have been handled keeps its form under the new settings (R133). -/
theorem unfitKeys_padOk {s t : State} (h : PadOk s) {fitted : Nat} {now : Word32}
    (hksu : t.ksu = (unfitKeys fitted now s.ksu).ksu) (hfitted : t.settings.keypad.keysFitted = fitted) :
    PadOk t := by
  obtain ⟨hsize, hkeys⟩ := (padOk_iff s).1 h
  have hdone := unfitDone_eachKey fitted now hsize
  rw [(unfitKeys_out fitted now hsize).1] at hksu
  have hsup : t.ksu.suppressed = s.ksu.suppressed := by rw [hksu, hdone.others]; rfl
  rw [padOk_iff, hsup, hksu, hfitted]
  refine ⟨hdone.length.trans hsize, fun k hk => ?_⟩
  rw [hdone.key k (by omega)]
  by_cases hf : fitted ≤ k
  · rw [if_pos ⟨hk, hf⟩]
    exact ⟨fun _ => rfl, rfl, fun _ => ⟨rfl, rfl⟩, fun _ => rfl⟩
  · rw [if_neg (by omega)]
    obtain ⟨hheld, hdue, -, hunmeasured⟩ := hkeys k hk
    exact ⟨hheld, hdue, fun h => absurd h hf, hunmeasured⟩

/-- A new pad has the form, whatever the settings (R135). -/
theorem padOk_initial {s : State} (h : s.ksu = Ksu.initial) : PadOk s := by
  have hkey (k : Nat) : Ksu.key .initial k = .initial := by
    by_cases hk : k < 20
    · rw [Ksu.key, List.getD_eq_getElem?_getD]
      simp only [Ksu.initial, List.getElem?_replicate, Config.keyCount, if_pos hk, Option.getD_some]
    · exact key_of_length_le (by simpa [Ksu.initial, Config.keyCount] using hk)
  rw [padOk_iff, h]
  refine ⟨rfl, fun k _ => ?_⟩
  rw [hkey]
  exact ⟨fun _ => rfl, rfl, fun _ => ⟨rfl, rfl⟩, fun _ => rfl⟩

/-! ### What leaves the pad and the trigger units alone -/

/-- KSU, the trigger units and their settings are as they were. -/
structure SensingKept (s t : State) : Prop where
  ksu : t.ksu = s.ksu
  keypad : t.settings.keypad = s.settings.keypad
  units : t.tmx.units = s.tmx.units
  trigger : t.settings.trigger = s.settings.trigger

theorem SensingKept.padOk {s t : State} (h : SensingKept s t) (hs : PadOk s) : PadOk t := by
  rw [padOk_iff, h.ksu, h.keypad]
  exact (padOk_iff s).1 hs

theorem SensingKept.unitsOk {s t : State} (h : SensingKept s t) (hs : UnitsOk s) : UnitsOk t := by
  obtain ⟨hcount, hdisabled⟩ := hs
  exact ⟨fun u => by rw [h.units, h.trigger]; exact hcount u, fun u => by rw [h.units, h.trigger]; exact hdisabled u⟩

theorem SensingKept.refl (s : State) : SensingKept s s := ⟨rfl, rfl, rfl, rfl⟩

theorem SensingKept.trans {s t u : State} (h : SensingKept s t) (k : SensingKept t u) : SensingKept s u :=
  ⟨k.ksu.trans h.ksu, k.keypad.trans h.keypad, k.units.trans h.units, k.trigger.trans h.trigger⟩

/-- The closing step of the lemmas below: follow one operation after another. -/
theorem SensingKept.after {s t u : State} (k : SensingKept t u) (h : SensingKept s t) : SensingKept s u := h.trans k

theorem SensingKept.of_reach {s t : State} (h : HostReach s t) : SensingKept s t :=
  ⟨h.kept.ksu, by rw [h.kept.settings], h.units, by rw [h.kept.settings]⟩

theorem SensingKept.when {p : Prop} [Decidable p] {s t : State} (h : p → SensingKept s t) :
    SensingKept s (if p then t else s) := by
  split
  · exact h ‹_›
  · exact .refl s

theorem SensingKept.ite {p : Prop} [Decidable p] {s t u : State} (ht : p → SensingKept s t) (hu : ¬ p → SensingKept s u) :
    SensingKept s (if p then t else u) := by
  split
  · exact ht ‹_›
  · exact hu ‹_›

end Sys2Proof.Machine

namespace Sys2Proof.Machine
open Sys2Proof.Safety

theorem SensingKept.setHps (s : State) (x : Hps) : SensingKept s (s.setHps x) := ⟨rfl, rfl, rfl, rfl⟩
theorem SensingKept.setWeu (s : State) (x : Weu) : SensingKept s (s.setWeu x) := ⟨rfl, rfl, rfl, rfl⟩
theorem SensingKept.setCpt (s : State) (x : Cpt) : SensingKept s (s.setCpt x) := ⟨rfl, rfl, rfl, rfl⟩
theorem SensingKept.setKeq (s : State) (x : Keq) : SensingKept s (s.setKeq x) := ⟨rfl, rfl, rfl, rfl⟩
theorem SensingKept.setCnu (s : State) (x : Cnu) : SensingKept s (s.setCnu x) := ⟨rfl, rfl, rfl, rfl⟩
theorem SensingKept.setLnk (s : State) (x : Lnk) : SensingKept s (s.setLnk x) := ⟨rfl, rfl, rfl, rfl⟩
theorem SensingKept.setAfm (s : State) (x : Afm) : SensingKept s (s.setAfm x) := ⟨rfl, rfl, rfl, rfl⟩
theorem SensingKept.setHsch (s : State) (x : Hsch) : SensingKept s (s.setHsch x) := ⟨rfl, rfl, rfl, rfl⟩
theorem SensingKept.setZmon (s : State) (x : Zmon) : SensingKept s (s.setZmon x) := ⟨rfl, rfl, rfl, rfl⟩
theorem SensingKept.setPst (s : State) (x : Pst) : SensingKept s (s.setPst x) := ⟨rfl, rfl, rfl, rfl⟩
theorem SensingKept.setPowerGood (s : State) (x : Bool) : SensingKept s (s.setPowerGood x) := ⟨rfl, rfl, rfl, rfl⟩
theorem SensingKept.setLastSent (s : State) (x : List Byte) : SensingKept s (s.setLastSent x) := ⟨rfl, rfl, rfl, rfl⟩
theorem SensingKept.setPending (s : State) (x : List Instr) : SensingKept s (s.setPending x) := ⟨rfl, rfl, rfl, rfl⟩
theorem SensingKept.setSettings (s : State) (x : Settings) (hk : x.keypad = s.settings.keypad := by rfl)
    (ht : x.trigger = s.settings.trigger := by rfl) : SensingKept s (s.setSettings x) := ⟨rfl, hk, rfl, ht⟩

theorem SensingKept.notify (b : NoticeBody) (s : State) : SensingKept s (notify b s) := .of_reach (.notify b s)
theorem SensingKept.raise (c : Cond) (s : State) : SensingKept s (raise c s) := .of_reach (.raise c s)
theorem SensingKept.post (e : Event) (s : State) : SensingKept s (post e s) := .of_reach (.post e s)

theorem SensingKept.emitAll (es : List Emit) (s : State) : SensingKept s (emitAll es s) :=
  ⟨emitAll_ksu _ _, by rw [emitAll_settings], by rw [emitAll_eq]; rfl, by rw [emitAll_settings]⟩

/-! ### The trigger units (R153 to R158, R163) -/

/-- A unit's count is within its preset, and it is DISABLED exactly when its enabled is no (R153). -/
structure UnitOk (c : TriggerSettings) (r : UnitRec) : Prop where
  count : r.count ≤ c.preset
  disabled : r.state = .disabled ↔ c.enabled = false

theorem unitsOk_iff (s : State) : UnitsOk s ↔ ∀ u, UnitOk (s.settings.trigger.get u) (s.tmx.units.get u) :=
  ⟨fun ⟨h, h'⟩ u => ⟨h u, h' u⟩, fun h => ⟨fun u => (h u).count, fun u => (h u).disabled⟩⟩

/-- A unit's initial state has the form, whatever its settings (R153). -/
theorem unitOk_initial (c : TriggerSettings) (fires : Nat) : UnitOk c (.initial c fires) := by
  refine ⟨le_rfl, ?_⟩
  unfold UnitRec.initial
  cases c.enabled
  · simp
  · simp only [if_true]
    split
    · simp
    · split <;> simp

theorem startCounting_ok {c : TriggerSettings} (h : c.enabled = true) (r : UnitRec) (w : Option Nat) :
    UnitOk c { r.startCounting c with window := w } := by
  refine ⟨le_rfl, ?_⟩
  unfold UnitRec.startCounting
  rw [h]
  dsimp only
  split <;> simp

/-- A unit that fires was READY (R155). -/
theorem ready_of_unitFires {c : PerSix TriggerSettings} {us : PerSix UnitRec} {e : Event} {u : TrigUnit}
    (h : unitFires c us e u = true) : (us.get u).state = .ready := by
  unfold unitFires firesWithin at h
  simp only [Bool.and_eq_true, beq_iff_eq] at h
  exact h.1.1.1

theorem UnitOk.enabled {c : TriggerSettings} {r : UnitRec} (h : UnitOk c r) (hs : r.state ≠ .disabled) :
    c.enabled = true := by
  cases he : c.enabled with
  | true => rfl
  | false => exact absurd (h.disabled.2 he) hs

theorem afterFiring_ok {c : TriggerSettings} (h : c.enabled = true) (r : UnitRec) : UnitOk c (afterFiring c r) := by
  unfold afterFiring
  split
  · split
    · exact ⟨le_rfl, by simp [h]⟩
    · exact startCounting_ok h r _
  · exact ⟨le_rfl, by simp [h]⟩

theorem armed_ok {c : TriggerSettings} {r : UnitRec} (h : UnitOk c r) : UnitOk c (armed c r) := by
  unfold armed
  cases hs : r.state with
  | waitingArm | counting | ready => exact startCounting_ok (h.enabled (by simp [hs])) r _
  | disabled | fired => exact h

theorem countMatch_ok {c : TriggerSettings} {r : UnitRec} (h : UnitOk c r) (hs : r.state = .counting) :
    UnitOk c (countMatch r) := by
  refine ⟨(Nat.sub_le _ _).trans h.count, ?_⟩
  rw [h.enabled (by simp [hs])]
  unfold countMatch
  dsimp only
  split <;> simp

/-- What one event makes of a unit (R154 to R157). -/
theorem settleUnit_ok {c : PerSix TriggerSettings} {us : PerSix UnitRec} (e : Event) {u : TrigUnit}
    (h : UnitOk (c.get u) (us.get u)) : UnitOk (c.get u) (settleUnit c us e u) := by
  unfold settleUnit
  by_cases hf : unitFires c us e u = true
  · rw [if_pos hf]
    exact afterFiring_ok (h.enabled (by simp [ready_of_unitFires hf])) _
  · rw [if_neg hf]
    split
    · exact armed_ok h
    · split
      · rename_i hm
        simp only [Bool.and_eq_true, beq_iff_eq] at hm
        exact countMatch_ok h hm.1.2
      · exact h

theorem disarm_ok {c : TriggerSettings} {r : UnitRec} (h : UnitOk c r) (hw : r.windowOver = true) :
    UnitOk c (disarm c r) := by
  have hs : r.state ≠ .disabled := fun hs => by simp [UnitRec.windowOver, hs, UnitState.active] at hw
  exact ⟨le_rfl, by simp [disarm, h.enabled hs]⟩

/-! ### What every operation does with the pad and the units -/

/-- The pad and the trigger units keep their form. -/
structure SensingSound (s t : State) : Prop where
  pad : PadOk s → PadOk t
  units : UnitsOk s → UnitsOk t

theorem SensingKept.sound {s t : State} (h : SensingKept s t) : SensingSound s t := ⟨h.padOk, h.unitsOk⟩

theorem SensingSound.trans {s t u : State} (h : SensingSound s t) (k : SensingSound t u) : SensingSound s u :=
  ⟨fun hs => k.pad (h.pad hs), fun hs => k.units (h.units hs)⟩

theorem SensingSound.linkFree (s : State) : LinkFree (SensingSound s) :=
  fun t x h => h.trans (SensingKept.setLnk t x).sound

/-- An owner that is sound carries soundness on. -/
theorem SensingSound.carry {owner : State → State} (h : ∀ v, SensingSound v (owner v)) (s : State) :
    ∀ v, SensingSound s v → SensingSound s (owner v) := fun v hv => hv.trans (h v)

/-- The pad as it was, or in a new form; the units each in theirs. -/
theorem SensingSound.of_units {s t : State} (hksu : t.ksu = s.ksu) (hkeypad : t.settings.keypad = s.settings.keypad)
    (hunits : ∀ u, UnitOk (s.settings.trigger.get u) (s.tmx.units.get u) →
      UnitOk (t.settings.trigger.get u) (t.tmx.units.get u)) : SensingSound s t where
  pad h := by
    rw [padOk_iff, hksu, hkeypad]
    exact (padOk_iff s).1 h
  units h := (unitsOk_iff t).2 fun u => hunits u ((unitsOk_iff s).1 h u)

/-- The pad in a new form, the units as they were. -/
theorem SensingSound.of_pad {s t : State} (hpad : PadOk s → PadOk t) (hunits : t.tmx.units = s.tmx.units)
    (htrigger : t.settings.trigger = s.settings.trigger) : SensingSound s t where
  pad := hpad
  units h := by
    rw [unitsOk_iff, hunits, htrigger]
    exact (unitsOk_iff s).1 h

/-- All begins anew (R135, R165). -/
theorem SensingSound.of_initial {s t : State} (hksu : t.ksu = .initial) (htmx : t.tmx = .initial t.settings) :
    SensingSound s t where
  pad _ := padOk_initial hksu
  units _ := (unitsOk_iff t).2 fun u => by
    rw [htmx]
    cases u <;> exact unitOk_initial _ _

end Sys2Proof.Machine

namespace Sys2Proof.Machine
open Sys2Proof.Safety

/-! ### The settings' owners and the pad -/

theorem takeZone_sensing (z : Zone) (c : ZoneSettings) (s : State) : SensingKept s (takeZone z c s) := by
  rw [takeZone_eq]
  exact (SensingKept.setZmon _ _).after (.setSettings s _)

theorem takeFan_sensing (c : FanSettings) (s : State) : SensingKept s (takeFan c s) := by
  rw [takeFan, abortLearn_eq]
  exact (SensingKept.setCnu _ _).after ((SensingKept.setAfm _ _).after (.setSettings s _))

theorem takeLadder_sensing (c : LadderSettings) (s : State) : SensingKept s (takeLadder c s) :=
  (SensingKept.setWeu _ _).after (.setSettings s _)

/-- KEYPAD is taken: the keys no longer fitted are handled (R133). -/
theorem takeKeypad_sound (c : KeypadSettings) (s : State) : SensingSound s (takeKeypad c s) := by
  have hsettings : (takeKeypad c s).settings = { s.settings with keypad := c } := emitAll_settings _ _
  have hksu : (takeKeypad c s).ksu = (unfitKeys c.keysFitted s.time.ms s.ksu).ksu := emitAll_ksu _ _
  exact .of_pad (fun h => unfitKeys_padOk h hksu (by rw [hsettings])) (by rw [takeKeypad, emitAll_eq]; rfl)
    (by rw [hsettings])

/-- CHORD is taken: a chord is no matter of the keys (R134). -/
theorem takeChord_sound (i : Chord) (c : ChordSettings) (s : State) : SensingSound s (takeChord i c s) := by
  refine .of_pad (fun h => ?_) rfl rfl
  obtain ⟨h1, h2, h3, h4, h5⟩ := h
  exact ⟨h1, h2, h3, h4, h5⟩

theorem takeTrigger_sound (u : TrigUnit) (c : TriggerSettings) (s : State) : SensingSound s (takeTrigger u c s) := by
  refine .of_units rfl rfl fun v hv => ?_
  change UnitOk ((s.settings.trigger.set u c).get v) ((s.tmx.units.set u (.initial c 0)).get v)
  rw [PerSix.get_set, PerSix.get_set]
  split
  · exact unitOk_initial _ _
  · exact hv

theorem takeTriggers_sound (c : PerSix TriggerSettings) (s : State) : SensingSound s (takeTriggers c s) :=
  .of_units rfl rfl fun u _ => by cases u <;> exact unitOk_initial _ _

/-- A TRIGGER_CONTROL puts the unit and its enabled in force together (R163). -/
theorem putUnit_sound {u : TrigUnit} {b : Bool} {r : UnitRec} {s : State}
    (h : UnitOk { s.settings.trigger.get u with enabled := b } r) : SensingSound s (putUnit u b r s) := by
  refine .of_units rfl rfl fun v hv => ?_
  change UnitOk ((s.settings.trigger.set u _).get v) ((s.tmx.units.set u r).get v)
  rw [PerSix.get_set, PerSix.get_set]
  split
  · exact h
  · exact hv

theorem enableUnit_sound (u : TrigUnit) (s t : State) (e : enableUnit u s = some t) : SensingSound s t := by
  unfold enableUnit at e
  dsimp only at e
  split at e <;> cases e
  · exact putUnit_sound (unitOk_initial _ _)
  · exact (SensingKept.refl s).sound

theorem disableUnit_sound (u : TrigUnit) (s t : State) (e : disableUnit u s = some t) : SensingSound s t := by
  unfold disableUnit at e
  dsimp only at e
  split at e <;> cases e
  · exact (SensingKept.refl s).sound
  · exact putUnit_sound (unitOk_initial _ _)

theorem rearmUnit_sound (u : TrigUnit) (s t : State) (e : rearmUnit u s = some t) : SensingSound s t := by
  unfold rearmUnit at e
  dsimp only at e
  split at e <;> cases e
  rename_i hs
  refine .of_units rfl rfl fun v hv => ?_
  change UnitOk _ ((s.tmx.units.set u _).get v)
  rw [PerSix.get_set]
  split
  · rename_i huv
    subst huv
    have h := unitOk_initial { s.settings.trigger.get u with enabled := true } (s.tmx.units.get u).fires
    refine ⟨h.count, h.disabled.trans ?_⟩
    change true = false ↔ (s.settings.trigger.get u).enabled = false
    rw [hv.enabled hs]
  · exact hv

theorem foldl_sound {α : Type} {f : State → α → State} (h : ∀ s a, SensingSound s (f s a)) (l : List α) (s : State) :
    SensingSound s (l.foldl f s) :=
  List.foldlRecOn (motive := SensingSound s) l f (SensingKept.refl s).sound fun _ ht a _ => ht.trans (h _ a)

/-- A reload takes every group (R198). -/
theorem reload_sound (src : Settings) (s : State) : SensingSound s (reload src s) := by
  have hset (v : State) (x : Settings) (hk : x.keypad = v.settings.keypad) (ht : x.trigger = v.settings.trigger) :
      SensingSound v (v.setSettings x) := (SensingKept.setSettings v x hk ht).sound
  have hclimate (v : State) : SensingSound v (reloadClimate src v) := by
    have hzones := foldl_sound (f := fun v z => takeZone z (src.zone.get z) v)
      (fun v z => (takeZone_sensing z _ v).sound) Four.all v
    have hheaters (v : State) := foldl_sound (f := fun v h => takeHeater h (src.heater.get h) v)
      (fun v h => hset v _ rfl rfl) Three.all v
    have hbudget (v : State) : SensingSound v (takeBudget src.budget v) := hset v _ rfl rfl
    exact ((hzones.trans (hheaters _)).trans (hbudget _)).trans (takeFan_sensing _ _).sound
  have hpolicy (locked : Bool) (v : State) : SensingSound v (reloadPolicy locked src v) := by
    rw [reloadPolicy_eq]
    refine (hset _ _ ?_ ?_).trans (SensingKept.setWeu _ _).sound <;> cases locked <;> rfl
  have hrest (v : State) : SensingSound v (reloadRest src v) := by
    have hkeys := foldl_sound (f := fun v k => takeKey k (src.keyRepeat.getD k false) v)
      (fun v k => hset v _ rfl rfl) (List.range Config.keyCount) v
    have hchords (v : State) := foldl_sound (f := fun v i => takeChord i (src.chord.get i) v)
      (fun v i => takeChord_sound i _ v) Six.all v
    have hreport (v : State) : SensingSound v (takeReport src.report v) := hset v _ rfl rfl
    have hlink (v : State) : SensingSound v (takeLink src.link v) := hset v _ rfl rfl
    exact (((hkeys.trans (hchords _)).trans (takeTriggers_sound _ _)).trans (hreport _)).trans (hlink _)
  rw [reload_eq]
  exact (((hclimate s).trans (hpolicy _ _)).trans (takeKeypad_sound _ _)).trans (hrest _)

/-- The groups without an index: what the owner takes, where the fields are good. -/
theorem taken_sound {α : Type} {c : Option α} {take : α → State → State} (h : ∀ x s, SensingSound s (take x s))
    (s t : State) (e : c.map (take · s) = some t) : SensingSound s t := by
  obtain ⟨x, -, rfl⟩ := Option.map_eq_some_iff.1 e
  exact h x s

theorem writeZone_sound (i : Nat) (fs : List Int) (s t : State) (e : writeZoneFields i fs s = some t) :
    SensingSound s t := by
  unfold writeZoneFields at e
  split at e <;> cases e
  exact (takeZone_sensing _ _ _).sound

theorem writeHeater_sound (i : Nat) (fs : List Int) (s t : State) (e : writeHeaterFields i fs s = some t) :
    SensingSound s t := by
  unfold writeHeaterFields at e
  split at e <;> cases e
  exact (SensingKept.setSettings s _).sound

theorem writeChord_sound (i : Nat) (fs : List Int) (s t : State) (e : writeChordFields i fs s = some t) :
    SensingSound s t := by
  unfold writeChordFields at e
  split at e <;> cases e
  exact takeChord_sound _ _ _

theorem writeTrigger_sound (i : Nat) (fs : List Int) (s t : State) (e : writeTriggerFields i fs s = some t) :
    SensingSound s t := by
  unfold writeTriggerFields at e
  split at e
  · split at e <;> cases e
    exact takeTrigger_sound _ _ _
  · cases e

/-! ### The climate job, the events and the resets -/

theorem roundTask_sound (old : Zmon) (task : RoundTask) (s : State) : SensingSound s (roundTask old task s) := by
  cases task with
  | report => exact (SensingKept.emitAll _ s).sound
  | crit z => exact (SensingKept.when fun _ => .of_reach (critExcursion_reach z s)).sound
  | admission => exact (SensingKept.of_reach (testAdmission_reach s)).sound
  | keypad =>
    have hsettings : (roundTask old .keypad s).settings = s.settings := emitAll_settings _ _
    refine .of_pad (fun h => keypadRound_padOk h s.settings.keypad s.time.ms (s.zoneTemp .n0) (s.zoneTemp .n3)
      (emitAll_ksu _ _) (by rw [hsettings])) ?_ (by rw [hsettings])
    simp only [roundTask]
    rw [emitAll_eq]
    rfl

theorem takeRound_sound (raw : PerFour Int) (supply : Int) (order : List RoundTask) (s : State) :
    SensingSound s (takeRound raw supply order s) := by
  refine SensingSound.trans (SensingKept.sound ?_)
    (foldl_sound (f := fun v task => roundTask s.zmon task v) (fun v task => roundTask_sound s.zmon task v) order _)
  rw [publishRound_eq]
  exact ⟨rfl, rfl, rfl, rfl⟩

theorem takeScan_sound (raws : List Nat) (s : State) : SensingSound s (takeScan raws s) := by
  refine .of_pad (takeScan_padOk raws) ?_ (congrArg Settings.trigger (emitAll_settings _ _))
  rw [takeScan, emitAll_eq]
  rfl

theorem handOver_sensing (a : TrigAction) (u : TrigUnit) (e : Event) (s : State) :
    SensingKept s (handOver a u e s) := by
  by_cases h : a = .filterLearn
  · subst h
    exact .when fun _ => .setAfm s _
  · exact .of_reach (handOver_reach h u e s)

/-- The fire count is no matter of the form (R156). -/
theorem completeFiring_sensingSound (a : TrigAction) (e : Event) (u : TrigUnit) (s : State) :
    SensingSound s (completeFiring a e u s) := by
  have hcounted (r : UnitRec) (hcount : r.count = (s.tmx.units.get u).count)
      (hstate : r.state = (s.tmx.units.get u).state) :
      SensingSound s (s.setTmx { s.tmx with units := s.tmx.units.set u r }) := by
    refine .of_units rfl rfl fun v hv => ?_
    change UnitOk _ ((s.tmx.units.set u r).get v)
    rw [PerSix.get_set]
    split
    · subst_vars
      exact ⟨hcount ▸ hv.count, hstate ▸ hv.disabled⟩
    · exact hv
  have hhanded (v : State) (fires : Nat) : SensingSound v (handOver a u e (post (event .trigger u.num fires) v)) :=
    ((handOver_sensing a u e _).after (.post _ v)).sound
  exact (hcounted { s.tmx.units.get u with fires := satInc 65535 (s.tmx.units.get u).fires } rfl rfl).trans
    (hhanded _ _)

theorem takeOldest_sensingSound (s : State) : SensingSound s (takeOldest s) := by
  unfold takeOldest
  split
  · exact (SensingKept.refl s).sound
  · rename_i e rest _
    have hsettled : SensingSound s ((s.setTmx { s.tmx with inbox := rest }).setTmx { s.tmx with
        inbox := rest, units := PerSix.of (settleUnit s.settings.trigger s.tmx.units e) }) :=
      .of_units rfl rfl fun v hv => by cases v <;> exact settleUnit_ok e hv
    exact hsettled.trans (foldl_sound
      (f := fun v u => completeFiring (s.settings.trigger.get u).action e u v)
      (fun v u => completeFiring_sensingSound _ e u v) _ _)

theorem armWindowExpiry_sound (u : TrigUnit) (s : State) : Ends (SensingSound s) (execArmWindowExpiry u s) := by
  refine (ends_next _ _).2 ?_
  dsimp only
  split
  · refine .of_units rfl rfl fun v hv => ?_
    change UnitOk _ ((s.tmx.units.set u _).get v)
    rw [PerSix.get_set]
    split
    · subst_vars
      exact disarm_ok hv ‹_›
    · exact hv
  · exact (SensingKept.refl s).sound

theorem tick_sensingSound (s : State) : SensingSound s (tick s) := by
  refine .of_units rfl rfl fun v hv => ?_
  obtain ⟨hcount, hdisabled⟩ := hv
  cases v <;> exact ⟨hcount, hdisabled⟩

theorem startUp_sensing (s : State) : SensingKept s (startUp s) := by
  unfold startUp
  refine SensingKept.after (.when fun _ => .of_reach (enterQualifying_reach _)) ?_
  exact SensingKept.after (.when fun _ => .setWeu _ _) (.when fun _ => .raise _ s)

theorem powerOn_sound (s : State) : SensingSound s (powerOn s) :=
  SensingSound.trans (t := (State.atPowerOn s.pst.source s.pst.image s.pst.cell s.powerGood).setPending s.pending)
    (.of_initial rfl rfl) (startUp_sensing _).sound

theorem beginReset_sound (s : State) : SensingSound s (beginReset s) := by
  unfold beginReset
  exact SensingSound.trans (.of_initial rfl rfl) (SensingKept.when fun _ => .raise _ _).sound

theorem endReset_sensing (cause : ResetCause) (s : State) : SensingKept s (endReset cause s) :=
  (SensingKept.raise _ _).after ⟨rfl, rfl, rfl, rfl⟩

theorem supervisorReset_sound (low : Bool) (r : Request) (s : State) : SensingSound s (supervisorReset low r s) := by
  unfold supervisorReset
  have hbegun := SensingSound.trans (SensingKept.setLastSent s (frame (replyBody r .ok []))).sound (beginReset_sound _)
  dsimp only
  split
  · exact hbegun
  · exact hbegun.trans (endReset_sensing _ _).sound

/-! ### The requests that leave the pad and the units alone -/

theorem getStatus_sensing (r : Request) (s : State) : SensingKept s (getStatus r s) := by
  unfold getStatus
  split
  · split <;> exact .setLnk s _
  · exact .setLnk s _

theorem readGroup_sensing (r : Request) (s : State) : SensingKept s (readGroup r s) := by
  unfold readGroup
  split
  · split <;> exact .setLnk s _
  · exact .setLnk s _

theorem readTrace_sensing (r : Request) (s : State) : SensingKept s (readTrace r s) := by
  unfold readTrace
  split
  · split <;> exact .setLnk s _
  · exact .setLnk s _

theorem readRestart_sensing (r : Request) (s : State) : SensingKept s (readRestart r s) := by
  unfold readRestart
  split
  · split
    · exact .setLnk s _
    · split <;> exact .setLnk s _
  · exact .setLnk s _

theorem ackConditions_sensing (r : Request) (s : State) : SensingKept s (ackConditions r s) := by
  unfold ackConditions
  split
  · dsimp only
    rw [acknowledge_eq]
    exact (SensingKept.setLnk _ _).after ((SensingKept.setHsch _ _).after (.setCnu s _))
  · exact .setLnk s _

theorem takeCheckpoint_sensing (r : Request) (s : State) : SensingKept s (takeCheckpoint r s) := by
  unfold takeCheckpoint
  split
  · refine .ite (fun _ => .setLnk s _) fun _ => .ite (fun _ => .setLnk s _) fun _ => ?_
    exact (SensingKept.setLnk _ _).after (.of_reach (takeCode_reach _ s))
  · exact .setLnk s _

theorem requestStop_sensing (r : Request) (s : State) : SensingKept s (requestStop r s) := by
  unfold requestStop
  split
  · split
    · exact .setLnk s _
    · exact .setLnk s _
    · exact .ite (fun _ => .setLnk s _) fun _ => (SensingKept.setLnk _ _).after (.setHps s _)
  · exact .setLnk s _

theorem kickAnswer_sensing (r : Request) (st : Status) (code : Option Word16) (s : State) :
    SensingKept s (kickAnswer r st code s) :=
  (SensingKept.setLnk _ _).after (.of_reach (handCode_reach code s))

theorem judgeKick_sensing (r : Request) (code : Option Word16) (s : State) : SensingKept s (judgeKick r code s) := by
  refine .ite (fun _ => .ite (fun _ => ?_) fun _ => .ite (fun _ => ?_) fun _ => ?_) fun _ => kickAnswer_sensing ..
  · exact (kickAnswer_sensing ..).after (.setWeu s _)
  · exact (SensingKept.of_reach (escalate_reach ..)).after ((kickAnswer_sensing ..).after (.of_reach (earlyKick_reach _ s)))
  · exact (kickAnswer_sensing ..).after ((SensingKept.setWeu _ _).after (.of_reach (earlyKick_reach _ s)))

theorem takeKick_sensing (r : Request) (s : State) : SensingKept s (takeKick r s) := by
  unfold takeKick
  split
  · exact .setLnk s _
  · split
    · exact (kickAnswer_sensing ..).after (.of_reach (enterState_reach ..))
    · exact judgeKick_sensing ..
    · exact judgeKick_sensing ..
    all_goals exact .setLnk s _

theorem requestRestart_sensing (r : Request) (s : State) : SensingKept s (requestRestart r s) := by
  unfold requestRestart
  refine .ite (fun _ => ?_) fun _ => .setLnk s _
  exact (SensingKept.of_reach (perform_reach ..)).after ((SensingKept.setLnk _ _).after
    ((SensingKept.of_reach (writeRecord_reach ..)).after (.of_reach (failPending_reach s))))

theorem storeProfile_sensing (r : Request) (s : State) : SensingKept s (storeProfile r s) :=
  .ite (fun _ => .setLnk s _) fun _ => (SensingKept.setLnk _ _).after (.setPst s _)

theorem storeDone_sensing (ok : Bool) (x : Settings) (s : State) : SensingKept s (storeDone ok x s) :=
  .ite (fun _ => (SensingKept.notify _ _).after (.setPst s _)) fun _ =>
    (SensingKept.notify _ _).after ((SensingKept.raise _ _).after (.setPst s _))

theorem revertProfile_sound (r : Request) (s : State) : SensingSound s (revertProfile r s) := by
  unfold revertProfile
  split
  · exact (SensingKept.setLnk s _).sound
  · split
    · exact (SensingKept.setLnk s _).sound
    · exact (reload_sound _ s).trans (SensingKept.setLnk _ _).sound

theorem afterReply_sensing (a : AfterReply) (s : State) : SensingKept s (afterReply a s) := by
  cases a with
  | nothing => exact .refl s
  | applyRate => exact .setLnk s _
  | endStop => exact .when fun _ => .of_reach (endStop_reach s)

theorem readHeater_sensing (x : Int) (i : Heater) (s : State) : SensingKept s (readHeater x i s) := by
  have hfault (k : FaultKind) (v : State) : SensingKept v (heaterFaults i k v) :=
    (SensingKept.post _ _).after ((SensingKept.setCnu _ _).after ((SensingKept.raise _ _).after (.setHsch v _)))
  have hread (y : Hsch) : SensingKept s (s.setHsch y) := .setHsch s y
  unfold readHeater
  exact .when fun _ => .ite (fun _ => (hfault _ _).after (hread _)) fun _ =>
    .ite (fun _ => (hfault _ _).after (hread _)) fun _ => hread _

theorem endSlot_sensing (current : PerThree Int) (order : List Heater) (s : State) :
    SensingKept s (endSlot current order s) := by
  rw [endSlot, nextSlot_eq]
  refine (SensingKept.setHsch _ _).after ?_
  exact List.foldlRecOn (motive := SensingKept s) order _ (.refl s) fun _ ht h _ => ht.trans (readHeater_sensing _ h _)

theorem hpsBoundary_sensing (s : State) : SensingKept s (hpsBoundary s) :=
  .when fun _ => .ite (fun _ => .of_reach (enterQualifying_reach s)) fun _ =>
    .ite (fun _ => .setHps s _) fun _ => .setHps s _

theorem takeBoundary_sensing (first : Bool) (s : State) : SensingKept s (takeBoundary first s) := by
  obtain ⟨a, x, y, heq⟩ := takeBoundary_hps first s
  rw [heq]
  exact (SensingKept.setHsch _ _).after ((hpsBoundary_sensing _).after
    ((SensingKept.setHsch _ _).after (.setAfm s _)))

theorem measureFan_sensing (pulses : Nat) (ok : Bool) (s : State) : SensingKept s (measureFan pulses ok s) := by
  rw [measureFan_frame]
  exact ⟨rfl, rfl, rfl, rfl⟩

theorem hostPwrGoodFall_sensing (s : State) : Ends (SensingKept s) (execHostPwrGoodFall s) := by
  have hs : SensingKept s (s.setPowerGood false) := .setPowerGood s false
  have hfail := (SensingKept.of_reach (powerFail_reach (s.setPowerGood false))).after hs
  simp only [execHostPwrGoodFall, ends_next]
  split
  · exact .ite (fun _ => hfail) fun _ => hs
  · exact hfail
  · exact hfail
  · exact SensingKept.after (.of_reach ((recordInStop_reach _ _).step ((HostReach.raise _ _).step (endStop_reach _)))) hs
  · exact SensingKept.after (.when fun _ => .setHps _ _) hs
  all_goals exact hs

end Sys2Proof.Machine

namespace Sys2Proof.Machine
open Sys2Proof.Safety

/-! ### Every command keeps the form of the pad and of the units -/

theorem write_sound {write : Nat → List Int → State → Option State}
    (hw : ∀ i fs s t, write i fs s = some t → SensingSound s t) (g : Nat) (after : AfterReply) (r : Request)
    (wf : Bool) (s : State) :
    Ends (SensingSound s) (if wf then .next (dispatch r (writeGroup g write after r) s) else .fault .illFormed) :=
  write_keeps (SensingSound.linkFree s) (fun i fs _ t h e => h.trans (hw i fs _ t e)) g after r wf
    (SensingKept.refl s).sound

theorem control_sound {op : Nat} {change : TrigUnit → State → Option State}
    (hc : ∀ u s t, change u s = some t → SensingSound s t) (r : Request) (wf : Bool) (s : State) :
    Ends (SensingSound s) (if wf then .next (dispatch r (triggerControl op change r) s) else .fault .illFormed) :=
  control_keeps (SensingSound.linkFree s) (fun u _ t h e => h.trans (hc u _ t e)) r wf (SensingKept.refl s).sound

theorem dispatch_sound {owner : State → State} (ho : ∀ v, SensingSound v (owner v)) (r : Request) (s : State) :
    SensingSound s (dispatch r owner s) :=
  dispatch_keeps (SensingSound.linkFree s) (SensingSound.carry ho s) r (SensingKept.refl s).sound

theorem request_sound {owner : State → State} (ho : ∀ v, SensingSound v (owner v)) (n : Nat) (r : Request)
    (s : State) : SensingSound s (dispatch r (ofLength n r owner) s) :=
  request_keeps (SensingSound.linkFree s) (SensingSound.carry ho s) n r (SensingKept.refl s).sound

theorem exec_sensingSound (c : Instr) (s : State) : Ends (SensingSound s) (exec c s) := by
  have answers (r : Request) (st : Status) (p : List Byte) (v : State) : SensingSound v (answer r st p v) :=
    (SensingKept.setLnk v _).sound
  have host {p : Prop} [Decidable p] {t : State} (h : HostReach s t) : SensingSound s (if p then t else s) :=
    (SensingKept.when fun _ => .of_reach h).sound
  cases c with
  | powerOnReset => exact (ends_next _ _).2 (powerOn_sound s)
  | rstNAssert =>
    simp only [exec, execRstNAssert, ends_next]
    split
    · exact (SensingKept.refl s).sound
    · exact beginReset_sound s
  | rstNRelease => exact (ends_next _ _).2 (SensingKept.when fun _ => endReset_sensing _ s).sound
  | supervisorReset tag p low => exact (ends_next _ _).2 (request_sound (supervisorReset_sound low _) _ _ s)
  | frameReceived bytes => exact (ends_next _ _).2 (SensingKept.when fun _ => .setLnk s _).sound
  | frameGapTimeout => exact (ends_next _ _).2 (SensingKept.setLnk s _).sound
  | linkReset => exact (ends_next _ _).2 (SensingKept.when fun _ => .setLnk s _).sound
  | rxdHighAgain => exact (ends_next _ _).2 (SensingKept.setLnk s _).sound
  | replySent =>
    simp only [exec, execReplySent, ends_next]
    split
    · exact (SensingKept.refl s).sound
    · exact ((afterReply_sensing _ _).after ((SensingKept.setLastSent _ _).after (.setLnk s _))).sound
  | badKind kind tag p =>
    simp only [exec, execBadKind]
    split
    · simp
    · exact (ends_next _ _).2 (dispatch_sound (answers _ _ _) _ s)
  | ping tag p => exact (ends_next _ _).2 (request_sound (fun v => answers _ _ _ v) _ _ s)
  | getStatus tag p => exact (ends_next _ _).2 (dispatch_sound (fun v => (getStatus_sensing _ v).sound) _ s)
  | getConditions tag p => exact (ends_next _ _).2 (request_sound (fun v => answers _ _ _ v) _ _ s)
  | ackConditions tag p => exact (ends_next _ _).2 (dispatch_sound (fun v => (ackConditions_sensing _ v).sound) _ s)
  | fetchNotices tag p =>
    exact (ends_next _ _).2 (request_sound (fun v => ((SensingKept.setLnk _ _).after (.setCnu v _)).sound) _ _ s)
  | readKeys tag p =>
    exact (ends_next _ _).2 (request_sound (fun v => ((SensingKept.setLnk _ _).after (.setKeq v _)).sound) _ _ s)
  | kick tag p => exact (ends_next _ _).2 (dispatch_sound (fun v => (takeKick_sensing _ v).sound) _ s)
  | checkpoint tag p => exact (ends_next _ _).2 (dispatch_sound (fun v => (takeCheckpoint_sensing _ v).sound) _ s)
  | readTrace tag p => exact (ends_next _ _).2 (dispatch_sound (fun v => (readTrace_sensing _ v).sound) _ s)
  | thawTrace tag p =>
    exact (ends_next _ _).2 (request_sound (fun v => ((SensingKept.setLnk _ _).after (.setCpt v _)).sound) _ _ s)
  | readRestart tag p => exact (ends_next _ _).2 (dispatch_sound (fun v => (readRestart_sensing _ v).sound) _ s)
  | requestStop tag p => exact (ends_next _ _).2 (dispatch_sound (fun v => (requestStop_sensing _ v).sound) _ s)
  | requestRestart tag p =>
    exact (ends_next _ _).2 (request_sound (fun v => (requestRestart_sensing _ v).sound) _ _ s)
  | commitPolicy tag p =>
    exact (ends_next _ _).2 (request_sound (fun v => ((SensingKept.setLnk _ _).after (.setWeu v _)).sound) _ _ s)
  | writeZone tag p => exact write_sound writeZone_sound _ _ _ _ s
  | writeHeater tag p => exact write_sound writeHeater_sound _ _ _ _ s
  | writeBudget tag p =>
    exact write_sound (fun _ _ => taken_sound (take := takeBudget) fun _ v => (SensingKept.setSettings v _).sound) _ _ _ _ s
  | writeFan tag p =>
    exact write_sound (fun _ _ => taken_sound (take := takeFan) fun _ v => (takeFan_sensing _ v).sound) _ _ _ _ s
  | writeWatchdog tag p =>
    exact write_sound (fun _ _ => taken_sound (take := takeWatchdog) fun _ v => (SensingKept.setSettings v _).sound) _ _ _ _ s
  | writeLadder tag p =>
    exact write_sound (fun _ _ => taken_sound (take := takeLadder) fun _ v => (takeLadder_sensing _ v).sound) _ _ _ _ s
  | writeHostPower tag p =>
    exact write_sound (fun _ _ => taken_sound (take := takeHostPower) fun _ v => (SensingKept.setSettings v _).sound) _ _ _ _ s
  | writeKeypad tag p => exact write_sound (fun _ _ => taken_sound takeKeypad_sound) _ _ _ _ s
  | writeKey tag p =>
    exact write_sound (fun i _ => taken_sound (take := takeKey i) fun _ v => (SensingKept.setSettings v _).sound) _ _ _ _ s
  | writeChord tag p => exact write_sound writeChord_sound _ _ _ _ s
  | writeTrigger tag p => exact write_sound writeTrigger_sound _ _ _ _ s
  | writeReport tag p =>
    exact write_sound (fun _ _ => taken_sound (take := takeReport) fun _ v => (SensingKept.setSettings v _).sound) _ _ _ _ s
  | writeLink tag p =>
    exact write_sound (fun _ _ => taken_sound (take := takeLink) fun _ v => (SensingKept.setSettings v _).sound) _ _ _ _ s
  | readSettings tag p => exact (ends_next _ _).2 (dispatch_sound (fun v => (readGroup_sensing _ v).sound) _ s)
  | storeProfile tag p => exact (ends_next _ _).2 (request_sound (fun v => (storeProfile_sensing _ v).sound) _ _ s)
  | storeComplete ok =>
    simp only [exec, execStoreComplete, ends_next]
    split
    · exact (storeDone_sensing ok _ s).sound
    · exact (SensingKept.refl s).sound
  | revertProfile tag p => exact (ends_next _ _).2 (request_sound (revertProfile_sound _) _ _ s)
  | factorySettings tag p =>
    exact (ends_next _ _).2
      (request_sound (fun v => (reload_sound .factory v).trans (SensingKept.setLnk _ _).sound) _ _ s)
  | triggerControlEnable tag p => exact control_sound enableUnit_sound _ _ s
  | triggerControlDisable tag p => exact control_sound disableUnit_sound _ _ s
  | triggerControlRearm tag p => exact control_sound rearmUnit_sound _ _ s
  | filterServiced tag p =>
    refine (ends_next _ _).2 (request_sound (fun v => SensingKept.sound ?_) _ _ s)
    exact .ite (fun _ => (SensingKept.setLnk _ _).after (.setAfm v _)) fun _ => .setLnk v _
  | sampleRound raw supply order =>
    simp only [exec, execSampleRound]
    split
    · rw [ends_next]
      split
      · exact (SensingKept.refl s).sound
      · exact takeRound_sound raw supply order s
    · simp
  | slotEnd current order =>
    simp only [exec, execSlotEnd]
    split
    · exact (ends_next _ _).2 (SensingKept.when fun _ => endSlot_sensing current order s).sound
    · simp
  | climateBoundary first => exact (ends_next _ _).2 (SensingKept.when fun _ => takeBoundary_sensing first s).sound
  | fanMeasurement pulses ok =>
    exact (ends_next _ _).2 (SensingKept.ite (fun _ => .refl s) fun _ => measureFan_sensing pulses ok s).sound
  | hostPwrGoodRise =>
    exact (ends_next _ _).2 (SensingKept.after (.when fun _ => .setHps _ _) (.setPowerGood s true)).sound
  | hostPwrGoodFall => exact fun t e => (hostPwrGoodFall_sensing s t e).sound
  | powerGoodTimeout => exact (ends_next _ _).2 (host (powerFail_reach s))
  | resetHoldExpiry => exact (ends_next _ _).2 (host (enterBooting_reach s))
  | resettingExpiry => exact (ends_next _ _).2 (host (enterBooting_reach s))
  | drainTimeout => exact (ends_next _ _).2 (host (.setHps s _))
  | offTimeExpiry => exact (ends_next _ _).2 (host (enterQualifying_reach s))
  | lockoutRetryExpiry => exact (ends_next _ _).2 (host (releaseLockout_reach s))
  | graceExpiry => exact (ends_next _ _).2 (host (endStop_reach s))
  | stopDelayExpiry => exact (ends_next _ _).2 (host (endStop_reach s))
  | wakeTime => exact (ends_next _ _).2 (host (wake_reach s))
  | leadComputation => exact (ends_next _ _).2 (host (.setHps s _))
  | preheatBegin => exact (ends_next _ _).2 (host (.setHps s _))
  | warmTimeout =>
    exact (ends_next _ _).2 (host ((HostReach.post _ _).step ((HostReach.raise _ _).step (.setHps s _))))
  | bootTimeout =>
    exact (ends_next _ _).2 (host ((escalate_reach _ _ _).step ((HostReach.post _ _).step (.raise _ s))))
  | wdExpired =>
    have hl := latchExpiry_reach s
    refine (ends_next _ _).2 (SensingKept.sound ?_)
    exact .when fun _ => .ite (fun _ => .of_reach ((escalate_reach _ _ _).step hl)) fun _ =>
      .when fun _ => .of_reach ((endStop_reach _).step ((recordInStop_reach _ _).step hl))
  | stableTime =>
    exact (ends_next _ _).2 (SensingKept.when fun _ =>
      (SensingKept.of_reach (resetLadder_reach _)).after (.setWeu s _)).sound
  | keyScan raws =>
    simp only [exec, execKeyScan]
    split
    · rw [ends_next]
      split
      · exact (SensingKept.refl s).sound
      · exact takeScan_sound raws s
    · simp
  | eventTake =>
    simp only [exec, execEventTake, ends_next]
    split
    · exact (SensingKept.refl s).sound
    · exact takeOldest_sensingSound s
  | armWindowExpiry u => exact armWindowExpiry_sound u s
  | svcTimerExpiry => exact (ends_next _ _).2 (SensingKept.when fun _ => .setCnu s _).sound

/-- A step keeps the form of the pad and of the units. -/
theorem step_sensingSound {s t : State} (h : step s = .next t) : SensingSound s t :=
  step_keeps (P := SensingSound s) (fun v q hv => hv.trans (SensingKept.setPending v q).sound)
    (SensingSound.carry tick_sensingSound s) (fun c v hv t e => hv.trans (exec_sensingSound c v t e))
    (SensingKept.refl s).sound h

end Sys2Proof.Machine

namespace Sys2Proof.Proofs
open Sys2Proof.Machine Sys2Proof.Safety

/-- Settles O50, by the commands: most leave the pad and the units alone; a scan, a round, a KEYPAD write and an event
give each key and each unit a form of its own. -/
theorem padAndUnitInvariant : Obligations.PadAndUnitInvariant :=
  ⟨fun _ _ hs h => (step_sensingSound h).pad hs, fun _ _ hs h => (step_sensingSound h).units hs⟩

end Sys2Proof.Proofs

namespace Sys2Proof.Machine
open Sys2Proof.Safety

/-! ### KEYPAD, KEY, CHORD, TRIGGER, REPORT and LINK as fields (R133, R134, R159, R190) -/

theorem keypadOf_length {fs : List Int} {c : KeypadSettings} (h : keypadOf fs = some c) : fs.length = 14 := by
  unfold keypadOf at h
  split at h
  · rfl
  · cases h

theorem keyOf_length {fs : List Int} {c : Bool} (h : keyOf fs = some c) : fs.length = 1 := by
  unfold keyOf at h
  split at h
  · rfl
  · cases h

theorem chordOf_length {fs : List Int} {c : ChordSettings} (h : chordOf fs = some c) : fs.length = 2 := by
  unfold chordOf at h
  split at h
  · rfl
  · cases h

theorem triggerOf_length {fs : List Int} {c : TriggerSettings} (h : triggerOf fs = some c) : fs.length = 11 := by
  unfold triggerOf at h
  split at h
  · rfl
  · cases h

/-- A write whose fields its owner refuses gets BAD_ARG (R188, R191). -/
theorem writeGroup_refused {g i : Nat} {write : Nat → List Int → State → Option State} {after : AfterReply}
    {tag gb ib : Byte} {fs old : List Int} {s : State} (hgb : gb.toNat = g) (hib : ib.toNat = i)
    (hw : OnWire fs) (hold : s.settings.group g i = some old) (hlen : fs.length = old.length)
    (hlock : (policyGroup g && s.weu.policyLock) = false) (hnone : write i fs (takeHeld s) = none) :
    writeGroup g write after (writeRequest tag (gb :: ib :: fs.flatMap i32)) (takeHeld s) =
      s.setLnk (replying s 0x20 tag .badArg [] .nothing) := by
  have hold' : (takeHeld s).settings.group g i = some old := hold
  have hlock' : (policyGroup g && (takeHeld s).weu.policyLock) = false := hlock
  have hlen' : ¬ (g ≠ g ∨ (fs.flatMap i32).length ≠ 4 * old.length) := by
    rw [length_flatMap_i32, hlen]; simp
  unfold writeGroup writeRequest
  simp only [hgb, hib, hold', if_neg hlen', hlock', fieldsOf_flatMap hw, hnone]
  exact answerThen_replying (s := s) (by decide) rfl .nothing .badArg []

/-! ### The six writes (R133, R134, R153, R159, R171, R180) -/

/-- The state in which a KEYPAD write hands on what it owes to the keys no longer fitted (R133). -/
def keypadPut (c : KeypadSettings) (s : State) : State :=
  (s.setSettings { s.settings with keypad := c }).setKsu (unfitKeys c.keysFitted s.time.ms s.ksu).ksu

theorem takeKeypad_eq (c : KeypadSettings) (s : State) :
    takeKeypad c s = emitAll (unfitKeys c.keysFitted s.time.ms s.ksu).out (keypadPut c s) := rfl

/-- KEYPAD is taken: the keys no longer fitted are handled, and nothing else changes but what is handed on (R133). -/
theorem takeKeypad_frame (c : KeypadSettings) {s : State} (h : s.ksu.keys.length = 20) : takeKeypad c s = { s with
    settings := { s.settings with keypad := c }, ksu := { s.ksu with keys := (takeKeypad c s).ksu.keys }
    keq := (takeKeypad c s).keq, tmx := (takeKeypad c s).tmx, cnu := (takeKeypad c s).cnu } := by
  have hothers := (unfitDone_eachKey c.keysFitted s.time.ms h).others
  rw [← (unfitKeys_out c.keysFitted s.time.ms h).1] at hothers
  have hput : keypadPut c s = { s with
      settings := { s.settings with keypad := c }
      ksu := { s.ksu with keys := (unfitKeys c.keysFitted s.time.ms s.ksu).ksu.keys } } := by
    rw [← hothers]; rfl
  rw [takeKeypad_eq, emitAll_ksu, emitAll_eq, hput]
  rfl

/-- The keys after a KEYPAD write: as they were while fitted, else IDLE and unmeasured, the held ones with their
release told (R133; log entry 31). -/
theorem takeKeypad_key (c : KeypadSettings) {s : State} (h : s.ksu.keys.length = 20) {k : Nat} (hk : k < 20) :
    (takeKeypad c s).ksu.key k = (if c.keysFitted ≤ k then (s.ksu.key k).unfitted else s.ksu.key k) ∧
      (c.keysFitted ≤ k → (s.ksu.key k).state.held = true → Told (releaseEvent s k) (takeKeypad c s)) := by
  refine ⟨?_, fun hf hh => emitAll_told (unfitKeys_release s.time.ms h hk hf hh) (keypadPut c s)⟩
  rw [takeKeypad_eq, emitAll_ksu]
  change (unfitKeys _ _ _).ksu.key k = _
  rw [(unfitKeys_out _ s.time.ms h).1, (unfitDone_eachKey c.keysFitted s.time.ms h).key k (by omega)]
  exact if_congr (by omega) rfl rfl

theorem takeKeypad_length (c : KeypadSettings) {s : State} (h : s.ksu.keys.length = 20) :
    (takeKeypad c s).ksu.keys.length = 20 := by
  rw [takeKeypad_eq, emitAll_ksu]
  change (unfitKeys _ _ _).ksu.keys.length = 20
  rw [(unfitKeys_out _ s.time.ms h).1, (unfitDone_eachKey c.keysFitted s.time.ms h).length, h]

theorem takeKeypad_silent (c : KeypadSettings) {s : State} (h : s.ksu.keys.length = 20)
    (hnone : ∀ k < 20, c.keysFitted ≤ k → (s.ksu.key k).state.held = false ∧ (s.ksu.key k).state ≠ .quarantined) :
    takeKeypad c s = keypadPut c s := by
  rw [takeKeypad_eq, unfitKeys_silent s.time.ms h hnone, emitAll_nil]

/-- A unit's initial state by its settings (R153). -/
theorem unitRec_initial (c : TriggerSettings) (fires : Nat) : UnitRec.initial c fires =
    ⟨if c.enabled = false then .disabled
     else if c.armBy.isSome then .waitingArm else if c.preset = 0 then .ready else .counting,
      c.preset, fires, none⟩ := by
  unfold UnitRec.initial
  cases c.enabled <;> rfl

theorem Six.toNat_num (i : Six) : (BitVec.ofNat 8 i.num).toNat = i.num := by cases i <;> rfl

end Sys2Proof.Machine

namespace Sys2Proof.Proofs
open Sys2Proof.Machine Sys2Proof.Safety

/-- Settles O38, by the owner's equation of each group and the answer to a write that is taken. -/
theorem padTriggerAndLinkSettingsAreTaken : Obligations.PadTriggerAndLinkSettingsAreTaken := by
  refine ⟨fun tag fs c s hw hc hkeys hdue => ?_, fun tag index fs c s hw hindex hlength hc hdue => ?_,
    fun tag i fs c s hw hc hdue => ?_, fun tag u fs c s hw hc hdue => ?_, fun tag x s hw hdue => ?_,
    fun tag c s hdue => ?_⟩
  · have hkeys' : (takeHeld s).ksu.keys.length = 20 := hkeys
    have hframe := takeKeypad_frame c hkeys'
    refine ⟨(takeKeypad c (takeHeld s)).setLnk (writeReply s tag 8 0 fs c.fields .nothing), ?_,
      congrArg (State.setLnk · _) hframe, takeKeypad_length c hkeys', fun k hk => ?_, fun hnone => ?_⟩
    · refine (write_of_due hdue rfl (by decide)).trans (congrArg _ ?_)
      refine writeGroup_taken (g := 8) (old := s.settings.keypad.fields) rfl rfl hw rfl (keypadOf_length hc) rfl ?_ ?_ ?_
      · simp [writeKeypadFields, hc]
      · rw [(takeKeypad_takes c _).1]; rfl
      · rw [takeKeypad_eq, emitAll_lnk]; rfl
    · obtain ⟨hkey, htold⟩ := takeKeypad_key c hkeys' hk
      change if k < c.keysFitted then (takeKeypad c (takeHeld s)).ksu.key k = s.ksu.key k else _
      dsimp only [State.setLnk_ksu]
      rw [hkey]
      by_cases hf : k < c.keysFitted
      · rw [if_pos hf, if_neg (by omega)]
        rfl
      · rw [if_neg hf, if_pos (by omega)]
        exact ⟨rfl, rfl, rfl, rfl, htold (by omega)⟩
    · rw [takeKeypad_silent c hkeys' hnone]
      exact ⟨rfl, rfl, rfl⟩
  · refine (write_of_due hdue rfl (by decide)).trans (congrArg _ ?_)
    refine (writeGroup_taken (g := 9) (t := takeKey index.toNat c (takeHeld s)) (eff := [if c then 1 else 0])
      rfl rfl hw ((groups_show s.settings).key _ hindex) (keyOf_length hc) rfl ?_ ?_ rfl).trans rfl
    · simp [writeKeyFields, hc]
    · refine ((groups_show _).key _ hindex).trans ?_
      simp [takeKey, takeHeld, hlength, hindex]
  · refine (write_of_due hdue rfl (by decide)).trans (congrArg _ ?_)
    refine (writeGroup_taken (g := 10) (t := takeChord i c (takeHeld s)) rfl (Six.toNat_num i) hw
      ((groups_show s.settings).chord i) (chordOf_length hc) rfl ?_ ?_ rfl).trans rfl
    · simp [writeChordFields, hc]
    · refine ((groups_show _).chord i).trans ?_
      simp [takeChord, PerSix.get_set]
  · refine (write_of_due hdue rfl (by decide)).trans (congrArg _ ?_)
    by_cases hcycle : armingCycle (s.settings.trigger.set u c) u = true
    · rw [if_pos hcycle]
      refine writeGroup_refused (g := 11) rfl (Six.toNat_num u) hw ((groups_show s.settings).trigger u)
        (triggerOf_length hc) rfl ?_
      have hcycle' : armingCycle ((takeHeld s).settings.trigger.set u c) u = true := hcycle
      simp [writeTriggerFields, hc, hcycle']
    · rw [if_neg hcycle, ← unitRec_initial]
      refine (writeGroup_taken (g := 11) (t := takeTrigger u c (takeHeld s)) rfl (Six.toNat_num u) hw
        ((groups_show s.settings).trigger u) (triggerOf_length hc) rfl ?_ ?_ rfl).trans rfl
      · have hcycle' : ¬ armingCycle ((takeHeld s).settings.trigger.set u c) u = true := hcycle
        simp [writeTriggerFields, hc, hcycle']
      · refine ((groups_show _).trigger u).trans ?_
        simp [takeTrigger, PerSix.get_set]
  · refine (write_of_due hdue rfl (by decide)).trans (congrArg _ ?_)
    exact (writeGroup_taken (g := 12) (fs := [x]) (old := [s.settings.report.toInt])
      (t := takeReport (BitVec.ofInt 32 x &&& 0x3FFFFFFF#32) (takeHeld s))
      rfl rfl hw (groups_show s.settings).report rfl rfl rfl rfl rfl).trans rfl
  · refine (write_of_due hdue rfl (by decide)).trans (congrArg _ ?_)
    refine (writeGroup_taken (g := 13) (fs := [(c.baud : Int)]) (old := [(s.settings.link.baud : Int)])
      (t := takeLink c (takeHeld s)) rfl rfl (onWire_baud c) (groups_show s.settings).link rfl rfl ?_ rfl rfl).trans rfl
    simp [writeLinkFields, linkOf_field]

end Sys2Proof.Proofs

namespace Sys2Proof.Machine
open Sys2Proof.Safety

/-! ### KEY_SCAN (R115, R132) -/

theorem execKeyScan_eq {raws : List Nat} {s : State} (hraws : countsOk raws = true) (hhold : s.hold = false) :
    exec (.keyScan raws) s = .next (takeScan raws s) := by
  change execKeyScan raws s = _
  rw [execKeyScan, if_pos hraws, hhold]
  rfl

/-- A scan changes KSU, and what it hands on goes to the inbox, KEQ and CNU (R115, R132). -/
theorem takeScan_reach (raws : List Nat) (s : State) : ScanReach s (takeScan raws s) := by
  unfold ScanReach takeScan
  dsimp only
  rw [emitAll_eq]
  rfl

/-- What a scan hands on (R132). -/
def scanOut (raws : List Nat) (s : State) : List Emit :=
  (scanPad s.settings s.time.ms (s.zoneTemp .n0) raws s.ksu).out

/-- The state in which a scan hands on what it gives. -/
def scanPut (raws : List Nat) (s : State) : State :=
  s.setKsu (scanPad s.settings s.time.ms (s.zoneTemp .n0) raws s.ksu).ksu

theorem takeScan_eq (raws : List Nat) (s : State) : takeScan raws s = emitAll (scanOut raws s) (scanPut raws s) := rfl

theorem takeScan_ksu (raws : List Nat) (s : State) :
    (takeScan raws s).ksu = (scanPad s.settings s.time.ms (s.zoneTemp .n0) raws s.ksu).ksu := emitAll_ksu _ _

/-- KSU after a scan of a pad with all its records. -/
theorem takeScan_done {s : State} (h : s.ksu.keys.length = 20) (raws : List Nat) :
    ScanDone s.settings s.time.ms (s.zoneTemp .n0) raws s.ksu ⟨(takeScan raws s).ksu, scanOut raws s⟩ := by
  rw [takeScan_ksu]
  exact scanPad_done h _ _ _ _

/-- What a scan posts has been told. -/
theorem takeScan_told {raws : List Nat} {s : State} {e : Event} (h : Emit.post e ∈ scanOut raws s) :
    Told e (takeScan raws s) := emitAll_told h _

/-! ### Drift after a scan (R116) -/

theorem driftKey_state (r : KeyRec) : (driftKey r).state = r.state := by rw [(driftKey_fields r).1]

/-- The pad of a scan that drifts is quiet once the scan is over (R116). -/
theorem quietPad_scan {u : Ksu} (hu : u.keys.length = 20) (c : Settings) (now : Word32) (t0 : Option Int)
    (raws : List Nat) (hfitted : c.keypad.keysFitted ≤ 20) :
    quietPad c.keypad (scanChorded c now t0 raws u).ksu = true ↔
      (scanPad c now t0 raws u).ksu.suppressed = false ∧
        ∀ k < c.keypad.keysFitted, ((scanPad c now t0 raws u).ksu.key k).state = .idle := by
  have hlength : (scanChorded c now t0 raws u).ksu.keys.length = 20 := by
    rw [← driftKeys_length c.keypad]
    exact (scanPad_done hu c now t0 raws).length
  have hsup : (scanPad c now t0 raws u).ksu.suppressed = (scanChorded c now t0 raws u).ksu.suppressed := by
    rw [scanPad_eq, driftKeys_eq]
    rfl
  have hstate (k : Nat) :
      ((scanPad c now t0 raws u).ksu.key k).state = ((scanChorded c now t0 raws u).ksu.key k).state := by
    rw [scanPad_eq, driftKeys_key]
    split
    · exact driftKey_state _
    · rfl
  rw [quietPad_iff (by omega), hsup]
  simp only [hstate]

/-- A baseline drifts by a sixteenth of what separates it from the raw count, or by one (R116). -/
theorem driftBaseline_int (b raw : Nat) : (driftBaseline b raw : Int) =
    b + (if ((raw : Int) - b).tdiv 16 = 0 then ((raw : Int) - b).sign else ((raw : Int) - b).tdiv 16) := by
  have hnonneg : 0 ≤ (raw : Int) - b → ((raw : Int) - b).tdiv 16 = ((raw : Int) - b) / 16 :=
    Int.tdiv_eq_ediv_of_nonneg
  have hneg (h : (raw : Int) - b < 0) : ((raw : Int) - b).tdiv 16 = -((b - (raw : Int)) / 16) := by
    rw [← Int.tdiv_eq_ediv_of_nonneg (by omega), ← Int.neg_tdiv, neg_sub]
  unfold driftBaseline
  dsimp only
  rcases lt_trichotomy ((raw : Int) - b) 0 with hd | hd | hd
  · rw [if_neg hd.ne, if_neg (not_lt.2 hd.le), Int.sign_eq_neg_one_of_neg hd, hneg hd]
    split <;> omega
  · rw [if_pos hd, hd]
    simp
  · rw [if_neg hd.ne', if_pos hd, Int.sign_eq_one_of_pos hd, hnonneg hd.le]
    split <;> omega

/-! ### Baselines after a scan (R114 to R120, R125) -/

theorem retakeNames_iff (due : Retake) (st : KeyState) : retakeNames due st = true ↔ Retaken due st := by
  cases due <;> cases st <;> simp [retakeNames, Retaken]

/-- The end of a quarantine, in the scan that ends it (R125). -/
def quarantineEnds (c : KeypadSettings) (now : Word32) (raw : Nat) (due : Retake) (r : KeyRec) : Prop :=
  r.state = .quarantined ∧ (debounced c now (measured c due raw r)).state = .idle

/-- A fitted key's baseline after step 4, as what it was, or as its raw count (R114, R117, R119, R120, R125). -/
theorem stepped_measures {c : KeypadSettings} {k : Nat} (hk : k < c.keysFitted) (now : Word32) (raws : List Nat)
    (u : Ksu) : ∃ base : Nat,
      (stepped c now raws u k).raw = raws.getD k 0 ∧ (stepped c now raws u k).baseline = some base ∧
      (stepped c now raws u k).delta = (base : Int) - raws.getD k 0 ∧
      (quarantineEnds c now (raws.getD k 0) u.retake (u.key k) → base = raws.getD k 0) ∧
      (¬ quarantineEnds c now (raws.getD k 0) u.retake (u.key k) →
        base = measuredBase c u.retake (raws.getD k 0) (u.key k)) := by
  rw [stepped, if_pos hk]
  unfold quarantineEnds
  generalize raws.getD k 0 = raw
  rcases debounced_cases c now (measured c u.retake raw (u.key k)) with ⟨st, a, b, d, q, h, -, hq⟩ | ⟨hq, h⟩
  · rw [measured_state] at hq
    refine ⟨measuredBase c u.retake raw (u.key k), ?_, ?_, ?_, fun ⟨hr, hi⟩ => ?_, fun _ => rfl⟩
    · rw [h, measured_eq]
    · rw [h, measured_eq]
    · rw [h, measured_eq]
    · rw [h, hq.1 hr] at hi
      cases hi
  · rw [measured_state] at hq
    refine ⟨raw, ?_, ?_, ?_, fun _ => rfl, fun hn => ?_⟩
    · rw [h, measured_eq]; rfl
    · rw [h, measured_eq]; rfl
    · rw [h, measured_eq]; simp [KeyRec.retake]
    · exact absurd ⟨hq, by rw [h]⟩ hn

/-- A key QUARANTINED before the scan goes through steps 5 and 6 as step 4 leaves it: not held, and not due. -/
theorem covered_of_quarantined {c : KeypadSettings} {raws : List Nat} {u : Ksu} {k : Nat} (hk : k < c.keysFitted)
    (hq : (u.key k).state = .quarantined) (hdue : (u.key k).due = false) (now : Word32) :
    covered c now raws u k = stepped c now raws u k ∧ (stepped c now raws u k).due = false ∧
      (stepped c now raws u k).state.held = false := by
  have hstepped : ((stepped c now raws u k).state = .quarantined ∨ (stepped c now raws u k).state = .idle) ∧
      (stepped c now raws u k).due = false := by
    rw [stepped, if_pos hk, debounced_quarantined (by rw [measured_state]; exact hq)]
    rcases stepQuarantined_cases c now (measured c u.retake (raws.getD k 0) (u.key k)) with ⟨q, h⟩ | h
    · rw [h, measured_eq]; exact ⟨.inl hq, hdue⟩
    · rw [h, measured_eq]; exact ⟨.inr rfl, hdue⟩
  obtain ⟨hstate, hdue'⟩ := hstepped
  have hheld : (stepped c now raws u k).state.held = false := by rcases hstate with h | h <;> rw [h] <;> rfl
  refine ⟨?_, hdue', hheld⟩
  rcases covered_eq_stepped_or c now raws u k with h | ⟨h, -⟩
  · exact h
  · rw [h, silenced_of_not_held hheld, clearPending, if_neg]
    rcases hstate with hs | hs <;> rw [hs] <;> simp

/-- What step 4 leaves of a key QUARANTINED before the scan stands after it. -/
theorem settled_of_quarantined {c : Settings} {raws : List Nat} {u : Ksu} {k : Nat} (hk : k < c.keypad.keysFitted)
    (hq : (u.key k).state = .quarantined) (hdue : (u.key k).due = false) (now : Word32) :
    settled c now raws u k = stepped c.keypad now raws u k := by
  obtain ⟨hcovered, hdue', hheld⟩ := covered_of_quarantined hk hq hdue now (raws := raws)
  rw [settled, if_pos hk, pressedAt, hcovered, pressed_of_not_due hdue', heldTested_of_not_held hheld]

end Sys2Proof.Machine

namespace Sys2Proof.Proofs
open Sys2Proof.Machine Sys2Proof.Safety

/-- Settles O51, by the baseline of each key after steps 1 to 4 and the drift of step 9. -/
theorem scanSetsBaselines : Obligations.ScanSetsBaselines := by
  intro raws s hraws hhold hpad hranges
  obtain ⟨hsize, hkeys⟩ := (padOk_iff s).1 hpad
  have hfitted : s.settings.keypad.keysFitted ≤ 20 := hranges.fitted
  have hdone := takeScan_done hsize raws
  have hquiet := quietPad_scan hsize s.settings s.time.ms (s.zoneTemp .n0) raws hfitted
  rw [← takeScan_ksu] at hquiet
  refine ⟨takeScan raws s, execKeyScan_eq hraws hhold, takeScan_reach raws s, ?_, fun k hk => ?_, fun k hk => ?_⟩
  · rw [hdone.retake, ← hdone.suppressed]
  · obtain ⟨-, hdue, -, hunmeasured⟩ := hkeys k (by omega)
    obtain ⟨base, hraw, hbase, hdelta, hends, hstays⟩ :=
      stepped_measures hk s.time.ms raws s.ksu
    obtain ⟨hraw', hbase', hdelta'⟩ := settled_measures s.settings s.time.ms raws s.ksu k
    have hkey := hdone.key k (by omega)
    have hstate := (hdone.key_state (k := k) (by omega)).1
    dsimp only at hkey hstate
    have hquarantine : quarantineEnds s.settings.keypad s.time.ms (raws.getD k 0) s.ksu.retake (s.ksu.key k) ↔
        (s.ksu.key k).state = .quarantined ∧ ((takeScan raws s).ksu.key k).state = .idle := by
      refine and_congr_right fun hq => ?_
      rw [hstate, settled_of_quarantined hk hq hdue, stepped, if_pos hk]
    refine ⟨?_, base, driftBaseline base (raws.getD k 0), fun hnone => ?_,
      fun b hb => ⟨fun hagain => ?_, fun hagain => ?_⟩, ?_, driftBaseline_int _ _, fun hq => ?_, fun hq => ?_⟩
    · rcases hdone.key_cases (k := k) (by omega) with h | ⟨h, -⟩ <;> dsimp only at h
      · rw [h, hraw', hraw]
      · rw [h, (driftKey_fields _).1, hraw', hraw]
    · have hno : ¬ (s.ksu.key k).state = .quarantined := by simp [hunmeasured hnone]
      rw [hstays fun he => hno he.1, measuredBase, hnone]
    · by_cases he : quarantineEnds s.settings.keypad s.time.ms (raws.getD k 0) s.ksu.retake (s.ksu.key k)
      · exact hends he
      · rw [hstays he, measuredBase, hb]
        dsimp only
        rw [if_pos]
        rcases hagain with h | h | h
        · exact .inl ((retakeNames_iff _ _).2 h)
        · exact .inr h
        · exact absurd (hquarantine.2 h) he
    · rw [hstays fun he => hagain (.inr (.inr (hquarantine.1 he))), measuredBase, hb]
      dsimp only
      rw [if_neg]
      rintro (h | h)
      · exact hagain (.inl ((retakeNames_iff _ _).1 h))
      · exact hagain (.inr (.inl h))
    · rcases hdone.key_cases (k := k) (by omega) with h | ⟨h, -⟩ <;> dsimp only at h
      · rw [h, hdelta', hdelta]
      · rw [h, (driftKey_fields _).1, hdelta', hdelta]
    · rw [hkey, if_pos ⟨hquiet.2 hq, hk⟩, driftKey, hbase', hbase]
      dsimp only
      rw [hraw', hraw]
    · rw [hkey, if_neg (fun h => hq (hquiet.1 h.1)), hbase', hbase]
  · by_cases hlt : k < 20
    · obtain ⟨-, hdue, hunfitted, -⟩ := hkeys k hlt
      rcases hdone.key_cases hlt with h | ⟨-, h⟩
      · exact h.trans (settled_unfitted hk (hunfitted hk).1 hdue)
      · omega
    · have hsize' : (takeScan raws s).ksu.keys.length = 20 := hdone.length
      rw [key_of_length_le (u := (takeScan raws s).ksu) (by omega), key_of_length_le (by omega)]

end Sys2Proof.Proofs

namespace Sys2Proof.Machine
open Sys2Proof.Safety

/-! ### Chords after a scan (R131) -/

/-- The keys that step 8 tests are held as the scan leaves them. -/
theorem scanHeld_held {s : State} (h : s.ksu.keys.length = 20) (raws : List Nat) (k : Nat) :
    ((scanHeld s.settings s.time.ms (s.zoneTemp .n0) raws s.ksu).ksu.key k).state.held =
      ((takeScan raws s).ksu.key k).state.held := by
  have hheld := scanHeld_done h s.settings s.time.ms (s.zoneTemp .n0) raws
  have hdone := takeScan_done h raws
  have hlength : (takeScan raws s).ksu.keys.length = 20 := hdone.length
  by_cases hk : k < 20
  · rw [hheld.key k hk]
    exact congrArg KeyState.held (hdone.key_state hk).1.symm
  · rw [key_of_length_le (by rw [hheld.length]; omega), key_of_length_le (u := (takeScan raws s).ksu) (by omega)]

/-- A chord that is held exactly has its keys held, and no other fitted key is held (R131). -/
theorem exactlyHeld_iff (c : KeypadSettings) (set : List Nat) (u : Ksu) : exactlyHeld c set u = true ↔
    (∀ k ∈ set, k < c.keysFitted ∧ (u.key k).state.held = true) ∧
      ∀ k < c.keysFitted, (u.key k).state.held = true → k ∈ set := by
  simp only [exactlyHeld, Bool.and_eq_true, List.all_eq_true, decide_eq_true_eq, List.mem_range, Bool.or_eq_true,
    List.contains_eq_mem, Bool.not_eq_true', or_iff_not_imp_right, Bool.not_eq_false]

/-- Where suppression has started no key is held, so no chord with a key is held exactly (R128, R131). -/
theorem not_exactlyHeld_of_suppressed {s : State} (h : PadOk s) {raws : List Nat} {set : List Nat} (hset : set ≠ [])
    (hs : scanSuppressed s.settings.keypad s.time.ms raws s.ksu = true) :
    exactlyHeld s.settings.keypad set (scanHeld s.settings s.time.ms (s.zoneTemp .n0) raws s.ksu).ksu = false := by
  obtain ⟨hsize, hkeys⟩ := (padOk_iff s).1 h
  have hheld := scanHeld_done hsize s.settings s.time.ms (s.zoneTemp .n0) raws
  obtain ⟨k, hk⟩ := List.exists_mem_of_ne_nil set hset
  rw [Bool.eq_false_iff]
  intro he
  have hkheld := (((exactlyHeld_iff _ _ _).1 he).1 k hk).2
  by_cases hlt : k < 20
  · rw [hheld.key k hlt, settled_not_held (hkeys k hlt).1 hs] at hkheld
    cases hkheld
  · rw [key_of_length_le (by rw [hheld.length]; omega)] at hkheld
    cases hkheld

section
variable {c : KeypadSettings} {cs : ChordSettings} {now : Word32} {u : Ksu} {r : ChordRec}

theorem chordTested_of_empty (hset : cs.keys = []) : chordTested c cs now u r = r := by
  simp [chordTested, hset]

theorem chordTested_of_spent (hset : cs.keys ≠ []) (he : exactlyHeld c cs.keys u = true) (hs : r.spent = true) :
    chordTested c cs now u r = r := by
  simp [chordTested, hset, he, hs]

theorem chordTested_starts (hset : cs.keys ≠ []) (he : exactlyHeld c cs.keys u = true) (hs : r.spent = false)
    (ht : r.start = none) : chordTested c cs now u r = ⟨some now, false⟩ := by
  simp [chordTested, hset, he, hs, ht]

theorem chordTested_runs (hset : cs.keys ≠ []) (he : exactlyHeld c cs.keys u = true) (hs : r.spent = false)
    {t : Word32} (ht : r.start = some t) :
    chordTested c cs now u r = if cs.hold ≤ elapsed now t then ⟨none, true⟩ else r := by
  simp [chordTested, hset, he, hs, ht]

theorem chordEmits_of_exact (hset : cs.keys ≠ []) (he : exactlyHeld c cs.keys u = true) (hs : r.spent = false)
    {t : Word32} (ht : r.start = some t) (hh : cs.hold ≤ elapsed now t) (i : Chord) :
    Emit.post ⟨.chord, BitVec.ofNat 8 i.num, (cs.hold : Nat)⟩ ∈ chordEmits c cs now u i r := by
  simp [chordEmits, hset, he, hs, ht, hh, event]

theorem chordTested_of_not_exact (hset : cs.keys ≠ []) (he : exactlyHeld c cs.keys u = false) (hs : r.spent = false) :
    chordTested c cs now u r = ⟨none, false⟩ := by
  simp [chordTested, hset, he, hs]

/-- A spent chord waits until a key of its set is released (R131). -/
theorem chordTested_waits (hset : cs.keys ≠ []) (he : exactlyHeld c cs.keys u = false) (hs : r.spent = true) :
    ((chordTested c cs now u r).spent = false ↔ ∃ k ∈ cs.keys, ¬ (u.key k).state.held = true) ∧
      (chordTested c cs now u r).start = r.start := by
  have hany : (cs.keys.any fun k => !(u.key k).state.held) = true ↔
      ∃ k ∈ cs.keys, ¬ (u.key k).state.held = true := by simp
  have htested : chordTested c cs now u r =
      if (cs.keys.any fun k => !(u.key k).state.held) = true then { r with spent := false } else r := by
    simp [chordTested, hset, he, hs]
  rw [htested, ← hany]
  by_cases ha : (cs.keys.any fun k => !(u.key k).state.held) = true
  · rw [if_pos ha]
    exact ⟨⟨fun _ => ha, fun _ => rfl⟩, rfl⟩
  · rw [if_neg ha, hs]
    exact ⟨⟨fun h => absurd h (by simp), fun h => absurd h ha⟩, rfl⟩
end

end Sys2Proof.Machine

namespace Sys2Proof.Proofs
open Sys2Proof.Machine Sys2Proof.Safety

/-- Settles O56, by what a chord test makes of each chord. -/
theorem chordsFireOncePerHolding : Obligations.ChordsFireOncePerHolding := by
  intro raws s hraws hhold hpad
  have hsize : s.ksu.keys.length = 20 := hpad.size
  refine ⟨takeScan raws s, execKeyScan_eq hraws hhold, fun i => ?_⟩
  have hdone := takeScan_done hsize raws
  have hchord := hdone.chord i
  have hbefore := (scanHeld_done hsize s.settings s.time.ms (s.zoneTemp .n0) raws).chord i
  have hexact := exactlyHeld_iff s.settings.keypad (s.settings.chord.get i).keys
    (scanHeld s.settings s.time.ms (s.zoneTemp .n0) raws s.ksu).ksu
  have hemits : ∀ e ∈ chordEmits s.settings.keypad (s.settings.chord.get i) s.time.ms
      (scanHeld s.settings s.time.ms (s.zoneTemp .n0) raws s.ksu).ksu i
      ((scanHeld s.settings s.time.ms (s.zoneTemp .n0) raws s.ksu).ksu.chords.get i), e ∈ scanOut raws s := by
    intro e he
    rw [show scanOut raws s = _ from hdone.out]
    exact List.mem_append_right _ (List.mem_flatMap.2 ⟨i, by cases i <;> decide, he⟩)
  have hstarted (hset : (s.settings.chord.get i).keys ≠ [])
      (he : exactlyHeld s.settings.keypad (s.settings.chord.get i).keys
        (scanHeld s.settings s.time.ms (s.zoneTemp .n0) raws s.ksu).ksu = true) :
      ¬ (s.ksu.suppressed = false ∧ scanSuppressed s.settings.keypad s.time.ms raws s.ksu = true) := fun hst => by
    rw [not_exactlyHeld_of_suppressed hpad hset hst.2] at he
    cases he
  rw [hbefore] at hemits
  simp only [scanHeld_held hsize] at hexact
  dsimp only at hchord ⊢
  refine ⟨fun hset => ?_, fun hset he hs => ?_, fun hset he hs => ?_, fun hset he hs => ?_, fun hset he hs => ?_⟩
  · rw [hchord, chordTested_of_empty hset]
    split
    · exact ⟨rfl, .inr rfl⟩
    · exact ⟨rfl, .inl rfl⟩
  · rw [hchord, if_neg (hstarted hset (hexact.2 he)), chordTested_of_spent hset (hexact.2 he) hs]
  · have hno := hstarted hset (hexact.2 he)
    rw [if_neg hno] at hchord hemits
    split
    · rename_i ht
      rw [hchord, chordTested_starts hset (hexact.2 he) hs ht]
    · rename_i t ht
      rw [hchord, chordTested_runs hset (hexact.2 he) hs ht]
      split
      · exact ⟨rfl, takeScan_told (hemits _ (chordEmits_of_exact hset (hexact.2 he) hs ht ‹_› i))⟩
      · rfl
  · have hno := Bool.eq_false_iff.2 fun h => he (hexact.1 h)
    rw [hchord, chordTested_of_not_exact hset hno]
    split
    · exact hs
    · exact hs
  · have hno := Bool.eq_false_iff.2 fun h => he (hexact.1 h)
    rw [hchord]
    obtain ⟨hspent, hstart⟩ := chordTested_waits (c := s.settings.keypad) (now := s.time.ms)
      (u := (scanHeld s.settings s.time.ms (s.zoneTemp .n0) raws s.ksu).ksu)
      (r := if s.ksu.suppressed = false ∧ scanSuppressed s.settings.keypad s.time.ms raws s.ksu = true then
        { s.ksu.chords.get i with start := none } else s.ksu.chords.get i) hset hno (by split <;> exact hs)
    simp only [scanHeld_held hsize] at hspent
    refine ⟨hspent, fun hnone => ?_⟩
    rw [hstart]
    split
    · rfl
    · exact hnone

end Sys2Proof.Proofs

namespace Sys2Proof.Machine
open Sys2Proof.Safety

/-! ### The inbox and KEQ after a list has been handed on (R140 to R142, R149) -/

/-- The inbox grows by events of the list. -/
theorem emitAll_inbox (es : List Emit) (s : State) :
    ∃ told, (emitAll es s).tmx.inbox = s.tmx.inbox ++ told ∧ ∀ e ∈ told, Emit.post e ∈ es := by
  induction es generalizing s with
  | nil => exact ⟨[], by simp, by simp⟩
  | cons e es ih =>
    have hemit : ∃ told, (emit e s).tmx.inbox = s.tmx.inbox ++ told ∧ ∀ x ∈ told, Emit.post x = e := by
      cases e with
      | post x =>
        by_cases hroom : s.tmx.inbox.length < Config.inboxSize
        · exact ⟨[x], by rw [emit, post_of_room x s hroom]; rfl, by simp⟩
        · exact ⟨[], by rw [emit, post_of_full x s hroom, raise_tmx, List.append_nil], by simp⟩
      | offer r => exact ⟨[], by rw [emit, offer_tmx, List.append_nil], by simp⟩
      | raise c => exact ⟨[], by rw [emit, raise_tmx, List.append_nil], by simp⟩
      | endCause c => exact ⟨[], (List.append_nil _).symm, by simp⟩
      | notify b => exact ⟨[], by rw [emit, notify_tmx, List.append_nil], by simp⟩
    obtain ⟨first, hfirst, hpost⟩ := hemit
    obtain ⟨rest, hrest, hin⟩ := ih (emit e s)
    refine ⟨first ++ rest, by rw [emitAll_cons, hrest, hfirst, List.append_assoc], fun x hx => ?_⟩
    rcases List.mem_append.1 hx with h | h
    · exact List.mem_cons.2 (.inl (hpost x h))
    · exact List.mem_cons_of_mem _ (hin x h)

/-- KEQ after one thing has been handed on. -/
def keqThen (q : Keq) : Emit → Keq
  | .offer r => if q.seen.takesKeys then (offerOpen r q).1 else q
  | .post _ | .raise _ | .endCause _ | .notify _ => q

/-- KEQ after a list has been handed on. -/
def keqAfter (es : List Emit) (q : Keq) : Keq := es.foldl keqThen q

theorem emit_keq (e : Emit) (s : State) : (emit e s).keq = keqThen s.keq e := by
  cases e with
  | post e => exact post_keq e s
  | offer r =>
    change (offer r s).keq = _
    unfold offer keqThen
    split
    · dsimp only
      split
      · rw [raise_keq]; rfl
      · rfl
    · rfl
  | raise c => exact raise_keq c s
  | endCause c => rfl
  | notify b => exact notify_keq b s

theorem emitAll_keq (es : List Emit) (s : State) : (emitAll es s).keq = keqAfter es s.keq := by
  induction es generalizing s with
  | nil => rfl
  | cons e es ih => rw [emitAll_cons, ih, emit_keq]; rfl

theorem keqAfter_append (es fs : List Emit) (q : Keq) : keqAfter (es ++ fs) q = keqAfter fs (keqAfter es q) :=
  List.foldl_append

theorem keqAfter_cons (e : Emit) (es : List Emit) (q : Keq) : keqAfter (e :: es) q = keqAfter es (keqThen q e) := rfl

theorem keqThen_offer (q : Keq) (r : KeyEvent) :
    keqThen q (.offer r) = if q.seen.takesKeys then (offerOpen r q).1 else q := rfl

/-- What holds of KEQ and is kept by each offer of the list holds of it in the end. -/
theorem keqAfter_induction {P : Keq → Prop} {es : List Emit} {q : Keq} (h : P q)
    (hstep : ∀ r, Emit.offer r ∈ es → ∀ q', P q' → P (offerOpen r q').1) : P (keqAfter es q) := by
  induction es generalizing q with
  | nil => exact h
  | cons e es ih =>
    refine ih ?_ fun r hr => hstep r (List.mem_cons_of_mem _ hr)
    cases e with
    | offer r =>
      rw [keqThen_offer]
      split
      · exact hstep r List.mem_cons_self q h
      · exact h
    | post e => exact h
    | raise c => exact h
    | endCause c => exact h
    | notify b => exact h

theorem keqAfter_seen (es : List Emit) (q : Keq) : (keqAfter es q).seen = q.seen :=
  keqAfter_induction (P := fun q' => q'.seen = q.seen) rfl fun r _ q' h => (offerOpen_seen r q').trans h

/-- A list without an offer leaves KEQ alone. -/
theorem keqAfter_of_no_offer {es : List Emit} (h : ∀ r, Emit.offer r ∉ es) (q : Keq) : keqAfter es q = q :=
  keqAfter_induction (P := fun q' => q' = q) rfl fun r hr => absurd hr (h r)

/-! #### One offer (R140 to R142) -/

/-- What an offer makes of the open set: a PRESS opens its key at most, a RELEASE closes it (R139). -/
theorem offerOpen_openKeys (r : KeyEvent) (q : Keq) :
    ((offerOpen r q).1.openKeys = q.openKeys ∧ ∀ a b, r.kind = .release a b → r.key ∉ q.openKeys) ∨
    (r.kind = .press ∧ r.key ∉ q.openKeys ∧ (offerOpen r q).1.openKeys = q.openKeys ++ [r.key]) ∨
    ((∃ a b, r.kind = .release a b) ∧ (offerOpen r q).1.openKeys = q.openKeys.erase r.key) := by
  unfold offerOpen keepKey
  cases hk : r.kind with
  | press =>
    dsimp only
    split
    · by_cases hin : r.key ∈ q.openKeys
      · exact .inl ⟨if_pos (List.contains_iff_mem.2 hin), by simp⟩
      · exact .inr (.inl ⟨rfl, hin, if_neg (by simpa using hin)⟩)
    · exact .inl ⟨rfl, by simp⟩
  | hold n =>
    refine .inl ⟨?_, by simp⟩
    dsimp only
    split
    · rfl
    · split <;> rfl
  | release a b =>
    dsimp only
    split
    · exact .inr (.inr ⟨⟨a, b, rfl⟩, rfl⟩)
    · rename_i hin
      exact .inl ⟨rfl, fun _ _ _ => by simpa using hin⟩

/-- An offer names no key twice in the open set (R139). -/
theorem offerOpen_nodup (r : KeyEvent) {q : Keq} (h : q.openKeys.Nodup) : (offerOpen r q).1.openKeys.Nodup := by
  rcases offerOpen_openKeys r q with ⟨ho, -⟩ | ⟨-, hn, ho⟩ | ⟨-, ho⟩ <;> rw [ho]
  · exact h
  · exact List.nodup_append.2 ⟨h, List.nodup_singleton _, fun a ha b hb hab => hn (by
      rw [List.mem_singleton] at hb
      rwa [← hb, ← hab])⟩
  · exact h.erase _

theorem keqAfter_nodup (es : List Emit) {q : Keq} (h : q.openKeys.Nodup) : (keqAfter es q).openKeys.Nodup :=
  keqAfter_induction (P := fun q' => q'.openKeys.Nodup) h fun r _ _ => offerOpen_nodup r

/-- No PRESS of the key is among what is handed on. -/
def NoPressOf (k : Nat) (es : List Emit) : Prop := ∀ r, Emit.offer r ∈ es → r.key = k → r.kind ≠ .press

/-- A key that is not open stays so where no PRESS of it is offered (R139). -/
theorem keqAfter_closed_of_no_press {k : Nat} {es : List Emit} (h : NoPressOf k es) {q : Keq}
    (hq : k ∉ q.openKeys) : k ∉ (keqAfter es q).openKeys :=
  keqAfter_induction (P := fun q' => k ∉ q'.openKeys) hq fun r hr q' hq' => by
    rcases offerOpen_openKeys r q' with ⟨ho, -⟩ | ⟨hp, -, ho⟩ | ⟨-, ho⟩ <;> rw [ho]
    · exact hq'
    · have hne : k ≠ r.key := fun hkr => h r hr hkr.symm hp
      simpa [hne] using hq'
    · exact fun hm => hq' (List.mem_of_mem_erase hm)

/-- A key whose RELEASE is offered is closed, where no PRESS of it is offered (R139). -/
theorem keqAfter_closed {k : Nat} {a b : Bool} {time : Word16} {es : List Emit}
    (hrel : Emit.offer ⟨k, .release a b, time⟩ ∈ es) (hpress : NoPressOf k es) {q : Keq}
    (hq : q.openKeys.Nodup) (htakes : q.seen.takesKeys = true) : k ∉ (keqAfter es q).openKeys := by
  obtain ⟨before, after, rfl⟩ := List.append_of_mem hrel
  rw [keqAfter_append, keqAfter_cons]
  refine keqAfter_closed_of_no_press (fun r hr => hpress r (by simp [hr])) ?_
  have hnodup := keqAfter_nodup before hq
  rw [keqThen_offer, if_pos (by rw [keqAfter_seen]; exact htakes)]
  rcases offerOpen_openKeys ⟨k, .release a b, time⟩ (keqAfter before q) with ⟨ho, hn⟩ | ⟨hp, -⟩ | ⟨-, ho⟩
  · rw [ho]; exact hn a b rfl
  · cases hp
  · rw [ho]; exact fun hm => ((hnodup.mem_erase_iff).1 hm).1 rfl

/-! #### What concerns other keys (R139 to R142) -/

/-- What is handed on does not concern the key: no event KEY_PRESS, KEY_RELEASE or KEY_HOLD with its index, and no
record of it. -/
def Emit.spares (k : Nat) : Emit → Prop
  | .post e => e.cls = .keyPress ∨ e.cls = .keyRelease ∨ e.cls = .keyHold → e.index ≠ BitVec.ofNat 8 k
  | .offer r => r.key ≠ k
  | .raise _ | .endCause _ | .notify _ => True

theorem filter_bumpHold {k j : Nat} (h : j ≠ k) (l : List KeyEvent) :
    (bumpHold j l).filter (·.key == k) = l.filter (·.key == k) := by
  induction l with
  | nil => rfl
  | cons r l ih =>
    unfold bumpHold
    split
    · split
      · rename_i hr
        have hrk : (r.key == k) = false := beq_eq_false_iff_ne.2 (hr ▸ h)
        rw [List.filter_cons_of_neg (by simpa using hrk), List.filter_cons_of_neg (by simpa using hrk)]
      · rw [List.filter_cons, List.filter_cons, ih]
    · rw [List.filter_cons, List.filter_cons, ih]

/-- An offer of another key leaves the key's records, and whether it is open. -/
theorem offerOpen_of_other {r : KeyEvent} {k : Nat} (h : r.key ≠ k) (q : Keq) :
    (offerOpen r q).1.queue.filter (·.key == k) = q.queue.filter (·.key == k) ∧
      (k ∈ (offerOpen r q).1.openKeys ↔ k ∈ q.openKeys) := by
  have hkept : (keepKey r q).queue.filter (·.key == k) = q.queue.filter (·.key == k) := by
    simp [keepKey, h]
  constructor
  · unfold offerOpen
    split
    · split
      · exact hkept
      · rfl
    · split
      · dsimp only
        rw [List.filter_reverse, filter_bumpHold h, List.filter_reverse, List.reverse_reverse]
      · split
        · exact hkept
        · rfl
    · split
      · exact hkept
      · rfl
  · rcases offerOpen_openKeys r q with ⟨ho, -⟩ | ⟨-, -, ho⟩ | ⟨-, ho⟩ <;> rw [ho]
    · simp [Ne.symm h]
    · exact List.mem_erase_of_ne (Ne.symm h)

/-- What concerns other keys leaves the key's records, and whether it is open. -/
theorem keqAfter_of_spares {k : Nat} {es : List Emit} (h : ∀ e ∈ es, e.spares k) (q : Keq) :
    (keqAfter es q).queue.filter (·.key == k) = q.queue.filter (·.key == k) ∧
      (k ∈ (keqAfter es q).openKeys ↔ k ∈ q.openKeys) :=
  keqAfter_induction (P := fun q' => q'.queue.filter (·.key == k) = q.queue.filter (·.key == k) ∧
    (k ∈ q'.openKeys ↔ k ∈ q.openKeys)) ⟨rfl, .rfl⟩ fun r hr q' hq' => by
      obtain ⟨hqueue, hopen⟩ := offerOpen_of_other (h _ hr) q'
      exact ⟨hqueue.trans hq'.1, hopen.trans hq'.2⟩

end Sys2Proof.Machine

namespace Sys2Proof.Machine
open Sys2Proof.Safety

/-! ### What a scan hands on, key by key (R132) -/

/-- Of lists handed on for each key, that of one key stands between those of others. -/
theorem flatMap_range_split {α : Type} {n k : Nat} (hk : k < n) (f : Nat → List α) :
    ∃ before after, (List.range n).flatMap f = before ++ f k ++ after ∧
      ∀ a ∈ before ++ after, ∃ j < n, j ≠ k ∧ a ∈ f j := by
  obtain ⟨ls, rs, hsplit⟩ := List.append_of_mem (List.mem_range.2 hk)
  have hnodup : (ls ++ k :: rs).Nodup := hsplit ▸ List.nodup_range
  have hmem (j : Nat) (hj : j ∈ ls ∨ j ∈ rs) : j < n ∧ j ≠ k := by
    refine ⟨List.mem_range.1 (by rw [hsplit]; simp only [List.mem_append, List.mem_cons]; tauto), ?_⟩
    rintro rfl
    rw [List.nodup_middle, List.nodup_cons] at hnodup
    exact hnodup.1 (List.mem_append.2 hj)
  refine ⟨ls.flatMap f, rs.flatMap f, by rw [hsplit]; simp, fun a ha => ?_⟩
  rw [← List.flatMap_append] at ha
  obtain ⟨j, hj, ha⟩ := List.mem_flatMap.1 ha
  exact ⟨j, (hmem j (List.mem_append.1 hj)).1, (hmem j (List.mem_append.1 hj)).2, ha⟩

/-- Where only one key hands something on, the list is that key's. -/
theorem flatMap_range_single {α : Type} {n k : Nat} (hk : k < n) {f : Nat → List α}
    (h : ∀ j < n, j ≠ k → f j = []) : (List.range n).flatMap f = f k := by
  obtain ⟨before, after, heq, hmem⟩ := flatMap_range_split hk f
  have hnil (l : List α) (hl : ∀ a ∈ l, a ∈ before ++ after) : l = [] := by
    refine List.eq_nil_iff_forall_not_mem.2 fun a ha => ?_
    obtain ⟨j, hj, hjk, haj⟩ := hmem a (hl a ha)
    rw [h j hj hjk] at haj
    cases haj
  rw [heq, hnil before fun a ha => List.mem_append_left _ ha, hnil after fun a ha => List.mem_append_right _ ha]
  simp

theorem ofNat_byte_ne {j k : Nat} (hj : j < 20) (hk : k < 20) (h : j ≠ k) : BitVec.ofNat 8 j ≠ BitVec.ofNat 8 k := by
  intro he
  have := congrArg BitVec.toNat he
  simp only [BitVec.toNat_ofNat] at this
  omega

/-- What is handed on for one key. -/
inductive Emit.isOf (j : Nat) : Emit → Prop
  | event {c : EventClass} {arg : Int} (h : c = .keyPress ∨ c = .keyRelease ∨ c = .keyHold) :
    Emit.isOf j (.post (Machine.event c j arg))
  | record {kind : KeyKind} {time : Word16} : Emit.isOf j (.offer ⟨j, kind, time⟩)
  | stuck : Emit.isOf j (.raise .keyStuck)

theorem Emit.isOf.spares {e : Emit} {j k : Nat} (h : e.isOf j) (hj : j < 20) (hk : k < 20) (hne : j ≠ k) :
    e.spares k := by
  cases h with
  | event => exact fun _ => ofNat_byte_ne hj hk hne
  | record => exact hne
  | stuck => trivial

/-- No live cause is ended for a key. -/
theorem Emit.isOf.ne_endCause {e : Emit} {j : Nat} (h : e.isOf j) (c : Cond) : e ≠ .endCause c := by
  cases h <;> simp

theorem releaseEmits_isOf (now : Word32) (k : Nat) (r : KeyRec) (a b : Bool) :
    ∀ e ∈ releaseEmits now k r a b, e.isOf k := by
  intro e he
  rcases List.mem_pair.1 he with rfl | rfl
  · exact .event (by simp)
  · exact .record

theorem stepEmits_isOf (c : KeypadSettings) (now : Word32) (raws : List Nat) (u : Ksu) (k : Nat) :
    ∀ e ∈ stepEmits c now raws u k, e.isOf k := by
  unfold stepEmits
  split
  · exact releaseEmits_isOf _ _ _ _ _
  · simp

theorem silenceEmits_isOf (now : Word32) (k : Nat) (r : KeyRec) : ∀ e ∈ silenceEmits now k r, e.isOf k := by
  unfold silenceEmits
  split
  · exact releaseEmits_isOf _ _ _ _ _
  · simp

theorem pressEmits_isOf (s : Bool) (now : Word32) (k : Nat) (r : KeyRec) : ∀ e ∈ pressEmits s now k r, e.isOf k := by
  intro e he
  unfold pressEmits at he
  split at he
  · rcases List.mem_pair.1 he with rfl | rfl
    · exact .event (by simp)
    · exact .record
  · cases he

theorem heldEmits_isOf (c : KeypadSettings) (rep : Bool) (now : Word32) (k : Nat) (r : KeyRec) :
    ∀ e ∈ heldEmits c rep now k r, e.isOf k := by
  intro e he
  unfold heldEmits at he
  split at he
  · split at he
    · rcases List.mem_append.1 he with he | he
      · exact releaseEmits_isOf now k r false true e he
      · rw [List.mem_singleton.1 he]
        exact .stuck
    · split at he
      · rcases List.mem_pair.1 he with rfl | rfl
        · exact .event (by simp)
        · exact .record
      · cases he
  · cases he

theorem holdEmits_isOf (c : Settings) (now : Word32) (raws : List Nat) (u : Ksu) (k : Nat) :
    ∀ e ∈ holdEmits c now raws u k, e.isOf k := by
  unfold holdEmits
  split
  · exact heldEmits_isOf _ _ _ _ _
  · simp

theorem scanChordEmits_post {c : Settings} {now : Word32} {t0 : Option Int} {raws : List Nat} {u : Ksu} {e : Emit}
    (h : e ∈ scanChordEmits c now t0 raws u) : ∃ i arg, e = .post (event .chord i arg) := by
  obtain ⟨i, -, h⟩ := List.mem_flatMap.1 h
  exact ⟨_, _, List.mem_singleton.1 (List.mem_ite_nil_right.1 h).2⟩

theorem stuckEndEmits_eq {before : Bool} {u : Ksu} {e : Emit} (h : e ∈ stuckEndEmits before u) :
    e = .endCause .keyStuck := by
  unfold stuckEndEmits at h
  split at h
  · exact List.mem_singleton.1 h
  · cases h

/-- What a change of suppression hands on beside its keys' releases (R128, R130). -/
theorem changeEmits_cases {now : Word32} {cause : Nat} {before : Bool} {u : Ksu} {e : Emit}
    (h : e ∈ changeEmits now cause before u) :
    (∃ k < 20, e ∈ silenceEmits now k (u.key k)) ∨ e = .raise .suppressed ∨ e = .endCause .suppressed ∨
      ∃ arg, e = .post (event .suppress cause arg) := by
  unfold changeEmits at h
  split at h
  · rcases List.mem_append.1 h with h | h
    · obtain ⟨k, hk, h⟩ := List.mem_flatMap.1 h
      exact .inl ⟨k, List.mem_range.1 hk, h⟩
    · rcases List.mem_pair.1 h with rfl | rfl
      · exact .inr (.inl rfl)
      · exact .inr (.inr (.inr ⟨_, rfl⟩))
  · split at h
    · rcases List.mem_pair.1 h with rfl | rfl
      · exact .inr (.inr (.inr ⟨_, rfl⟩))
      · exact .inr (.inr (.inl rfl))
    · cases h

/-- What the keys other than `k` hand on in their turn concerns no `k`. -/
theorem flatMap_spares {k : Nat} (hk : k < 20) {f : Nat → List Emit} (hf : ∀ j, ∀ e ∈ f j, e.isOf j)
    (hnil : f k = []) : ∀ e ∈ (List.range 20).flatMap f, e.spares k := by
  intro e he
  obtain ⟨j, hj, he⟩ := List.mem_flatMap.1 he
  by_cases hjk : j = k
  · rw [hjk, hnil] at he
    cases he
  · exact (hf j e he).spares (List.mem_range.1 hj) hk hjk

theorem stuckEndEmits_spares (before : Bool) (u : Ksu) (k : Nat) : ∀ e ∈ stuckEndEmits before u, e.spares k := by
  intro e he
  rw [stuckEndEmits_eq he]
  trivial

theorem scanChordEmits_spares (c : Settings) (now : Word32) (t0 : Option Int) (raws : List Nat) (u : Ksu) (k : Nat) :
    ∀ e ∈ scanChordEmits c now t0 raws u, e.spares k := by
  intro e he
  obtain ⟨i, arg, rfl⟩ := scanChordEmits_post he
  simp [Emit.spares, event]

theorem changeEmits_spares {now : Word32} {cause : Nat} {before : Bool} {u : Ksu} {k : Nat} (hk : k < 20)
    (hnot : (u.key k).state.held = false) : ∀ e ∈ changeEmits now cause before u, e.spares k := by
  intro e he
  rcases changeEmits_cases he with ⟨j, hj, he⟩ | rfl | rfl | ⟨arg, rfl⟩
  · by_cases hjk : j = k
    · rw [hjk, silenceEmits, if_neg (by simp [hnot])] at he
      cases he
    · exact (silenceEmits_isOf now j (u.key j) e he).spares hj hk hjk
  · trivial
  · trivial
  · simp [Emit.spares, event]

theorem changeEmits_same (now : Word32) (cause : Nat) {before : Bool} {u : Ksu} (h : u.suppressed = before) :
    changeEmits now cause before u = [] := by
  unfold changeEmits
  cases before <;> simp [h]

/-! ### Deltas and the cover count (R118, R127) -/

/-- A delta at or above a threshold is one of the raw count against the baseline as it was (R117, R119, R120). -/
theorem le_measured_delta_iff {c : KeypadSettings} {thr b : Nat} (hthr : 1 ≤ thr) {due : Retake} {raw : Nat}
    {r : KeyRec} (hb : r.baseline = some b) : (thr : Int) ≤ (measured c due raw r).delta ↔
      raw + thr ≤ b ∧ retakeNames due r.state = false := by
  rw [measured_eq]
  dsimp only
  rw [measuredBase, hb]
  dsimp only
  cases hn : retakeNames due r.state
  · by_cases ha : r.state ≠ .pressed ∧ b + c.touchThr < raw
    · rw [if_pos (.inr ha)]
      constructor
      · intro h; omega
      · rintro ⟨h, -⟩; omega
    · rw [if_neg (by simpa using ha)]
      constructor
      · intro h; exact ⟨by omega, rfl⟩
      · rintro ⟨h, -⟩; omega
  · rw [if_pos (.inl rfl)]
    constructor
    · intro h; omega
    · rintro ⟨-, h⟩; cases h

theorem retakeNames_of_held {st : KeyState} (h : st.held = true) (due : Retake) : retakeNames due st = false := by
  rcases (held_iff st).1 h with rfl | rfl <;> cases due <;> rfl

/-- Step 5 counts a key that is pending or pressed (R127). -/
def KeyState.counts (st : KeyState) : Bool := st == .pendingPress || st == .pressed

theorem stepped_counts {c : KeypadSettings} (hranges : ScanRanges c) {k : Nat} (hk : k < c.keysFitted) (now : Word32)
    (raws : List Nat) {u : Ksu} (hunmeasured : (u.key k).baseline = none → (u.key k).state = .idle) :
    (stepped c now raws u k).state.counts = countsForCover c u.retake (raws.getD k 0) (u.key k) := by
  rw [stepped, if_pos hk]
  generalize u.key k = r at hunmeasured
  generalize raws.getD k 0 = raw
  unfold countsForCover
  cases hb : r.baseline with
  | none =>
    have hdelta : (measured c u.retake raw r).delta = 0 := by
      rw [measured_eq, measuredBase, hb]; simp
    have htouch := hranges.touch
    rw [debounced_idle (by rw [measured_state]; exact hunmeasured hb), if_neg (by omega), measured_state,
      hunmeasured hb]
    rfl
  | some b =>
    have htouch := le_measured_delta_iff (c := c) (due := u.retake) (raw := raw) hranges.touch hb
    have hrelease := le_measured_delta_iff (c := c) (due := u.retake) (raw := raw) hranges.release hb
    have hidle : (u.retake == .none) = !retakeNames u.retake .idle := by cases u.retake <;> rfl
    have hpending : (u.retake != .allKeys) = !retakeNames u.retake .pendingPress := by cases u.retake <;> rfl
    cases hs : r.state with
    | idle =>
      rw [hs] at htouch
      rw [debounced_idle (by rw [measured_state]; exact hs)]
      dsimp only
      rw [hidle]
      by_cases h : (c.touchThr : Int) ≤ (measured c u.retake raw r).delta
      · rw [if_pos h]
        simp [KeyState.counts, htouch.1 h]
      · rw [if_neg h, measured_state, hs]
        have hno := mt htouch.2 h
        change false = _
        rw [eq_comm]
        simpa using hno
    | pendingPress =>
      rw [hs] at htouch
      rw [debounced_pendingPress (by rw [measured_state]; exact hs)]
      dsimp only
      rw [hpending]
      by_cases h : (c.touchThr : Int) ≤ (measured c u.retake raw r).delta
      · rw [if_pos h, measured_state, hs]
        simp [KeyState.counts, htouch.1 h]
      · rw [if_neg h]
        have hno := mt htouch.2 h
        change false = _
        rw [eq_comm]
        simpa using hno
    | pressed | pendingRelease =>
      have hheld : r.state.held = true := by rw [hs]; rfl
      rw [debounced_held (by rw [measured_state]; exact hheld)]
      by_cases h : (c.releaseThr : Int) ≤ (measured c u.retake raw r).delta
      · rw [if_pos h]
        simp [KeyState.counts, (hrelease.1 h).1]
      · rw [if_neg h]
        have hlt : ¬ raw + c.releaseThr ≤ b := fun hle => h (hrelease.2 ⟨hle, retakeNames_of_held hheld _⟩)
        split <;> simp [KeyState.counts, KeyRec.toIdle, hlt]
    | quarantined =>
      rw [debounced_quarantined (by rw [measured_state]; exact hs)]
      rcases stepQuarantined_cases c now (measured c u.retake raw r) with ⟨q, h⟩ | h
      · rw [h]; simp [KeyState.counts, hs]
      · rw [h]; rfl

/-- The cover count of a scan, by the keys as they were (R127). -/
theorem coverCount_scan {s : State} (h : PadOk s) (hranges : ScanRanges s.settings.keypad) (raws : List Nat) :
    coverCount s.settings.keypad (scanDebounced s.settings.keypad s.time.ms raws s.ksu).ksu = coverCountOf raws s := by
  obtain ⟨hsize, hkeys⟩ := (padOk_iff s).1 h
  have hfitted : s.settings.keypad.keysFitted ≤ 20 := hranges.fitted
  have hdone := scanDebounced_done hsize s.settings.keypad s.time.ms raws
  rw [coverCount, countKeys_eq (by rw [hdone.length]; omega), coverCountOf]
  congr 1
  refine List.filter_congr fun k hk => ?_
  have hlt := List.mem_range.1 hk
  rw [hdone.key k (by omega)]
  exact stepped_counts hranges hlt s.time.ms raws (hkeys k (by omega)).2.2.2

/-- Cover and its fall time after a scan (R127). -/
theorem scanJudged_cover {u : Ksu} (hu : u.keys.length = 20) (c : KeypadSettings) (now : Word32) (raws : List Nat) :
    (scanJudged c now raws u).cover =
      coverJudged c now (decide (c.maxTouch < coverCount c (scanDebounced c now raws u).ksu)) u ∧
    (scanJudged c now raws u).coverFall =
      coverFallJudged c now (decide (c.maxTouch < coverCount c (scanDebounced c now raws u).ksu)) u := by
  have hdone := scanDebounced_done hu c now raws
  have hcover : (scanDebounced c now raws u).ksu.cover = u.cover := by rw [hdone.others]
  have hfall : (scanDebounced c now raws u).ksu.coverFall = u.coverFall := by rw [hdone.others]
  unfold scanJudged Ksu.withCover coverJudged coverFallJudged
  rw [hcover, hfall]
  exact ⟨rfl, rfl⟩

/-- With few keys touched, suppression that is inactive stays so (R127, R128). -/
theorem scanSuppressed_of_few {u : Ksu} (hu : u.keys.length = 20) {c : KeypadSettings} {now : Word32}
    {raws : List Nat} (hs : u.suppressed = false)
    (hfew : coverCount c (scanDebounced c now raws u).ksu ≤ c.maxTouch) : scanSuppressed c now raws u = false := by
  obtain ⟨hcond, hfrost, -⟩ := scanJudged_fields hu c now raws
  simp only [Ksu.suppressed, Bool.or_eq_false_iff] at hs
  obtain ⟨⟨hc, hf⟩, hcov⟩ := hs
  rw [scanSuppressed, Ksu.suppressed, hcond, hfrost, (scanJudged_cover hu c now raws).1, coverJudged, hc, hf, hcov,
    decide_eq_false (by omega)]
  rfl

end Sys2Proof.Machine

namespace Sys2Proof.Machine
open Sys2Proof.Safety

/-! ### One key's part in what a scan hands on (R132) -/

theorem scanOut_eq {s : State} (h : s.ksu.keys.length = 20) (raws : List Nat) : scanOut raws s =
    coverEmits s.settings.keypad s.time.ms raws s.ksu ++ touchEmits s.settings s.time.ms raws s.ksu ++
      scanChordEmits s.settings s.time.ms (s.zoneTemp .n0) raws s.ksu := (takeScan_done h raws).out

theorem pressEmits_of_not_due {r : KeyRec} (h : r.due = false) (s : Bool) (now : Word32) (k : Nat) :
    pressEmits s now k r = [] := if_neg (by simp [h])

theorem heldEmits_of_not_held {r : KeyRec} (h : r.state.held = false) (c : KeypadSettings) (rep : Bool) (now : Word32)
    (k : Nat) : heldEmits c rep now k r = [] := if_neg (by simp [h])

/-- A release that step 4 makes is handed on. -/
theorem stepEmits_scanOut {s : State} (h : s.ksu.keys.length = 20) {raws : List Nat} {k : Nat} (hk : k < 20) {e : Emit}
    (he : e ∈ stepEmits s.settings.keypad s.time.ms raws s.ksu k) : e ∈ scanOut raws s := by
  rw [scanOut_eq h, coverEmits]
  simp only [List.mem_append]
  exact .inl (.inl (.inl (.inl (List.mem_flatMap.2 ⟨k, List.mem_range.2 hk, he⟩))))

/-- A change of suppression is handed on. -/
theorem changeEmits_scanOut {s : State} (h : s.ksu.keys.length = 20) {raws : List Nat} {e : Emit}
    (he : e ∈ changeEmits s.time.ms 2 s.ksu.suppressed (scanJudged s.settings.keypad s.time.ms raws s.ksu)) :
    e ∈ scanOut raws s := by
  rw [scanOut_eq h, coverEmits]
  simp only [List.mem_append]
  exact .inl (.inl (.inr he))

/-- Where a key hands nothing on before step 7, what it gives there stands between what concerns others; nothing
after it ends a live cause. -/
theorem scanOut_split {s : State} (h : s.ksu.keys.length = 20) {raws : List Nat} {k : Nat} (hk : k < 20)
    (hstep : stepEmits s.settings.keypad s.time.ms raws s.ksu k = [])
    (hjudged : ((scanJudged s.settings.keypad s.time.ms raws s.ksu).key k).state.held = false ∨
      scanSuppressed s.settings.keypad s.time.ms raws s.ksu = s.ksu.suppressed)
    (hdue : (covered s.settings.keypad s.time.ms raws s.ksu k).due = false) :
    ∃ before after, scanOut raws s = before ++ holdEmits s.settings s.time.ms raws s.ksu k ++ after ∧
      (∀ e ∈ before, e.spares k) ∧ (∀ e ∈ after, e.spares k) ∧ ∀ e ∈ after, ∀ c, e ≠ .endCause c := by
  obtain ⟨held, rest, hsplit, hothers⟩ := flatMap_range_split hk (holdEmits s.settings s.time.ms raws s.ksu)
  have hheld : ∀ e ∈ held ++ rest, e.spares k ∧ ∀ c, e ≠ .endCause c := fun e he => by
    obtain ⟨j, hj, hjk, he⟩ := hothers e he
    have hof := holdEmits_isOf s.settings s.time.ms raws s.ksu j e he
    exact ⟨hof.spares hj hk hjk, hof.ne_endCause⟩
  have hchange : ∀ e ∈ changeEmits s.time.ms 2 s.ksu.suppressed (scanJudged s.settings.keypad s.time.ms raws s.ksu),
      e.spares k := by
    rcases hjudged with hnot | hsame
    · exact changeEmits_spares hk hnot
    · rw [changeEmits_same _ _ hsame]
      simp
  refine ⟨coverEmits s.settings.keypad s.time.ms raws s.ksu ++
      ((List.range 20).flatMap fun j => pressEmits (scanSuppressed s.settings.keypad s.time.ms raws s.ksu) s.time.ms j
        (covered s.settings.keypad s.time.ms raws s.ksu j)) ++ held,
    rest ++ scanChordEmits s.settings s.time.ms (s.zoneTemp .n0) raws s.ksu, ?_, ?_, ?_, ?_⟩
  · rw [scanOut_eq h, touchEmits, hsplit]
    simp only [List.append_assoc]
  · intro e he
    simp only [List.mem_append, coverEmits] at he
    rcases he with (((he | he) | he) | he) | he
    · exact flatMap_spares hk (stepEmits_isOf _ _ _ _) hstep e he
    · exact stuckEndEmits_spares _ _ k e he
    · exact hchange e he
    · exact flatMap_spares hk (fun j => pressEmits_isOf _ _ j _) (pressEmits_of_not_due hdue _ _ _) e he
    · exact (hheld e (List.mem_append_left _ he)).1
  · intro e he
    rcases List.mem_append.1 he with he | he
    · exact (hheld e (List.mem_append_right _ he)).1
    · exact scanChordEmits_spares _ _ _ _ _ k e he
  · intro e he c
    rcases List.mem_append.1 he with he | he
    · exact (hheld e (List.mem_append_right _ he)).2 c
    · obtain ⟨i, arg, rfl⟩ := scanChordEmits_post he
      simp

theorem ScanDone.key_fields {c : Settings} {now : Word32} {t0 : Option Int} {raws : List Nat} {u : Ksu} {p : Pad}
    (h : ScanDone c now t0 raws u p) {k : Nat} (hk : k < 20) :
    p.ksu.key k = { settled c now raws u k with baseline := (p.ksu.key k).baseline } := by
  rcases h.key_cases hk with he | ⟨he, -⟩
  · rw [he]
  · rw [he]
    exact (driftKey_fields _).1

/-! ### A held key in a scan without suppression (R118, R122 to R124) -/

section
variable {c : Settings} {now : Word32} {raws : List Nat} {u : Ksu} {k b : Nat}

/-- Step 4 for a held key, by the raw count against its baseline (R118, R122; log entry 15). -/
theorem stepped_of_held (hk : k < c.keypad.keysFitted) (hrelease : 1 ≤ c.keypad.releaseThr)
    (hb : (u.key k).baseline = some b) (hheld : (u.key k).state.held = true) : stepped c.keypad now raws u k =
      if raws.getD k 0 + c.keypad.releaseThr ≤ b then
        { measured c.keypad u.retake (raws.getD k 0) (u.key k) with
          state := .pressed, releaseRun := if (u.key k).state = .pressed then (u.key k).releaseRun else 0 }
      else if c.keypad.releaseCount ≤ nextReleaseRun (u.key k) then
        (measured c.keypad u.retake (raws.getD k 0) (u.key k)).toIdle
      else
        { measured c.keypad u.retake (raws.getD k 0) (u.key k) with
          state := .pendingRelease, releaseRun := nextReleaseRun (u.key k) } := by
  have hdelta := le_measured_delta_iff (c := c.keypad) (due := u.retake) (raw := raws.getD k 0) hrelease hb
  have hrun : nextReleaseRun (measured c.keypad u.retake (raws.getD k 0) (u.key k)) = nextReleaseRun (u.key k) := by
    rw [measured_eq]; rfl
  rw [stepped, if_pos hk, debounced_held (by rw [measured_state]; exact hheld), hrun, measured_state]
  refine if_congr (hdelta.trans (and_iff_left (retakeNames_of_held hheld _))) ?_ rfl
  rw [measured_eq]

/-- The scan releases a held key that is no longer held on (R118, R122). -/
theorem releasesNow_iff_not_heldOn (hrelease : 1 ≤ c.keypad.releaseThr) (hb : (u.key k).baseline = some b)
    (hheld : (u.key k).state.held = true) :
    releasesNow c.keypad (measured c.keypad u.retake (raws.getD k 0) (u.key k)) = true ↔
      ¬ HeldOn c.keypad (raws.getD k 0) b (u.key k) := by
  have hdelta := le_measured_delta_iff (c := c.keypad) (due := u.retake) (raw := raws.getD k 0) hrelease hb
  have hrun : nextReleaseRun (measured c.keypad u.retake (raws.getD k 0) (u.key k)) = nextReleaseRun (u.key k) := by
    rw [measured_eq]; rfl
  rw [releasesNow_held (by rw [measured_state]; exact hheld), hrun, hdelta,
    and_iff_left (retakeNames_of_held hheld _), HeldOn, not_or, Nat.not_lt]
  rfl

/-- What step 4 leaves of a held key goes to step 7 as it is, where suppression stays inactive. -/
theorem pressedAt_of_held (hk : k < c.keypad.keysFitted) (hrelease : 1 ≤ c.keypad.releaseThr)
    (hb : (u.key k).baseline = some b) (hheld : (u.key k).state.held = true) (hdue : (u.key k).due = false)
    (hsup : scanSuppressed c.keypad now raws u = false) :
    covered c.keypad now raws u k = stepped c.keypad now raws u k ∧ (stepped c.keypad now raws u k).due = false ∧
      pressedAt c.keypad now raws u k = stepped c.keypad now raws u k := by
  have hcovered : covered c.keypad now raws u k = stepped c.keypad now raws u k := if_neg (by simp [hsup])
  have hdue' : (stepped c.keypad now raws u k).due = false := by
    rw [stepped_of_held hk hrelease hb hheld, measured_eq]
    split
    · exact hdue
    · split
      · rfl
      · exact hdue
  exact ⟨hcovered, hdue', by rw [pressedAt, hcovered, pressed_of_not_due hdue']⟩

end

end Sys2Proof.Machine

namespace Sys2Proof.Machine
open Sys2Proof.Safety

/-! ### The release of a key at KEQ (R139, R140) -/

theorem keqAfter_of_release {k : Nat} {a b : Bool} {time : Word16} {q : Keq} (htakes : q.seen.takesKeys = true)
    (hopen : k ∈ q.openKeys) : keqThen q (.offer ⟨k, .release a b, time⟩) =
      { q with queue := q.queue ++ [⟨k, .release a b, time⟩], openKeys := q.openKeys.erase k } := by
  rw [keqThen_offer, if_pos htakes]
  change (if q.openKeys.contains k = true then _ else _ : Keq × Bool).1 = _
  rw [if_pos (List.contains_iff_mem.2 hopen)]
  rfl

/-- A RELEASE of an open key, offered among what concerns others, is in the queue in the end, and the key closed. -/
theorem keqAfter_release_among {k : Nat} {a b : Bool} {time : Word16} {before after : List Emit} {e : Event}
    {c : Cond} (hbefore : ∀ e ∈ before, e.spares k) (hafter : ∀ e ∈ after, e.spares k) {q : Keq}
    (hq : q.openKeys.Nodup) (htakes : q.seen.takesKeys = true) (hopen : k ∈ q.openKeys) :
    let q' := keqAfter (before ++ [.post e, .offer ⟨k, .release a b, time⟩, .raise c] ++ after) q
    ⟨k, .release a b, time⟩ ∈ q'.queue ∧ k ∉ q'.openKeys := by
  have hnodup := keqAfter_nodup before hq
  have hopen' := (keqAfter_of_spares hbefore q).2.2 hopen
  have hmid : keqAfter [.post e, .offer ⟨k, .release a b, time⟩, .raise c] (keqAfter before q) =
      keqThen (keqAfter before q) (.offer ⟨k, .release a b, time⟩) := rfl
  obtain ⟨hqueue, hkeys⟩ := keqAfter_of_spares hafter
    (keqThen (keqAfter before q) (.offer ⟨k, .release a b, time⟩))
  rw [keqAfter_of_release (by rw [keqAfter_seen]; exact htakes) hopen'] at hqueue hkeys hmid
  dsimp only
  rw [keqAfter_append, keqAfter_append, hmid]
  refine ⟨(List.mem_filter (p := (·.key == k))).1 ?_ |>.1, fun hin => ?_⟩
  · rw [hqueue]
    simp
  · exact ((hnodup.mem_erase_iff).1 (hkeys.1 hin)).1 rfl

/-- A live cause that is raised, and not ended after it, is present in the end. -/
theorem causeAfter_raised {c : Cond} (hlive : c.isLive = true) (before : List Emit) {after : List Emit}
    (h : Emit.endCause c ∉ after) (b : Bool) : causeAfter c (before ++ .raise c :: after) b = true := by
  rw [causeAfter_append]
  change causeAfter c after (causeThen c _ (.raise c)) = true
  simp only [causeThen, hlive, decide_true, Bool.and_self, Bool.or_true]
  exact causeAfter_of_true h

/-! ### A held key after a scan (R118, R122 to R124) -/

section
variable {s : State} {raws : List Nat} {k b : Nat}

/-- A fitted key is held before a scan in which suppression stays inactive. -/
structure HeldKey (s : State) (raws : List Nat) (k b : Nat) : Prop where
  pad : PadOk s
  inactive : s.ksu.suppressed = false
  stays : scanSuppressed s.settings.keypad s.time.ms raws s.ksu = false
  release : 1 ≤ s.settings.keypad.releaseThr
  key : k < 20
  fitted : k < s.settings.keypad.keysFitted
  baseline : (s.ksu.key k).baseline = some b
  held : (s.ksu.key k).state.held = true

theorem HeldKey.pressedAt (h : HeldKey s raws k b) :
    covered s.settings.keypad s.time.ms raws s.ksu k = stepped s.settings.keypad s.time.ms raws s.ksu k ∧
      (stepped s.settings.keypad s.time.ms raws s.ksu k).due = false ∧
      Machine.pressedAt s.settings.keypad s.time.ms raws s.ksu k =
        stepped s.settings.keypad s.time.ms raws s.ksu k :=
  pressedAt_of_held h.fitted h.release h.baseline h.held (((padOk_iff s).1 h.pad).2 k h.key).2.1 h.stays

/-- The key is released (R118, R122). -/
theorem takeScan_releases (h : HeldKey s raws k b)
    (hoff : ¬ HeldOn s.settings.keypad (raws.getD k 0) b (s.ksu.key k)) :
    Told (releaseEvent s k) (takeScan raws s) := by
  refine takeScan_told (stepEmits_scanOut h.pad.size h.key ?_)
  rw [stepEmits, if_pos ⟨h.fitted, (releasesNow_iff_not_heldOn h.release h.baseline h.held).2 hoff⟩,
    releaseEmits_congr (r := s.ksu.key k) (by rw [measured_eq])]
  exact List.mem_cons_self

/-- A held key that is no longer held on is IDLE after the scan (R122). -/
theorem settled_released (h : HeldKey s raws k b)
    (hoff : ¬ HeldOn s.settings.keypad (raws.getD k 0) b (s.ksu.key k)) :
    settled s.settings s.time.ms raws s.ksu k =
      (measured s.settings.keypad s.ksu.retake (raws.getD k 0) (s.ksu.key k)).toIdle := by
  obtain ⟨-, -, hpressed⟩ := h.pressedAt
  obtain ⟨hlow, hrun⟩ := not_or.1 hoff
  have hrun' : s.settings.keypad.releaseCount ≤ nextReleaseRun (s.ksu.key k) := not_lt.1 hrun
  rw [settled, if_pos h.fitted, hpressed, stepped_of_held h.fitted h.release h.baseline h.held, if_neg hlow,
    if_pos hrun']
  exact heldTested_of_not_held rfl _ _ _

/-- A held key that is held on, as step 4 leaves it (R118). -/
def heldOnRec (c : KeypadSettings) (raw b : Nat) (due : Retake) (r : KeyRec) : KeyRec :=
  { measured c due raw r with
    state := if raw + c.releaseThr ≤ b then .pressed else .pendingRelease
    releaseRun :=
      if r.state = .pressed then if raw + c.releaseThr ≤ b then r.releaseRun else 1
      else if raw + c.releaseThr ≤ b then 0 else r.releaseRun + 1 }

theorem heldOnRec_held (c : KeypadSettings) (raw b : Nat) (due : Retake) (r : KeyRec) :
    (heldOnRec c raw b due r).state.held = true := by
  unfold heldOnRec
  dsimp only
  split <;> rfl

theorem stepped_heldOn (h : HeldKey s raws k b) (hon : HeldOn s.settings.keypad (raws.getD k 0) b (s.ksu.key k)) :
    stepped s.settings.keypad s.time.ms raws s.ksu k =
      heldOnRec s.settings.keypad (raws.getD k 0) b s.ksu.retake (s.ksu.key k) := by
  rw [stepped_of_held h.fitted h.release h.baseline h.held]
  unfold heldOnRec
  by_cases hle : raws.getD k 0 + s.settings.keypad.releaseThr ≤ b
  · simp only [if_pos hle]
  · have hrun : ¬ s.settings.keypad.releaseCount ≤ nextReleaseRun (s.ksu.key k) := not_le.2 (hon.resolve_left hle)
    simp only [if_neg hle, if_neg hrun]
    rfl

/-- Step 7 gives the holds and the quarantine of a key held on, among what concerns others (R123, R124). -/
theorem scanOut_heldOn (h : HeldKey s raws k b) (hon : HeldOn s.settings.keypad (raws.getD k 0) b (s.ksu.key k)) :
    ∃ before after, scanOut raws s = before ++ heldEmits s.settings.keypad (s.settings.keyRepeat.getD k false)
        s.time.ms k (heldOnRec s.settings.keypad (raws.getD k 0) b s.ksu.retake (s.ksu.key k)) ++ after ∧
      (∀ e ∈ before, e.spares k) ∧ (∀ e ∈ after, e.spares k) ∧ ∀ e ∈ after, ∀ c, e ≠ .endCause c := by
  obtain ⟨hcovered, hdue, hpressed⟩ := h.pressedAt
  have hstep : stepEmits s.settings.keypad s.time.ms raws s.ksu k = [] :=
    if_neg fun he => (releasesNow_iff_not_heldOn h.release h.baseline h.held).1 he.2 hon
  have hsplit := scanOut_split h.pad.size h.key (raws := raws) hstep (.inr (by rw [h.stays, h.inactive]))
    (by rw [hcovered]; exact hdue)
  rwa [holdEmits, if_pos h.fitted, hpressed, stepped_heldOn h hon] at hsplit

theorem settled_heldOn (h : HeldKey s raws k b) (hon : HeldOn s.settings.keypad (raws.getD k 0) b (s.ksu.key k)) :
    settled s.settings s.time.ms raws s.ksu k =
      heldTested s.settings.keypad (s.settings.keyRepeat.getD k false) s.time.ms
        (heldOnRec s.settings.keypad (raws.getD k 0) b s.ksu.retake (s.ksu.key k)) := by
  obtain ⟨-, -, hpressed⟩ := h.pressedAt
  rw [settled, if_pos h.fitted, hpressed, stepped_heldOn h hon]

/-- A key held on is tested with the press time and the ordinal that it had. -/
theorem heldOnRec_times (c : KeypadSettings) (raw b : Nat) (due : Retake) (r : KeyRec) :
    (heldOnRec c raw b due r).pressTime = r.pressTime ∧ (heldOnRec c raw b due r).ordinal = r.ordinal := by
  unfold heldOnRec
  rw [measured_eq]
  exact ⟨rfl, rfl⟩

theorem isStuck_heldOnRec (c : KeypadSettings) (now : Word32) (raw b : Nat) (due : Retake) (r : KeyRec) :
    isStuck c now (heldOnRec c raw b due r) = isStuck c now r := by
  rw [isStuck, (heldOnRec_times c raw b due r).1]
  rfl

theorem holdsNow_heldOnRec (c : KeypadSettings) (rep : Bool) (now : Word32) (raw b : Nat) (due : Retake) (r : KeyRec) :
    holdsNow c rep now (heldOnRec c raw b due r) = holdsNow c rep now r := by
  obtain ⟨htime, hordinal⟩ := heldOnRec_times c raw b due r
  rw [holdsNow, htime, hordinal]
  rfl

end

/-! ### A quarantined key after a scan (R125) -/

section
variable {s : State} {raws : List Nat} {k b : Nat}

/-- A scan tells nothing of a key that was QUARANTINED, and offers no record of it (R125). -/
theorem scanOut_of_quarantined (hpad : PadOk s) (hk20 : k < 20) (hk : k < s.settings.keypad.keysFitted)
    (hq : (s.ksu.key k).state = .quarantined) : ∀ e ∈ scanOut raws s, e.spares k := by
  obtain ⟨hsize, hkeys⟩ := (padOk_iff s).1 hpad
  obtain ⟨-, hdue, -, -⟩ := hkeys k hk20
  obtain ⟨hcovered, hdue', hheld⟩ := covered_of_quarantined hk hq hdue s.time.ms (raws := raws)
  have hstep : stepEmits s.settings.keypad s.time.ms raws s.ksu k = [] :=
    if_neg fun h => by
      rw [releasesNow_of_not_held (by rw [measured_state, hq]; rfl)] at h
      cases h.2
  have hjudged : ((scanJudged s.settings.keypad s.time.ms raws s.ksu).key k).state.held = false := by
    rw [(scanJudged_fields hsize _ _ _).2.2.2.2.2 k hk20]
    exact hheld
  obtain ⟨before, after, hsplit, hbefore, hafter, -⟩ :=
    scanOut_split hsize hk20 hstep (.inl hjudged) (by rw [hcovered]; exact hdue')
  have hhold : holdEmits s.settings s.time.ms raws s.ksu k = [] := by
    rw [holdEmits, if_pos hk, pressedAt, hcovered, pressed_of_not_due hdue', heldEmits_of_not_held hheld]
  rw [hsplit, hhold, List.append_nil]
  exact fun e he => (List.mem_append.1 he).elim (hbefore e) (hafter e)

/-- What the quiet test of a QUARANTINED key makes of it, by its raw count (R125). -/
theorem stepped_quarantined (hrelease : 1 ≤ s.settings.keypad.releaseThr) (hk : k < s.settings.keypad.keysFitted)
    (hb : (s.ksu.key k).baseline = some b) (hq : (s.ksu.key k).state = .quarantined) :
    stepped s.settings.keypad s.time.ms raws s.ksu k =
      (let m := measured s.settings.keypad s.ksu.retake (raws.getD k 0) (s.ksu.key k)
       if raws.getD k 0 + s.settings.keypad.releaseThr ≤ b then { m with quietStart := none }
       else
         match (s.ksu.key k).quietStart with
         | none => { m with quietStart := some s.time.ms }
         | some q =>
           if 1000 ≤ elapsed s.time.ms q then { m.retake with state := .idle, quietStart := none } else m) := by
  have hdelta := le_measured_delta_iff (c := s.settings.keypad) (due := s.ksu.retake) (raw := raws.getD k 0) hrelease hb
  have hnames : retakeNames s.ksu.retake (s.ksu.key k).state = false := by
    rw [hq]; cases s.ksu.retake <;> rfl
  have hquiet : (measured s.settings.keypad s.ksu.retake (raws.getD k 0) (s.ksu.key k)).quietStart =
      (s.ksu.key k).quietStart := by rw [measured_eq]
  rw [stepped, if_pos hk, debounced_quarantined (by rw [measured_state]; exact hq), stepQuarantined, hquiet]
  exact if_congr (hdelta.trans (and_iff_left hnames)) rfl rfl

end

end Sys2Proof.Machine

namespace Sys2Proof.Machine
open Sys2Proof.Safety

/-! ### What becomes of a key held on, and of a quarantined one (R123 to R125) -/

section
variable {s : State} {raws : List Nat} {k b : Nat}

/-- A key stuck in a scan: told, recorded, and KEY_STUCK latched with its live cause (R124). -/
theorem takeScan_stuck (h : HeldKey s raws k b) (hkeq : s.keq.openKeys.Nodup)
    (hon : HeldOn s.settings.keypad (raws.getD k 0) b (s.ksu.key k))
    (hstuck : isStuck s.settings.keypad s.time.ms (s.ksu.key k) = true) :
    Told (releaseEvent s k) (takeScan raws s) ∧
      (takeScan raws s).latched .keyStuck = true ∧ (takeScan raws s).live .keyStuck = true ∧
      (s.keq.seen.takesKeys = true → k ∈ s.keq.openKeys →
        ⟨k, .release false true, s.time.ms.setWidth 16⟩ ∈ (takeScan raws s).keq.queue ∧
          k ∉ (takeScan raws s).keq.openKeys) := by
  obtain ⟨before, after, hsplit, hbefore, hafter, hend⟩ := scanOut_heldOn h hon
  have htimes := (heldOnRec_times s.settings.keypad (raws.getD k 0) b s.ksu.retake (s.ksu.key k)).1
  rw [heldEmits, if_pos (heldOnRec_held ..), isStuck_heldOnRec, if_pos hstuck, releaseEmits_congr htimes] at hsplit
  have hraise : Emit.raise .keyStuck ∈ scanOut raws s := by
    rw [hsplit]; simp
  refine ⟨takeScan_told ?_, ?_, ?_, fun htakes hopen => ?_⟩
  · rw [hsplit]
    exact List.mem_append_left _ (List.mem_append_right _ (List.mem_append_left _ List.mem_cons_self))
  · rw [takeScan_eq, emitAll_latched_cond _ _ (by simp) (by simp), decide_eq_true hraise, Bool.or_true]
  · rw [takeScan_eq, emitAll_live_cond, hsplit]
    have hlist : before ++ (releaseEmits s.time.ms k (s.ksu.key k) false true ++ [.raise .keyStuck]) ++ after =
        (before ++ releaseEmits s.time.ms k (s.ksu.key k) false true) ++ .raise .keyStuck :: after := by simp
    rw [hlist]
    exact causeAfter_raised rfl _ (fun he => hend _ he _ rfl) _
  · rw [takeScan_eq, emitAll_keq, hsplit]
    exact keqAfter_release_among hbefore hafter hkeq htakes hopen

/-- A hold that a key held on gives is told (R123). -/
theorem takeScan_hold (h : HeldKey s raws k b)
    (hon : HeldOn s.settings.keypad (raws.getD k 0) b (s.ksu.key k))
    (hstuck : isStuck s.settings.keypad s.time.ms (s.ksu.key k) = false)
    (hhold : holdsNow s.settings.keypad (s.settings.keyRepeat.getD k false) s.time.ms (s.ksu.key k) = true) :
    Told ⟨.keyHold, BitVec.ofNat 8 k,
      (min 65535 (holdsDue s.settings.keypad (elapsed s.time.ms (s.ksu.key k).pressTime)) : Nat)⟩
      (takeScan raws s) := by
  obtain ⟨before, after, hsplit, -⟩ := scanOut_heldOn h hon
  refine takeScan_told ?_
  rw [hsplit, heldEmits, if_pos (heldOnRec_held ..), isStuck_heldOnRec, if_neg (Bool.eq_false_iff.1 hstuck),
    holdsNow_heldOnRec, if_pos hhold, (heldOnRec_times ..).1]
  exact List.mem_append_left _ (List.mem_append_right _ List.mem_cons_self)

/-- What concerns other keys leaves a key's events and records. -/
theorem takeScan_spares (h : ∀ e ∈ scanOut raws s, e.spares k) :
    (∃ told, (takeScan raws s).tmx.inbox = s.tmx.inbox ++ told ∧
      ∀ e ∈ told, e.cls = .keyPress ∨ e.cls = .keyRelease ∨ e.cls = .keyHold → e.index ≠ BitVec.ofNat 8 k) ∧
    (takeScan raws s).keq.queue.filter (·.key == k) = s.keq.queue.filter (·.key == k) := by
  constructor
  · obtain ⟨told, htold, hin⟩ := emitAll_inbox (scanOut raws s) (scanPut raws s)
    exact ⟨told, htold, fun e he => h _ (hin e he)⟩
  · rw [takeScan_eq, emitAll_keq]
    exact (keqAfter_of_spares h _).1

theorem driftBaseline_self (raw : Nat) : driftBaseline raw raw = raw := by simp [driftBaseline]

/-- A baseline that is the raw count does not drift (R116). -/
theorem key_of_level (hdone : ScanDone s.settings s.time.ms (s.zoneTemp .n0) raws s.ksu
      ⟨(takeScan raws s).ksu, scanOut raws s⟩) (hk : k < 20)
    (hlevel : (settled s.settings s.time.ms raws s.ksu k).baseline =
      some (settled s.settings s.time.ms raws s.ksu k).raw) :
    (takeScan raws s).ksu.key k = settled s.settings s.time.ms raws s.ksu k := by
  rcases hdone.key_cases hk with h | ⟨h, -⟩ <;> dsimp only at h
  · exact h
  · rw [h, driftKey, hlevel]
    dsimp only
    rw [driftBaseline_self, ← hlevel]

end

end Sys2Proof.Machine

namespace Sys2Proof.Proofs
open Sys2Proof.Machine Sys2Proof.Safety

/-- Settles O53, by what steps 4 and 7 make of a held key and step 4 of a quarantined one. -/
theorem keyScanHoldsAndQuarantines : Obligations.KeyScanHoldsAndQuarantines := by
  intro raws s hraws hhold hpad hkeq hranges
  obtain ⟨hsize, hkeys⟩ := (padOk_iff s).1 hpad
  have hfitted : s.settings.keypad.keysFitted ≤ 20 := hranges.fitted
  have hdone := takeScan_done hsize raws
  refine ⟨takeScan raws s, execKeyScan_eq hraws hhold, takeScan_reach raws s, fun k hk b hb => ?_⟩
  have hk20 : k < 20 := by omega
  obtain ⟨-, hdue, -, -⟩ := hkeys k hk20
  have hkey := hdone.key_fields hk20
  dsimp only at hkey ⊢
  refine ⟨fun hnone hfew hheld => ?_, fun hq => ?_⟩
  · have hsup : scanSuppressed s.settings.keypad s.time.ms raws s.ksu = false :=
      scanSuppressed_of_few hsize hnone (by rw [coverCount_scan hpad hranges]; exact hfew)
    have hkeyHeld : HeldKey s raws k b := ⟨hpad, hnone, hsup, hranges.release, hk20, hk, hb, hheld⟩
    obtain ⟨htime, hordinal⟩ := heldOnRec_times s.settings.keypad (raws.getD k 0) b s.ksu.retake (s.ksu.key k)
    refine ⟨fun hoff => ?_, fun hon hstuck => ?_, fun hon hstuck => ?_⟩
    · rw [hkey, settled_released hkeyHeld hoff]
      exact ⟨rfl, rfl, rfl, takeScan_releases hkeyHeld hoff⟩
    · have hstuck' : isStuck s.settings.keypad s.time.ms (s.ksu.key k) = true := decide_eq_true hstuck
      rw [hkey, settled_heldOn hkeyHeld hon, heldTested, if_pos (heldOnRec_held ..), isStuck_heldOnRec, if_pos hstuck']
      exact ⟨rfl, rfl, rfl, rfl, rfl,
        takeScan_stuck hkeyHeld hkeq.distinct hon hstuck'⟩
    · have hstuck' : isStuck s.settings.keypad s.time.ms (s.ksu.key k) = false := decide_eq_false hstuck
      have hholds : holdsNow s.settings.keypad (s.settings.keyRepeat.getD k false) s.time.ms (s.ksu.key k) = true ↔
          s.settings.keyRepeat.getD k false = true ∧ (s.ksu.key k).ordinal <
            (if elapsed s.time.ms (s.ksu.key k).pressTime < s.settings.keypad.holdTime then 0
             else 1 + (elapsed s.time.ms (s.ksu.key k).pressTime - s.settings.keypad.holdTime) /
               s.settings.keypad.repeatPeriod) := by
        rw [holdsNow, Bool.and_eq_true, decide_eq_true_iff]
        rfl
      have htested : settled s.settings s.time.ms raws s.ksu k =
          if holdsNow s.settings.keypad (s.settings.keyRepeat.getD k false) s.time.ms (s.ksu.key k) then
            { heldOnRec s.settings.keypad (raws.getD k 0) b s.ksu.retake (s.ksu.key k) with
              ordinal := min 65535 (holdsDue s.settings.keypad (elapsed s.time.ms (s.ksu.key k).pressTime)) }
          else heldOnRec s.settings.keypad (raws.getD k 0) b s.ksu.retake (s.ksu.key k) := by
        rw [settled_heldOn hkeyHeld hon, heldTested, if_pos (heldOnRec_held ..), isStuck_heldOnRec, if_neg (Bool.eq_false_iff.1 hstuck'),
          holdsNow_heldOnRec]
        simp only [htime]
      rw [hkey, htested]
      by_cases hh : holdsNow s.settings.keypad (s.settings.keyRepeat.getD k false) s.time.ms (s.ksu.key k) = true
      · rw [if_pos hh]
        refine ⟨rfl, rfl, htime, ?_⟩
        rw [if_pos (hholds.1 hh)]
        exact ⟨rfl, takeScan_hold hkeyHeld hon hstuck' hh⟩
      · rw [if_neg hh]
        refine ⟨rfl, rfl, htime, ?_⟩
        rw [if_neg fun h => hh (hholds.2 h)]
        exact hordinal
  · obtain ⟨htold, hqueue⟩ := takeScan_spares (scanOut_of_quarantined hpad hk20 hk hq (raws := raws))
    refine ⟨htold, hqueue, ?_⟩
    have hsettled := (settled_of_quarantined hk hq hdue s.time.ms (raws := raws)).trans
      (stepped_quarantined hranges.release hk hb hq)
    have hstate := measured_state s.settings.keypad s.ksu.retake (raws.getD k 0) (s.ksu.key k)
    by_cases hle : raws.getD k 0 + s.settings.keypad.releaseThr ≤ b
    · rw [if_pos hle] at hsettled
      rw [if_pos hle, hkey, hsettled]
      exact ⟨hstate.trans hq, rfl⟩
    · rw [if_neg hle] at hsettled
      rw [if_neg hle]
      cases hquiet : (s.ksu.key k).quietStart with
      | none =>
        rw [hquiet] at hsettled
        rw [hkey, hsettled]
        exact ⟨hstate.trans hq, rfl⟩
      | some q =>
        rw [hquiet] at hsettled
        dsimp only at hsettled ⊢
        by_cases he : 1000 ≤ elapsed s.time.ms q
        · rw [if_pos he] at hsettled
          rw [if_pos he, key_of_level hdone hk20 (by rw [hsettled]; rfl), hsettled, measured_eq]
          exact ⟨rfl, rfl, rfl, rfl⟩
        · rw [if_neg he] at hsettled
          rw [if_neg he, hkey, hsettled]
          refine ⟨hstate.trans hq, ?_⟩
          rw [measured_eq]
          exact hquiet

end Sys2Proof.Proofs

namespace Sys2Proof.Machine
open Sys2Proof.Safety

/-! ### A scan in which one key alone is touched (R114, R118, R121, R122) -/

/-- Suppression is inactive, no re-take is due, and every other fitted key is IDLE and untouched; no other key is
due. -/
structure SoleKey (c : KeypadSettings) (raws : List Nat) (k : Nat) (u : Ksu) : Prop where
  size : u.keys.length = 20
  fitted : c.keysFitted ≤ 20
  key : k < c.keysFitted
  unsuppressed : u.suppressed = false
  retake : u.retake = .none
  noneDue : ∀ j < 20, j ≠ k → (u.key j).due = false
  untouched : ∀ j < c.keysFitted, j ≠ k → (u.key j).state = .idle ∧
    ∃ b, (u.key j).baseline = some b ∧ b < raws.getD j 0 + c.touchThr ∧ raws.getD j 0 ≤ b + c.touchThr

/-- A baseline that no re-take and no anti-touch replaces (R117). -/
theorem measured_of_level {c : KeypadSettings} {raw b : Nat} {r : KeyRec} (hb : r.baseline = some b)
    (hlevel : raw ≤ b + c.touchThr) :
    measured c .none raw r = { r with raw := raw, baseline := some b, delta := (b : Int) - raw } := by
  have hbase : measuredBase c .none raw r = b := by
    rw [measuredBase, hb]
    dsimp only
    rw [if_neg]
    rintro (h | ⟨-, h⟩)
    · cases h
    · omega
  rw [measured_eq, hbase]

section
variable {c : KeypadSettings} {now : Word32} {raws : List Nat} {k : Nat} {u : Ksu} (h : SoleKey c raws k u)
include h

/-- Another fitted key is measured, and stays IDLE. -/
theorem SoleKey.stepped_fitted {j : Nat} (hj : j < c.keysFitted) (hne : j ≠ k) :
    ∃ b, stepped c now raws u j =
      { u.key j with raw := raws.getD j 0, baseline := some b, delta := (b : Int) - raws.getD j 0 } := by
  obtain ⟨hidle, b, hb, hlow, hhigh⟩ := h.untouched j hj hne
  refine ⟨b, ?_⟩
  rw [stepped, if_pos hj, h.retake, debounced_idle (by rw [measured_state]; exact hidle), measured_of_level hb hhigh,
    if_neg]
  dsimp only
  omega

/-- No other key is due or, if fitted, other than IDLE after step 4, and none hands anything on in it. -/
theorem SoleKey.stepped_other {j : Nat} (hj : j < 20) (hne : j ≠ k) :
    (stepped c now raws u j).due = false ∧ (j < c.keysFitted → (stepped c now raws u j).state = .idle) ∧
      stepEmits c now raws u j = [] := by
  by_cases hf : j < c.keysFitted
  · obtain ⟨b, hb⟩ := h.stepped_fitted (now := now) hf hne
    obtain ⟨hidle, -⟩ := h.untouched j hf hne
    rw [hb]
    refine ⟨h.noneDue j hj hne, fun _ => hidle, if_neg fun he => ?_⟩
    rw [releasesNow_of_not_held (by rw [measured_state, hidle]; rfl)] at he
    cases he.2
  · rw [stepped, if_neg hf]
    exact ⟨h.noneDue j hj hne, fun hlt => absurd hlt hf, if_neg fun he => hf he.1⟩

/-- One key at most counts for cover (R127). -/
theorem SoleKey.coverCount_le : coverCount c (scanDebounced c now raws u).ksu ≤ 1 := by
  have hdone := scanDebounced_done h.size c now raws
  have hfitted := h.fitted
  rw [coverCount, countKeys_eq (by rw [hdone.length]; omega)]
  have hsub : ((List.range c.keysFitted).filter fun j =>
      ((scanDebounced c now raws u).ksu.key j).state == .pendingPress ||
        ((scanDebounced c now raws u).ksu.key j).state == .pressed) ⊆ [k] := by
    intro j hj
    obtain ⟨hlt, hcounts⟩ := List.mem_filter.1 hj
    have hf := List.mem_range.1 hlt
    by_contra hne
    have hne' : j ≠ k := fun he => hne (by rw [he]; exact List.mem_cons_self)
    rw [hdone.key j (by omega), (h.stepped_other (by omega) hne').2.1 hf] at hcounts
    cases hcounts
  exact (List.subperm_of_subset (List.nodup_range.filter _) hsub).length_le

theorem SoleKey.scanSuppressed (htouch : 1 ≤ c.maxTouch) : scanSuppressed c now raws u = false :=
  scanSuppressed_of_few h.size h.unsuppressed (h.coverCount_le.trans htouch)

/-- Suppression stays inactive, so a key goes from step 4 to step 6 as it is. -/
theorem SoleKey.covered (htouch : 1 ≤ c.maxTouch) (j : Nat) : covered c now raws u j = stepped c now raws u j :=
  if_neg (by simp [h.scanSuppressed htouch])

end

/-- What a scan of a sole key hands on: the releases and presses of that key, the end of KEY_STUCK's live cause
between them where it is due, its holds, and what the chords give. -/
theorem SoleKey.scanOut {s : State} {raws : List Nat} {k : Nat} (h : SoleKey s.settings.keypad raws k s.ksu)
    (htouch : 1 ≤ s.settings.keypad.maxTouch) : scanOut raws s =
      stepEmits s.settings.keypad s.time.ms raws s.ksu k ++
      (stuckEndEmits s.ksu.anyQuarantined (scanDebounced s.settings.keypad s.time.ms raws s.ksu).ksu ++
      (pressEmits false s.time.ms k (stepped s.settings.keypad s.time.ms raws s.ksu k) ++
      (heldEmits s.settings.keypad (s.settings.keyRepeat.getD k false) s.time.ms k
        (pressed false s.time.ms (stepped s.settings.keypad s.time.ms raws s.ksu k)) ++
      scanChordEmits s.settings s.time.ms (s.zoneTemp .n0) raws s.ksu))) := by
  have hfitted := h.fitted
  have hkey := h.key
  have hk : k < 20 := by omega
  have hsup := h.scanSuppressed (now := s.time.ms) htouch
  have hpressed (j : Nat) : pressedAt s.settings.keypad s.time.ms raws s.ksu j =
      pressed false s.time.ms (stepped s.settings.keypad s.time.ms raws s.ksu j) := by
    rw [pressedAt, hsup, h.covered htouch]
  have hhold (j : Nat) (hj : j < 20) (hne : j ≠ k) : holdEmits s.settings s.time.ms raws s.ksu j = [] := by
    obtain ⟨hdue, hidle, -⟩ := h.stepped_other (now := s.time.ms) hj hne
    unfold holdEmits
    split
    · rw [hpressed, pressed_of_not_due hdue, heldEmits_of_not_held (by rw [hidle ‹_›]; rfl)]
    · rfl
  rw [scanOut_eq h.size, coverEmits, touchEmits, changeEmits_same _ _ (hsup.trans h.unsuppressed.symm),
    flatMap_range_single hk fun j hj hne => (h.stepped_other hj hne).2.2,
    flatMap_range_single hk (fun j hj hne => pressEmits_of_not_due (by
      rw [h.covered htouch]; exact (h.stepped_other hj hne).1) _ _ j),
    flatMap_range_single hk hhold, hsup, h.covered htouch, holdEmits, if_pos hkey, hpressed]
  simp only [List.append_nil, List.append_assoc]

/-- A sole key, and the others, after the scan. -/
theorem SoleKey.settled {s : State} {raws : List Nat} {k : Nat} (h : SoleKey s.settings.keypad raws k s.ksu)
    (htouch : 1 ≤ s.settings.keypad.maxTouch) {j : Nat} (hj : j < s.settings.keypad.keysFitted) :
    settled s.settings s.time.ms raws s.ksu j =
      heldTested s.settings.keypad (s.settings.keyRepeat.getD j false) s.time.ms
        (pressed false s.time.ms (stepped s.settings.keypad s.time.ms raws s.ksu j)) := by
  rw [Machine.settled, if_pos hj, pressedAt, h.scanSuppressed htouch, h.covered htouch]

/-- The other fitted keys stay IDLE, with their raw counts. -/
theorem SoleKey.settled_other {s : State} {raws : List Nat} {k : Nat} (h : SoleKey s.settings.keypad raws k s.ksu)
    (htouch : 1 ≤ s.settings.keypad.maxTouch) {j : Nat} (hj : j < s.settings.keypad.keysFitted) (hne : j ≠ k) :
    ((takeScan raws s).ksu.key j).state = .idle ∧ ((takeScan raws s).ksu.key j).raw = raws.getD j 0 := by
  have hfitted := h.fitted
  have hj20 : j < 20 := by omega
  obtain ⟨hdue, hidle, -⟩ := h.stepped_other (now := s.time.ms) hj20 hne
  obtain ⟨b, hb⟩ := h.stepped_fitted (now := s.time.ms) hj hne
  have hkey := (takeScan_done h.size raws).key_fields hj20
  dsimp only at hkey
  rw [hkey, h.settled htouch hj, pressed_of_not_due hdue, heldTested_of_not_held (by rw [hidle hj]; rfl)]
  refine ⟨hidle hj, ?_⟩
  rw [hb]

end Sys2Proof.Machine

namespace Sys2Proof.Machine
open Sys2Proof.Safety

/-! ### The press of a sole key (R121, R132, R140) -/

theorem elapsed_now (now : Word32) : elapsed now now = 0 := by simp [elapsed]

/-- A press that is given (R121). -/
def pressedRec (now : Word32) (r : KeyRec) : KeyRec :=
  { r with state := .pressed, pressRun := 0, due := false, pressTime := now, ordinal := 0 }

theorem pressed_of_due {r : KeyRec} (h : r.due = true) (now : Word32) : pressed false now r = pressedRec now r := by
  rw [pressed, if_pos h]
  rfl

theorem pressedRec_held (now : Word32) (r : KeyRec) : (pressedRec now r).state.held = true := rfl

theorem isStuck_pressedRec (c : KeypadSettings) (now : Word32) (r : KeyRec) :
    isStuck c now (pressedRec now r) = false := by
  have helapsed : elapsed now (pressedRec now r).pressTime = 0 := elapsed_now now
  rw [isStuck, helapsed, decide_eq_false_iff_not]
  omega

/-- A key pressed in this scan is not stuck in it; it is held, with the press time of the scan (R123, R124). -/
theorem heldTested_pressedRec (c : KeypadSettings) (rep : Bool) (now : Word32) (r : KeyRec) :
    (heldTested c rep now (pressedRec now r)).state = .pressed ∧
      (heldTested c rep now (pressedRec now r)).pressTime = now ∧
      (heldTested c rep now (pressedRec now r)).raw = r.raw := by
  rw [heldTested, if_pos (pressedRec_held now r), if_neg (Bool.eq_false_iff.1 (isStuck_pressedRec c now r))]
  split <;> exact ⟨rfl, rfl, rfl⟩

/-- What a key pressed in this scan gives in step 7 is a hold at most. -/
theorem heldEmits_pressedRec (c : KeypadSettings) (rep : Bool) (now : Word32) (k : Nat) (r : KeyRec) :
    heldEmits c rep now k (pressedRec now r) = [] ∨
      ∃ e, heldEmits c rep now k (pressedRec now r) = [.post e, keyOffer now k (.hold 1)] := by
  rw [heldEmits, if_pos (pressedRec_held now r), if_neg (Bool.eq_false_iff.1 (isStuck_pressedRec c now r))]
  split
  · exact .inr ⟨_, rfl⟩
  · exact .inl rfl

/-- A PRESS that fits opens its key (R139, R140). -/
theorem keqThen_press {k : Nat} {time : Word16} {q : Keq} (htakes : q.seen.takesKeys = true)
    (hroom : q.openKeys.length + 2 ≤ q.free) :
    (keqThen q (.offer ⟨k, .press, time⟩)).queue = q.queue ++ [⟨k, .press, time⟩] ∧
      k ∈ (keqThen q (.offer ⟨k, .press, time⟩)).openKeys := by
  have hkept : keqThen q (.offer ⟨k, .press, time⟩) = keepKey ⟨k, .press, time⟩ q := by
    rw [keqThen_offer, if_pos htakes]
    change (if _ then _ else _ : Keq × Bool).1 = _
    rw [if_pos hroom]
  rw [hkept]
  refine ⟨rfl, ?_⟩
  change k ∈ (if q.openKeys.contains k = true then q.openKeys else q.openKeys ++ [k])
  split
  · exact List.contains_iff_mem.1 ‹_›
  · simp

/-- A HOLD of a key whose newest record is its PRESS changes none of the records before it (R142). -/
theorem keqThen_hold {k : Nat} {time time' : Word16} {q : Keq} {queue : List KeyEvent}
    (hqueue : q.queue = queue ++ [⟨k, .press, time⟩]) (hopen : k ∈ q.openKeys) :
    q.queue <+: (keqThen q (.offer ⟨k, .hold 1, time'⟩)).queue ∧
      k ∈ (keqThen q (.offer ⟨k, .hold 1, time'⟩)).openKeys := by
  have hnewest : newestIsHold k q.queue = false := by
    rw [newestIsHold, hqueue]
    simp
  rw [keqThen_offer]
  split
  · change q.queue <+: (if newestIsHold k q.queue = true then _ else _ : Keq × Bool).1.queue ∧
      k ∈ (if newestIsHold k q.queue = true then _ else _ : Keq × Bool).1.openKeys
    rw [if_neg (by simp [hnewest])]
    split
    · exact ⟨List.prefix_append _ _, hopen⟩
    · exact ⟨List.prefix_refl _, hopen⟩
  · exact ⟨List.prefix_refl _, hopen⟩

/-- What is for CNU alone leaves the inbox and KEQ. -/
theorem emitAll_stuckEnd (before : Bool) (u : Ksu) (s : State) :
    emitAll (stuckEndEmits before u) s = s.setCnu (emitAll (stuckEndEmits before u) s).cnu :=
  emitAll_of_forCnu (fun e he => by rw [stuckEndEmits_eq he]; rfl) s

theorem keqAfter_stuckEnd (before : Bool) (u : Ksu) (q : Keq) : keqAfter (stuckEndEmits before u) q = q :=
  keqAfter_of_no_offer (fun r hr => by cases stuckEndEmits_eq hr) q

theorem keqAfter_chords (c : Settings) (now : Word32) (t0 : Option Int) (raws : List Nat) (u : Ksu) (q : Keq) :
    keqAfter (scanChordEmits c now t0 raws u) q = q :=
  keqAfter_of_no_offer (fun r hr => by obtain ⟨i, arg, h⟩ := scanChordEmits_post hr; cases h) q

section
variable {s : State} {raws : List Nat} {k b : Nat}

/-- Step 4 completes the key's press (R118). -/
structure PressCompletes (s : State) (raws : List Nat) (k : Nat) : Prop where
  due : (stepped s.settings.keypad s.time.ms raws s.ksu k).due = true
  raw : (stepped s.settings.keypad s.time.ms raws s.ksu k).raw = raws.getD k 0
  noRelease : stepEmits s.settings.keypad s.time.ms raws s.ksu k = []

theorem SoleKey.pressCompletes (h : SoleKey s.settings.keypad raws k s.ksu) (hb : (s.ksu.key k).baseline = some b)
    (hstate : (s.ksu.key k).state = .idle ∧ s.settings.keypad.pressCount ≤ 1 ∨
      (s.ksu.key k).state = .pendingPress ∧ s.settings.keypad.pressCount ≤ (s.ksu.key k).pressRun + 1)
    (htouched : raws.getD k 0 + s.settings.keypad.touchThr ≤ b) : PressCompletes s raws k := by
  have hm := measured_of_level (c := s.settings.keypad) (raw := raws.getD k 0) hb (by omega)
  have hdelta : (s.settings.keypad.touchThr : Int) ≤
      (measured s.settings.keypad .none (raws.getD k 0) (s.ksu.key k)).delta := by
    rw [hm]; dsimp only; omega
  have hnotHeld : (s.ksu.key k).state.held = false := by rcases hstate with ⟨hs, -⟩ | ⟨hs, -⟩ <;> rw [hs] <;> rfl
  have hrelease : stepEmits s.settings.keypad s.time.ms raws s.ksu k = [] := if_neg fun he => by
    rw [releasesNow_of_not_held (by rw [measured_state]; exact hnotHeld)] at he
    cases he.2
  have hstepped : stepped s.settings.keypad s.time.ms raws s.ksu k =
      debounced s.settings.keypad s.time.ms (measured s.settings.keypad .none (raws.getD k 0) (s.ksu.key k)) := by
    rw [stepped, if_pos h.key, h.retake]
  rcases hstate with ⟨hs, hcount⟩ | ⟨hs, hcount⟩
  · rw [debounced_idle (by rw [measured_state]; exact hs), if_pos hdelta, hm] at hstepped
    exact ⟨by rw [hstepped]; exact decide_eq_true hcount, by rw [hstepped], hrelease⟩
  · rw [debounced_pendingPress (by rw [measured_state]; exact hs), if_pos hdelta, hm] at hstepped
    exact ⟨by rw [hstepped]; exact decide_eq_true hcount, by rw [hstepped], hrelease⟩

/-- What a scan that presses the sole key hands on. -/
theorem SoleKey.scanOut_press (h : SoleKey s.settings.keypad raws k s.ksu)
    (htouch : 1 ≤ s.settings.keypad.maxTouch) (hpress : PressCompletes s raws k) : Machine.scanOut raws s =
      stuckEndEmits s.ksu.anyQuarantined (scanDebounced s.settings.keypad s.time.ms raws s.ksu).ksu ++
      (.post (event .keyPress k 0) :: keyOffer s.time.ms k .press ::
      (heldEmits s.settings.keypad (s.settings.keyRepeat.getD k false) s.time.ms k
        (pressedRec s.time.ms (stepped s.settings.keypad s.time.ms raws s.ksu k)) ++
      scanChordEmits s.settings s.time.ms (s.zoneTemp .n0) raws s.ksu)) := by
  rw [h.scanOut htouch, hpress.noRelease, pressed_of_due hpress.due, pressEmits, if_pos ⟨hpress.due, rfl⟩]
  rfl

theorem SoleKey.posted_press (h : SoleKey s.settings.keypad raws k s.ksu)
    (htouch : 1 ≤ s.settings.keypad.maxTouch) (hpress : PressCompletes s raws k) :
    Posted ⟨.keyPress, BitVec.ofNat 8 k, 0⟩ s (takeScan raws s) := by
  rw [takeScan_eq, h.scanOut_press htouch hpress, emitAll_append]
  refine posted_of_inbox ?_ (posted_emitAll_cons _ _ _)
  rw [emitAll_stuckEnd]
  rfl

theorem SoleKey.keq_press (h : SoleKey s.settings.keypad raws k s.ksu)
    (htouch : 1 ≤ s.settings.keypad.maxTouch) (hpress : PressCompletes s raws k)
    (htakes : s.keq.seen.takesKeys = true) (hroom : s.keq.openKeys.length + 2 ≤ s.keq.free) :
    (s.keq.queue ++ [⟨k, .press, s.time.ms.setWidth 16⟩]) <+: (takeScan raws s).keq.queue ∧
      k ∈ (takeScan raws s).keq.openKeys := by
  obtain ⟨hqueue, hopen⟩ := keqThen_press (k := k) (time := s.time.ms.setWidth 16) htakes hroom
  rw [takeScan_eq, emitAll_keq, h.scanOut_press htouch hpress, keqAfter_append, keqAfter_stuckEnd, keqAfter_cons,
    keqAfter_cons, keqAfter_append, keqAfter_chords, ← hqueue]
  change (keqThen s.keq (.offer ⟨k, .press, s.time.ms.setWidth 16⟩)).queue <+:
    (keqAfter _ (keqThen s.keq (.offer ⟨k, .press, s.time.ms.setWidth 16⟩))).queue ∧
    k ∈ (keqAfter _ (keqThen s.keq (.offer ⟨k, .press, s.time.ms.setWidth 16⟩))).openKeys
  rcases heldEmits_pressedRec s.settings.keypad (s.settings.keyRepeat.getD k false) s.time.ms k
    (stepped s.settings.keypad s.time.ms raws s.ksu k) with hnone | ⟨e, hhold⟩
  · rw [hnone]
    exact ⟨List.prefix_refl _, hopen⟩
  · rw [hhold]
    exact keqThen_hold hqueue hopen

/-! ### The release of a sole key (R122) -/

/-- Step 4 completes the key's release (R118, R122). -/
structure ReleaseCompletes (s : State) (raws : List Nat) (k : Nat) : Prop where
  idle : ∃ r : KeyRec, stepped s.settings.keypad s.time.ms raws s.ksu k = r.toIdle ∧ r.raw = raws.getD k 0
  release : stepEmits s.settings.keypad s.time.ms raws s.ksu k =
    releaseEmits s.time.ms k (s.ksu.key k) false false

theorem SoleKey.releaseCompletes (h : SoleKey s.settings.keypad raws k s.ksu) (hb : (s.ksu.key k).baseline = some b)
    (hstate : (s.ksu.key k).state = .pressed ∧ s.settings.keypad.releaseCount ≤ 1 ∨
      (s.ksu.key k).state = .pendingRelease ∧ s.settings.keypad.releaseCount ≤ (s.ksu.key k).releaseRun + 1)
    (hlow : b < raws.getD k 0 + s.settings.keypad.releaseThr)
    (hlevel : raws.getD k 0 ≤ b + s.settings.keypad.touchThr) : ReleaseCompletes s raws k := by
  have hm := measured_of_level (c := s.settings.keypad) (raw := raws.getD k 0) hb hlevel
  have hdelta : ¬ (s.settings.keypad.releaseThr : Int) ≤
      (measured s.settings.keypad .none (raws.getD k 0) (s.ksu.key k)).delta := by
    rw [hm]; dsimp only; omega
  have hheld : (s.ksu.key k).state.held = true := by rcases hstate with ⟨hs, -⟩ | ⟨hs, -⟩ <;> rw [hs] <;> rfl
  have hrun : s.settings.keypad.releaseCount ≤
      nextReleaseRun (measured s.settings.keypad .none (raws.getD k 0) (s.ksu.key k)) := by
    rw [nextReleaseRun, measured_eq]
    dsimp only
    rcases hstate with ⟨hs, hcount⟩ | ⟨hs, hcount⟩ <;> rw [hs]
    · exact hcount
    · exact hcount
  have hheld' : (measured s.settings.keypad .none (raws.getD k 0) (s.ksu.key k)).state.held = true := by
    rw [measured_state]; exact hheld
  refine ⟨⟨measured s.settings.keypad .none (raws.getD k 0) (s.ksu.key k), ?_, ?_⟩, ?_⟩
  · rw [stepped, if_pos h.key, h.retake, debounced_held hheld', if_neg hdelta, if_pos hrun]
  · rw [measured_eq]
  · rw [stepEmits, h.retake, if_pos ⟨h.key, (releasesNow_held hheld').2 ⟨hdelta, hrun⟩⟩]
    exact releaseEmits_congr (by rw [measured_eq]) _ _ _ _

/-- What a scan that releases the sole key hands on. -/
theorem SoleKey.scanOut_release (h : SoleKey s.settings.keypad raws k s.ksu)
    (htouch : 1 ≤ s.settings.keypad.maxTouch) (hrel : ReleaseCompletes s raws k) : Machine.scanOut raws s =
      .post (releaseEvent s k) :: keyOffer s.time.ms k (.release false false) ::
      (stuckEndEmits s.ksu.anyQuarantined (scanDebounced s.settings.keypad s.time.ms raws s.ksu).ksu ++
      scanChordEmits s.settings s.time.ms (s.zoneTemp .n0) raws s.ksu) := by
  obtain ⟨r, hr, -⟩ := hrel.idle
  rw [h.scanOut htouch, hrel.release, hr, pressed_of_not_due rfl, pressEmits_of_not_due rfl, heldEmits_of_not_held rfl]
  rfl

theorem SoleKey.keq_release (h : SoleKey s.settings.keypad raws k s.ksu)
    (htouch : 1 ≤ s.settings.keypad.maxTouch) (hrel : ReleaseCompletes s raws k)
    (htakes : s.keq.seen.takesKeys = true) (hopen : k ∈ s.keq.openKeys) :
    (takeScan raws s).keq = { s.keq with
      queue := s.keq.queue ++ [⟨k, .release false false, s.time.ms.setWidth 16⟩]
      openKeys := s.keq.openKeys.erase k } := by
  rw [takeScan_eq, emitAll_keq, h.scanOut_release htouch hrel, keqAfter_cons, keqAfter_cons, keqAfter_append,
    keqAfter_stuckEnd, keqAfter_chords]
  exact keqAfter_of_release htakes hopen

end

/-- A scan leaves the trigger units, and what is neither KSU, KEQ, TMX nor CNU. -/
theorem scanReach_frame {s t : State} (h : ScanReach s t) :
    t = { s with ksu := t.ksu, keq := t.keq, tmx := t.tmx, cnu := t.cnu } ∧ t.tmx.units = s.tmx.units := by
  have htmx : t.tmx = { s.tmx with inbox := t.tmx.inbox } := congrArg State.tmx h
  refine ⟨h.trans ?_, by rw [htmx]⟩
  rw [← htmx]

end Sys2Proof.Machine

namespace Sys2Proof.Proofs
open Sys2Proof.Machine Sys2Proof.Safety

/-- Settles O52, by what a scan makes of the sole key and what it hands on. -/
theorem keyScanPressesAndReleases : Obligations.KeyScanPressesAndReleases := by
  intro raws k b s hraws hhold hsize hfitted hk hnone hretake htouch hthr hdue huntouched hb
  have hsole : SoleKey s.settings.keypad raws k s.ksu :=
    ⟨hsize, hfitted, hk, hnone, hretake, hdue, huntouched⟩
  have hk20 : k < 20 := by omega
  obtain ⟨hframe, hunits⟩ := scanReach_frame (takeScan_reach raws s)
  have hkey := (takeScan_done hsize raws).key_fields hk20
  dsimp only at hkey
  rw [hsole.settled htouch hk] at hkey
  refine ⟨fun hstate htouched => ?_, fun hstate hlow hlevel => ?_⟩
  · have hpress := hsole.pressCompletes hb hstate htouched
    obtain ⟨hpressed, htime, hraw⟩ := heldTested_pressedRec s.settings.keypad (s.settings.keyRepeat.getD k false)
      s.time.ms (stepped s.settings.keypad s.time.ms raws s.ksu k)
    rw [pressed_of_due hpress.due] at hkey
    refine ⟨takeScan raws s, execKeyScan_eq hraws hhold, hframe, hunits, ?_, ?_, ?_,
      fun j hj hne => hsole.settled_other htouch hj hne, hsole.posted_press htouch hpress,
      hsole.keq_press htouch hpress⟩
    · rw [hkey]; exact hpressed
    · rw [hkey]; exact hraw.trans hpress.raw
    · rw [hkey]; exact htime
  · have hrel := hsole.releaseCompletes hb hstate hlow hlevel
    obtain ⟨r, hr, hraw⟩ := hrel.idle
    rw [hr, pressed_of_not_due rfl, heldTested_of_not_held rfl] at hkey
    refine ⟨takeScan raws s, execKeyScan_eq hraws hhold, hframe, hunits, ?_, ?_,
      fun j hj hne => (hsole.settled_other htouch hj hne).1, ?_, hsole.keq_release htouch hrel⟩
    · rw [hkey]; rfl
    · rw [hkey]; exact hraw
    · rw [takeScan_eq, hsole.scanOut_release htouch hrel]
      exact posted_of_inbox (t := scanPut raws s) rfl (posted_emitAll_cons _ _ _)

end Sys2Proof.Proofs

namespace Sys2Proof.Machine
open Sys2Proof.Safety

/-! ### A live cause that a list raises or ends (R168) -/

theorem causeAfter_of_raise {c : Cond} (hlive : c.isLive = true) {es : List Emit} (hr : Emit.raise c ∈ es)
    (he : Emit.endCause c ∉ es) (b : Bool) : causeAfter c es b = true := by
  obtain ⟨before, after, rfl⟩ := List.append_of_mem hr
  exact causeAfter_raised hlive before (fun h => he (by simp [h])) b

/-- A cause that is absent stays so where nothing raises it. -/
theorem causeAfter_of_false {c : Cond} {es : List Emit} (h : Emit.raise c ∉ es) : causeAfter c es false = false := by
  induction es with
  | nil => rfl
  | cons e es ih =>
    have hthen : causeThen c false e = false := by
      cases e with
      | raise d =>
        have hne : d ≠ c := fun h' => h (h' ▸ List.mem_cons_self ..)
        simp [causeThen, hne]
      | _ => simp [causeThen]
    rw [show causeAfter c (e :: es) false = causeAfter c es (causeThen c false e) from rfl, hthen]
    exact ih fun h' => h (List.mem_cons_of_mem _ h')

theorem causeAfter_of_end {c : Cond} {es : List Emit} (he : Emit.endCause c ∈ es) (hr : Emit.raise c ∉ es)
    (b : Bool) : causeAfter c es b = false := by
  obtain ⟨before, after, rfl⟩ := List.append_of_mem he
  rw [causeAfter_append]
  change causeAfter c after (causeThen c _ (.endCause c)) = false
  simp only [causeThen, decide_true, Bool.not_true, Bool.and_false]
  exact causeAfter_of_false fun h => hr (by simp [h])

/-! ### What a change of suppression hands on (R128, R130) -/

theorem changeEmits_of_start {now : Word32} {cause : Nat} {before : Bool} {u : Ksu}
    (h : before = false ∧ u.suppressed = true) : changeEmits now cause before u =
      ((List.range 20).flatMap fun k => silenceEmits now k (u.key k)) ++
        [.raise .suppressed, .post (event .suppress cause 1)] := if_pos h

theorem changeEmits_of_end {now : Word32} {cause : Nat} {before : Bool} {u : Ksu}
    (h : before = true ∧ u.suppressed = false) : changeEmits now cause before u =
      [.post (event .suppress cause 0), .endCause .suppressed] := by
  rw [changeEmits, if_neg (by simp [h]), if_pos h]

/-- A held key is released when suppression starts (R128). -/
theorem silenceEmits_changeEmits {now : Word32} {cause : Nat} {before : Bool} {u : Ksu}
    (h : before = false ∧ u.suppressed = true) {k : Nat} (hk : k < 20) (hheld : (u.key k).state.held = true) :
    ∀ e ∈ releaseEmits now k (u.key k) true false, e ∈ changeEmits now cause before u := by
  intro e he
  rw [changeEmits_of_start h]
  refine List.mem_append_left _ (List.mem_flatMap.2 ⟨k, List.mem_range.2 hk, ?_⟩)
  rwa [silenceEmits, if_pos hheld]

/-- Where suppression starts, what is handed on raises SUPPRESSED and does not end it; where it ends, the reverse. -/
theorem changeEmits_cause {now : Word32} {cause : Nat} {before : Bool} {u : Ksu} :
    (before = false ∧ u.suppressed = true →
      Emit.raise .suppressed ∈ changeEmits now cause before u ∧
      Emit.endCause .suppressed ∉ changeEmits now cause before u) ∧
    (before = true ∧ u.suppressed = false →
      Emit.endCause .suppressed ∈ changeEmits now cause before u ∧
      Emit.raise .suppressed ∉ changeEmits now cause before u) := by
  refine ⟨fun h => ?_, fun h => ?_⟩
  · rw [changeEmits_of_start h]
    refine ⟨by simp, fun he => ?_⟩
    rcases List.mem_append.1 he with he | he
    · obtain ⟨k, -, he⟩ := List.mem_flatMap.1 he
      exact (silenceEmits_isOf now k (u.key k) _ he).ne_endCause _ rfl
    · simp at he
  · rw [changeEmits_of_end h]
    simp

/-- A change of suppression offers releases alone (R128). -/
theorem changeEmits_noPress (now : Word32) (cause : Nat) (before : Bool) (u : Ksu) (k : Nat) :
    NoPressOf k (changeEmits now cause before u) := by
  intro r hr _
  rcases changeEmits_cases hr with ⟨j, -, he⟩ | h | h | ⟨arg, h⟩
  · unfold silenceEmits at he
    split at he
    · rcases List.mem_pair.1 he with h | h
      · cases h
      · cases h
        simp
    · cases he
  all_goals cases h

/-- A suppressed key, IDLE or QUARANTINED (R128). -/
theorem silenced_idle_or_quarantined (r : KeyRec) : r.silenced.state = .idle ∨ r.silenced.state = .quarantined := by
  rw [silenced_state]
  split
  · exact .inr rfl
  · exact .inl rfl

/-! ### Suppression that starts or ends with a scan (R127, R128, R130) -/

theorem Emit.isOf.not_suppressed {e : Emit} {j : Nat} (h : e.isOf j) : e ≠ .raise .suppressed := by
  cases h <;> simp

/-- SUPPRESSED is raised, and ended, by a change of suppression alone. -/
theorem scanOut_suppressed {s : State} (h : s.ksu.keys.length = 20) {raws : List Nat} {e : Emit}
    (he : e = .raise .suppressed ∨ e = .endCause .suppressed) (hin : e ∈ scanOut raws s) :
    e ∈ changeEmits s.time.ms 2 s.ksu.suppressed (scanJudged s.settings.keypad s.time.ms raws s.ksu) := by
  have hof {j : Nat} (hj : e.isOf j) : False := by
    rcases he with rfl | rfl
    · exact hj.not_suppressed rfl
    · exact hj.ne_endCause _ rfl
  rw [scanOut_eq h, coverEmits, touchEmits] at hin
  simp only [List.mem_append, List.mem_flatMap] at hin
  rcases hin with (((⟨j, -, hin⟩ | hin) | hin) | ⟨j, -, hin⟩ | ⟨j, -, hin⟩) | hin
  · exact (hof (stepEmits_isOf _ _ _ _ _ e hin)).elim
  · rw [stuckEndEmits_eq hin] at he
    rcases he with h | h <;> cases h
  · exact hin
  · exact (hof (pressEmits_isOf _ _ _ _ e hin)).elim
  · exact (hof (holdEmits_isOf _ _ _ _ _ e hin)).elim
  · obtain ⟨i, arg, rfl⟩ := scanChordEmits_post hin
    rcases he with h | h <;> cases h

section
variable {s : State} {raws : List Nat}

/-- A scan that starts suppression offers no PRESS (R121, R128). -/
theorem scanOut_noPress (h : s.ksu.keys.length = 20)
    (hs : scanSuppressed s.settings.keypad s.time.ms raws s.ksu = true) (k : Nat) : NoPressOf k (scanOut raws s) := by
  have hrelease {now : Word32} {j : Nat} {r : KeyRec} {a b : Bool} {x : KeyEvent}
      (hx : Emit.offer x ∈ releaseEmits now j r a b) : x.kind ≠ .press := by
    rcases List.mem_pair.1 hx with hx | hx
    · cases hx
    · cases hx
      simp
  intro x hx hxk
  rw [scanOut_eq h, coverEmits, touchEmits] at hx
  simp only [List.mem_append, List.mem_flatMap] at hx
  rcases hx with (((⟨j, -, hx⟩ | hx) | hx) | ⟨j, -, hx⟩ | ⟨j, -, hx⟩) | hx
  · unfold stepEmits at hx
    split at hx
    · exact hrelease hx
    · cases hx
  · cases stuckEndEmits_eq hx
  · exact changeEmits_noPress _ _ _ _ k x hx hxk
  · rw [hs, pressEmits, if_neg (by simp)] at hx
    cases hx
  · unfold holdEmits heldEmits at hx
    split at hx
    · split at hx
      · split at hx
        · rcases List.mem_append.1 hx with hx | hx
          · exact hrelease hx
          · cases List.mem_singleton.1 hx
        · split at hx
          · rcases List.mem_pair.1 hx with hx | hx
            · cases hx
            · cases hx
              simp
          · cases hx
      · cases hx
    · cases hx
  · obtain ⟨i, arg, hx⟩ := scanChordEmits_post hx
    cases hx

/-- A key held before a scan that starts suppression is released in it, in step 4 or in step 5 (R122, R128). -/
theorem scanOut_released (hpad : PadOk s) (hstarts : s.ksu.suppressed = false ∧
      scanSuppressed s.settings.keypad s.time.ms raws s.ksu = true) {k : Nat} (hk : k < 20)
    (hheld : (s.ksu.key k).state.held = true) :
    ∃ a b, ∀ e ∈ releaseEmits s.time.ms k (s.ksu.key k) a b, e ∈ scanOut raws s := by
  obtain ⟨hsize, hkeys⟩ := (padOk_iff s).1 hpad
  have hfitted : k < s.settings.keypad.keysFitted := by
    by_contra hf
    rw [((hkeys k hk).2.2.1 (by omega)).1] at hheld
    cases hheld
  have htime : (measured s.settings.keypad s.ksu.retake (raws.getD k 0) (s.ksu.key k)).pressTime =
      (s.ksu.key k).pressTime := by rw [measured_eq]
  have hheld' : (measured s.settings.keypad s.ksu.retake (raws.getD k 0) (s.ksu.key k)).state.held = true := by
    rw [measured_state]; exact hheld
  by_cases hrel : releasesNow s.settings.keypad
      (measured s.settings.keypad s.ksu.retake (raws.getD k 0) (s.ksu.key k)) = true
  · refine ⟨false, false, fun e he => stepEmits_scanOut hsize hk ?_⟩
    rwa [stepEmits, if_pos ⟨hfitted, hrel⟩, releaseEmits_congr htime]
  · have hstepped : (stepped s.settings.keypad s.time.ms raws s.ksu k).state.held = true ∧
        (stepped s.settings.keypad s.time.ms raws s.ksu k).pressTime = (s.ksu.key k).pressTime := by
      have hno := mt (releasesNow_held hheld').2 hrel
      rw [stepped, if_pos hfitted, debounced_held hheld']
      split
      · exact ⟨rfl, htime⟩
      · rw [if_neg fun hrun => hno ⟨‹_›, hrun⟩]
        exact ⟨rfl, htime⟩
    have hjudged := (scanJudged_fields hsize s.settings.keypad s.time.ms raws).2.2.2.2.2 k hk
    refine ⟨true, false, fun e he => changeEmits_scanOut hsize (silenceEmits_changeEmits hstarts hk ?_ e ?_)⟩
    · rw [hjudged]; exact hstepped.1
    · rwa [hjudged, releaseEmits_congr hstepped.2]

/-- A scan in which cover starts suppression (R127, R128). -/
theorem takeScan_started (hpad : PadOk s) (hkeq : KeqOk s.keq) (hstarts : s.ksu.suppressed = false ∧
      scanSuppressed s.settings.keypad s.time.ms raws s.ksu = true) : SuppressionStarted 2 s (takeScan raws s) := by
  have hsize : s.ksu.keys.length = 20 := hpad.size
  have hdone := takeScan_done hsize raws
  have hnot : ¬ (s.ksu.suppressed = true ∧ scanSuppressed s.settings.keypad s.time.ms raws s.ksu = false) := by
    simp [hstarts.1]
  obtain ⟨hraise, hend⟩ := (changeEmits_cause (now := s.time.ms) (cause := 2)
    (u := scanJudged s.settings.keypad s.time.ms raws s.ksu)).1 hstarts
  have hraise' := changeEmits_scanOut hsize hraise
  refine ⟨fun k hk => ?_, fun k hk hheld => ?_, fun htakes k hk hheld => ?_, fun i => ?_, ?_, ?_, ?_, ?_⟩
  · have hsilent : covered s.settings.keypad s.time.ms raws s.ksu k =
        (stepped s.settings.keypad s.time.ms raws s.ksu k).silenced := if_pos hstarts
    have hpressed : (pressedAt s.settings.keypad s.time.ms raws s.ksu k).state =
        (stepped s.settings.keypad s.time.ms raws s.ksu k).silenced.state := by
      rw [pressedAt, hstarts.2, hsilent, pressed_suppressed]
    have hstate := silenced_idle_or_quarantined (stepped s.settings.keypad s.time.ms raws s.ksu k)
    rw [← hpressed] at hstate
    have hnotHeld : (pressedAt s.settings.keypad s.time.ms raws s.ksu k).state.held = false := by
      rcases hstate with h | h <;> rw [h] <;> rfl
    have hkey := (hdone.key_state hk).1
    dsimp only at hkey
    rw [hkey, settled]
    split
    · rwa [heldTested_of_not_held hnotHeld]
    · exact hstate
  · obtain ⟨a, b, hrel⟩ := scanOut_released hpad hstarts hk hheld
    exact takeScan_told (hrel _ List.mem_cons_self)
  · obtain ⟨a, b, hrel⟩ := scanOut_released hpad hstarts hk hheld
    rw [takeScan_eq, emitAll_keq]
    exact keqAfter_closed (hrel _ (List.mem_cons_of_mem _ List.mem_cons_self)) (scanOut_noPress hsize hstarts.2 k)
      hkeq.distinct htakes
  · have hchord := hdone.chord i
    dsimp only at hchord
    rw [hchord, if_pos hstarts]
    by_cases hset : (s.settings.chord.get i).keys = []
    · rw [chordTested_of_empty hset]
    · have hno := not_exactlyHeld_of_suppressed hpad hset hstarts.2
      cases hs : (s.ksu.chords.get i).spent with
      | true => exact (chordTested_waits hset hno rfl).2
      | false => rw [chordTested_of_not_exact hset hno rfl]
  · exact hdone.recalRef.trans (if_neg hnot)
  · rw [takeScan_eq, emitAll_latched_cond _ _ (by simp) (by simp), decide_eq_true hraise', Bool.or_true]
  · rw [takeScan_eq, emitAll_live_cond]
    exact causeAfter_of_raise rfl hraise' (fun h => hend (scanOut_suppressed hsize (.inr rfl) h)) _
  · refine takeScan_told (changeEmits_scanOut hsize ?_)
    rw [changeEmits_of_start hstarts]
    simp [event]

/-- A scan in which the end of cover ends suppression (R127, R130). -/
theorem takeScan_ended (hsize : s.ksu.keys.length = 20) (hends : s.ksu.suppressed = true ∧
      scanSuppressed s.settings.keypad s.time.ms raws s.ksu = false) : SuppressionEnded 2 s (takeScan raws s) := by
  have hdone := takeScan_done hsize raws
  obtain ⟨hend, hraise⟩ := (changeEmits_cause (now := s.time.ms) (cause := 2)
    (u := scanJudged s.settings.keypad s.time.ms raws s.ksu)).2 hends
  have htemp : (takeScan raws s).zoneTemp .n0 = s.zoneTemp .n0 := by
    have hzmon : (takeScan raws s).zmon = s.zmon := emitAll_zmon _ _
    rw [State.zoneTemp, hzmon]
    rfl
  refine ⟨?_, ?_, hdone.retake.trans (if_pos hends), ?_⟩
  · rw [takeScan_eq, emitAll_live_cond]
    exact causeAfter_of_end (changeEmits_scanOut hsize hend)
      (fun h => hraise (scanOut_suppressed hsize (.inl rfl) h)) _
  · refine takeScan_told (changeEmits_scanOut hsize ?_)
    rw [changeEmits_of_end hends]
    simp [event]
  · rw [htemp]
    refine hdone.recalRef.trans ((if_pos hends).trans ?_)
    cases s.zoneTemp .n0 <;> rfl

end

end Sys2Proof.Machine

namespace Sys2Proof.Proofs
open Sys2Proof.Machine Sys2Proof.Safety

/-- Settles O55, by the judgement of cover and the change of suppression that follows it. -/
theorem keyScanJudgesCover : Obligations.KeyScanJudgesCover := by
  intro raws s hraws hhold hpad hkeq hranges
  have hsize : s.ksu.keys.length = 20 := hpad.size
  have hdone := takeScan_done hsize raws
  obtain ⟨hjudged, hjudgedFall⟩ := scanJudged_cover hsize s.settings.keypad s.time.ms raws
  have hcover := hdone.cover.trans hjudged
  have hfall := hdone.coverFall.trans hjudgedFall
  have hsup := hdone.suppressed
  dsimp only at hcover hfall hsup
  rw [coverCount_scan hpad hranges, coverJudged] at hcover
  rw [coverCount_scan hpad hranges, coverFallJudged] at hfall
  rw [Ksu.suppressed, hdone.condensation, hdone.frost] at hsup
  refine ⟨takeScan raws s, execKeyScan_eq hraws hhold, takeScan_reach raws s, hdone.condensation, hdone.frost,
    fun hoff hfew => ?_, fun hoff hmany => ?_, fun hon hmany => ?_, fun hon hfew hnone => ?_,
    fun fall hon hfew hfallen => ?_⟩
  · rw [hoff, decide_eq_false hfew] at hcover
    rw [hoff] at hfall
    exact ⟨hcover, hfall⟩
  · rw [hoff, decide_eq_true hmany] at hcover
    rw [hoff] at hfall
    refine ⟨hcover, hfall, fun hs => takeScan_started hpad hkeq ⟨hs, ?_⟩⟩
    rw [← hsup, hcover]
    simp
  · rw [hon, decide_eq_true hmany] at hcover hfall
    exact ⟨hcover, hfall⟩
  · rw [hon, decide_eq_false hfew, hnone] at hcover hfall
    exact ⟨hcover, hfall⟩
  · rw [hon, decide_eq_false hfew, hfallen] at hcover hfall
    dsimp only at hcover hfall
    by_cases hover : s.settings.keypad.coverHold ≤ elapsed s.time.ms fall
    · rw [if_pos hover]
      simp only [decide_eq_true hover, if_true, Bool.false_or, Bool.not_true] at hcover
      simp only [if_pos hover, if_true] at hfall
      refine ⟨hcover, hfall, fun hc hf => takeScan_ended hsize ⟨?_, ?_⟩⟩
      · rw [Ksu.suppressed, hon]; simp
      · rw [← hsup, hc, hf, hcover]; rfl
    · rw [if_neg hover]
      simp only [decide_eq_false hover, if_true, Bool.false_or, Bool.not_false] at hcover
      simp only [if_neg hover, if_true] at hfall
      exact ⟨hcover, hfall⟩

end Sys2Proof.Proofs

namespace Sys2Proof.Machine
open Sys2Proof.Safety

/-! ### The open keys through the host's part in a round (R65, R139, R144) -/

/-- The open keys are gone, or they are as they were and KEQ still takes keys where it did. -/
def OpenKeysKept (q q' : Keq) : Prop :=
  q'.openKeys = [] ∨ (q'.openKeys = q.openKeys ∧ (q.seen.takesKeys = true → q'.seen.takesKeys = true))

theorem OpenKeysKept.refl (q : Keq) : OpenKeysKept q q := .inr ⟨rfl, id⟩

theorem OpenKeysKept.trans {q r x : Keq} (h : OpenKeysKept q r) (k : OpenKeysKept r x) : OpenKeysKept q x := by
  rcases k with k | ⟨hk, htakes⟩
  · exact .inl k
  · rcases h with h | ⟨hh, htakes'⟩
    · exact .inl (hk.trans h)
    · exact .inr ⟨hk.trans hh, fun hq => htakes (htakes' hq)⟩

/-- A key that is not open is not opened. -/
theorem OpenKeysKept.closed {q q' : Keq} (h : OpenKeysKept q q') {k : Nat} (hk : k ∉ q.openKeys) :
    k ∉ q'.openKeys := by
  rcases h with h | ⟨h, -⟩ <;> rw [h]
  · simp
  · exact hk

theorem enterState_openKeys (new : HostState) (stage : Stage) (timer : Option Nat) (s : State) :
    OpenKeysKept s.keq (enterState new stage timer s).keq := by
  rw [enterState_keq]
  split
  · exact .inr ⟨rfl, fun _ => ‹_›⟩
  · exact .inl rfl

theorem testAdmission_openKeys (s : State) : OpenKeysKept s.keq (testAdmission s).keq := by
  unfold testAdmission admitHost
  split
  · have h := enterState_openKeys .powering .pending none (post (event .admission 0 s.hps.qualClock) s)
    rwa [post_keq] at h
  · exact .refl _

theorem enterQualifying_openKeys (s : State) : OpenKeysKept s.keq (enterQualifying s).keq := by
  have hwarm : (startWarmUp s).keq = s.keq := by
    unfold startWarmUp
    split <;> rfl
  have hentry := enterState_openKeys .qualifying .noStage none (startWarmUp s)
  rw [hwarm] at hentry
  unfold enterQualifying
  dsimp only
  generalize enterState .qualifying .noStage none (startWarmUp s) = u at hentry ⊢
  have hlatched : (if u.hps.warmTimeout = true then raise .warmTimeout u else u).keq = u.keq := by
    split
    · exact raise_keq _ _
    · rfl
  rw [← hlatched] at hentry
  exact hentry.trans (testAdmission_openKeys _)

theorem beginStop_openKeys (cause : StopCause) (zone : Option Zone) (d : Destination) (s : State) :
    OpenKeysKept s.keq (beginStop cause zone d s).keq := by
  unfold beginStop
  dsimp only
  rw [notify_keq, enterState_keq, State.setHps_keq]
  exact .inr ⟨rfl, fun _ => rfl⟩

/-- A crit excursion closes keys at most (R65, R144). -/
theorem critExcursion_openKeys (z : Zone) (s : State) : OpenKeysKept s.keq (critExcursion z s).keq := by
  have hraise : (raise .thermalStop s).keq = s.keq := raise_keq _ _
  have hstop := beginStop_openKeys .thermal (some z) .qualifying (raise .thermalStop s)
  have hback := enterQualifying_openKeys (raise .thermalStop s)
  rw [hraise] at hstop hback
  unfold critExcursion
  cases s.hps.state with
  | booting => exact hstop
  | running =>
    dsimp only
    split
    · rw [hraise]; exact .refl _
    · exact hstop
  | stopping =>
    dsimp only
    split
    · split
      · rw [notify_keq, State.setHps_keq, raise_keq]
        exact .refl _
      · rw [raise_keq]
        exact .refl _
    · exact .refl _
  | powering | resetting => exact hback
  | off | qualifying | cycling | suspended | lockedOut => exact .refl _

/-! ### The keypad's turn in a round (R126, log entry 3) -/

/-- The pad and what becomes of SUPPRESSED are left aside. -/
structure PadAside (s t : State) : Prop where
  kept : RoundKept s t
  ksu : t.ksu = s.ksu
  tells : Tells s t
  live : t.live .suppressed = s.live .suppressed
  latched : t.latched .suppressed = s.latched .suppressed
  keq : OpenKeysKept s.keq t.keq

theorem PadAside.refl (s : State) : PadAside s s := ⟨.refl s, rfl, .refl s, rfl, rfl, .refl _⟩

theorem PadAside.trans {s t u : State} (h : PadAside s t) (k : PadAside t u) : PadAside s u :=
  ⟨h.kept.trans k.kept, k.ksu.trans h.ksu, h.tells.trans k.tells, k.live.trans h.live, k.latched.trans h.latched,
    h.keq.trans k.keq⟩

theorem PadAside.of_host {s t : State} (hreach : HostReach s t) (htells : HostTells s t)
    (hkeq : OpenKeysKept s.keq t.keq) : PadAside s t :=
  ⟨.of_reach hreach, hreach.kept.ksu, htells.tells, htells.live _ (by simp) (by simp), htells.latched _ rfl, hkeq⟩

theorem zmonEmits_no_offer (old m : Zmon) (r : KeyEvent) : Emit.offer r ∉ zmonEmits old m := by
  simp only [zmonEmits, List.mem_append, List.mem_flatMap, zoneLatches, supplyLatches, zoneEvents, supplyEvents]
  rintro (((⟨z, -, h⟩ | h) | ⟨z, -, h⟩) | h)
  · split at h <;> simp at h
  · split at h <;> simp at h
  · split at h <;> simp at h
  · split at h
    · simp at h
    · split at h <;> simp at h

/-- A round's report tells nothing of the pad. -/
theorem padAside_report (old : Zmon) (s : State) : PadAside s (roundTask old .report s) := by
  have hraise : Emit.raise .suppressed ∉ zmonEmits old s.zmon := fun h => by
    rcases zmonEmits_raise h with ⟨z, h, -⟩ | ⟨h, -⟩ <;> cases h
  refine ⟨.emitAll _ _, emitAll_ksu _ _, Tells.emitAll _ _, ?_, ?_, ?_⟩
  · exact (emitAll_live_cond _ _ _).trans (causeAfter_of_untouched hraise (zmonEmits_no_end _ _ _) _)
  · refine (emitAll_latched_cond _ _ (by simp) (by simp)).trans ?_
    rw [decide_eq_false hraise, Bool.or_false]
  · change OpenKeysKept s.keq (emitAll (zmonEmits old s.zmon) s).keq
    rw [emitAll_keq, keqAfter_of_no_offer (zmonEmits_no_offer _ _)]
    exact .refl _

/-- The other tasks of a round leave the pad aside. -/
theorem padAside_task (old : Zmon) {task : RoundTask} (h : task ≠ .keypad) (s : State) :
    PadAside s (roundTask old task s) := by
  cases task with
  | report => exact padAside_report old s
  | crit z =>
    simp only [roundTask]
    split
    · exact .of_host (critExcursion_reach z s) (critExcursion_tells z s) (critExcursion_openKeys z s)
    · exact .refl s
  | admission => exact .of_host (testAdmission_reach s) (testAdmission_tells s) (testAdmission_openKeys s)
  | keypad => exact absurd rfl h

theorem padAside_tasks (old : Zmon) {tasks : List RoundTask} (h : .keypad ∉ tasks) (s : State) :
    PadAside s (tasks.foldl (fun s t => roundTask old t s) s) := by
  induction tasks generalizing s with
  | nil => exact .refl s
  | cons t ts ih =>
    exact (padAside_task old (fun ht => h (ht ▸ List.mem_cons_self)) s).trans
      (ih (fun hts => h (List.mem_cons_of_mem _ hts)) _)

/-- KEYPAD has its turn once, among the other tasks. -/
theorem keypad_split {order : List RoundTask} (h : order.isPerm RoundTask.all = true) :
    ∃ before after, order = before ++ .keypad :: after ∧ .keypad ∉ before ∧ .keypad ∉ after := by
  have hperm := List.isPerm_iff.1 h
  obtain ⟨before, after, rfl⟩ := List.append_of_mem ((hperm.mem_iff (a := .keypad)).2 (by decide))
  have hnodup := hperm.nodup_iff.2 (by decide)
  rw [List.nodup_middle, List.nodup_cons, List.mem_append, not_or] at hnodup
  exact ⟨before, after, rfl, hnodup.1⟩

/-- KSU puts its pad, and hands on what it gives (R132). -/
def putPad (p : Pad) (s : State) : State := emitAll p.out (s.setKsu p.ksu)

/-- What a round makes of the pad: KSU judges it on the records published, on the pad as it was; what it hands on
goes to the state as the tasks before it have left it. -/
structure PadTurn (s u t : State) (p : Pad) : Prop where
  ksu : t.ksu = p.ksu
  latched : u.latched .suppressed = s.latched .suppressed
  live : u.live .suppressed = s.live .suppressed
  before : OpenKeysKept s.keq u.keq
  after : PadAside (putPad p u) t

theorem takeRound_turn {order : List RoundTask} (h : order.isPerm RoundTask.all = true) (raw : PerFour Int)
    (supply : Int) (s : State) : ∃ u, PadTurn s u (takeRound raw supply order s)
      (keypadRound s.settings.keypad s.time.ms ((takeRound raw supply order s).zoneTemp .n0)
        ((takeRound raw supply order s).zoneTemp .n3) s.ksu) := by
  obtain ⟨before, after, rfl, hbefore, hafter⟩ := keypad_split h
  have hzmon := takeRound_zmon raw supply (before ++ .keypad :: after) s
  have hfirst := padAside_tasks s.zmon hbefore (published raw supply s)
  refine ⟨before.foldl (fun s' t => roundTask s.zmon t s') (published raw supply s), ?_⟩
  have htake : takeRound raw supply (before ++ .keypad :: after) s =
      after.foldl (fun s' t => roundTask s.zmon t s') (roundTask s.zmon .keypad
        (before.foldl (fun s' t => roundTask s.zmon t s') (published raw supply s))) := by
    rw [takeRound, List.foldl_append, List.foldl_cons]
    rfl
  have hlast := padAside_tasks s.zmon hafter (roundTask s.zmon .keypad
    (before.foldl (fun s' t => roundTask s.zmon t s') (published raw supply s)))
  rw [← htake] at hlast
  simp only [State.zoneTemp, hzmon]
  generalize before.foldl (fun s' t => roundTask s.zmon t s') (published raw supply s) = u at hfirst hlast ⊢
  have hturn : roundTask s.zmon .keypad u = putPad (keypadRound s.settings.keypad s.time.ms
      ((roundZmon raw supply s).zones.get .n0).temp ((roundZmon raw supply s).zones.get .n3).temp s.ksu) u := by
    have hsettings : u.settings = s.settings := hfirst.kept.settings
    have htime : u.time = s.time := hfirst.kept.time
    have hksu : u.ksu = s.ksu := hfirst.ksu
    have hrecords : u.zmon = roundZmon raw supply s := hfirst.kept.zmon
    simp only [roundTask, putPad, State.zoneTemp, hsettings, htime, hksu, hrecords]
  rw [hturn] at hlast
  exact ⟨hlast.ksu.trans (emitAll_ksu _ _), hfirst.latched, hfirst.live.trans (publishRound_live _ _ .suppressed),
    hfirst.keq, hlast⟩

end Sys2Proof.Machine

namespace Sys2Proof.Machine
open Sys2Proof.Safety

/-! ### What a round makes of suppression (R126, R128, R130) -/

section
variable {s u t : State} {c : KeypadSettings} {t0 t3 : Option Int} {p : Pad}

/-- Suppression is active after the round (R126). -/
def wetAfter (c : KeypadSettings) (t0 t3 : Option Int) (s : State) : Bool := (s.ksu.withWater c t0 t3).suppressed

theorem keypadRound_eq_after : keypadRound c s.time.ms t0 t3 s.ksu =
    if s.ksu.suppressed = false ∧ wetAfter c t0 t3 s = false then ⟨recalTest c t0 (s.ksu.withWater c t0 t3), []⟩
    else changeSuppression s.time.ms t0 (waterCause c t0 t3 s.ksu) s.ksu.suppressed ⟨s.ksu.withWater c t0 t3, []⟩ :=
  keypadRound_eq _ _ _ _ _

/-- A round that starts or ends suppression, or is made while it is active, makes that change alone (log entry 22). -/
theorem keypadRound_changed (hsize : s.ksu.keys.length = 20)
    (h : ¬ (s.ksu.suppressed = false ∧ wetAfter c t0 t3 s = false)) :
    SuppressionChanged s.time.ms t0 (waterCause c t0 t3 s.ksu) s.ksu.suppressed ⟨s.ksu.withWater c t0 t3, []⟩
      (keypadRound c s.time.ms t0 t3 s.ksu) := by
  rw [keypadRound_eq_after, if_neg h]
  exact suppressionChanged hsize _ _ _ _

/-- A held key that is released when suppression starts is closed, whatever the tasks after it do (R128, R139). -/
theorem PadTurn.closed (hturn : PadTurn s u t p) (hnodup : s.keq.openKeys.Nodup)
    (htakes : s.keq.seen.takesKeys = true) {k : Nat} (hpress : NoPressOf k p.out) {a b : Bool} {time : Word16}
    (hrel : Emit.offer ⟨k, .release a b, time⟩ ∈ p.out) : k ∉ t.keq.openKeys := by
  refine hturn.after.keq.closed ?_
  rw [putPad, emitAll_keq]
  rcases hturn.before with hnone | ⟨hopen, hseen⟩
  · exact keqAfter_closed_of_no_press hpress (by rw [State.setKsu_keq, hnone]; simp)
  · exact keqAfter_closed hrel hpress (by rw [State.setKsu_keq, hopen]; exact hnodup) (hseen htakes)

theorem PadTurn.told (hturn : PadTurn s u t p) {e : Event} (h : Emit.post e ∈ p.out) : Told e t :=
  told_mono (emitAll_told h _) hturn.after.tells

theorem PadTurn.live_eq (hturn : PadTurn s u t p) :
    t.live .suppressed = causeAfter .suppressed p.out (s.live .suppressed) := by
  rw [hturn.after.live, putPad, emitAll_live_cond, ← hturn.live]
  rfl

theorem PadTurn.latched_eq (hturn : PadTurn s u t p) :
    t.latched .suppressed = (s.latched .suppressed || decide (Emit.raise .suppressed ∈ p.out)) := by
  rw [hturn.after.latched, putPad, emitAll_latched_cond _ _ (by simp) (by simp), ← hturn.latched]
  rfl

/-- A round that starts suppression (R128). -/
theorem PadTurn.started (hturn : PadTurn s u t (keypadRound c s.time.ms t0 t3 s.ksu)) (hsize : s.ksu.keys.length = 20)
    (hkeq : KeqOk s.keq) (hstarts : s.ksu.suppressed = false ∧ wetAfter c t0 t3 s = true) :
    SuppressionStarted (BitVec.ofNat 8 (waterCause c t0 t3 s.ksu)) s t ∧ t.ksu.retake = s.ksu.retake := by
  have hchange := keypadRound_changed hsize (fun h => by rw [hstarts.2] at h; cases h.2)
  have hnot : ¬ (s.ksu.suppressed = true ∧ wetAfter c t0 t3 s = false) := by simp [hstarts.1]
  have hout : (keypadRound c s.time.ms t0 t3 s.ksu).out =
      changeEmits s.time.ms (waterCause c t0 t3 s.ksu) s.ksu.suppressed (s.ksu.withWater c t0 t3) := hchange.out
  obtain ⟨hraise, hend⟩ := (changeEmits_cause (now := s.time.ms) (cause := waterCause c t0 t3 s.ksu)
    (u := s.ksu.withWater c t0 t3)).1 hstarts
  have hrelease {k : Nat} (hk : k < 20) (hheld : (s.ksu.key k).state.held = true) :=
    silenceEmits_changeEmits (now := s.time.ms) (cause := waterCause c t0 t3 s.ksu)
      (u := s.ksu.withWater c t0 t3) hstarts hk hheld
  rw [← hout] at hraise hend hrelease
  refine ⟨⟨fun k _ => ?_, fun k hk hheld => ?_, fun htakes k hk hheld => ?_, fun i => ?_, ?_, ?_, ?_, ?_⟩, ?_⟩
  · have hkey : t.ksu.key k = (s.ksu.key k).silenced := by
      rw [hturn.ksu]
      exact (hchange.key k).trans (if_pos hstarts)
    rw [hkey]
    exact silenced_idle_or_quarantined _
  · exact hturn.told (hrelease hk hheld _ List.mem_cons_self)
  · refine hturn.closed hkeq.distinct htakes ?_ (hrelease hk hheld _ (List.mem_cons_of_mem _ List.mem_cons_self))
    rw [hout]
    exact changeEmits_noPress _ _ _ _ k
  · rw [hturn.ksu]
    exact congrArg ChordRec.start ((hchange.chord i).trans (if_pos hstarts))
  · rw [hturn.ksu]
    exact hchange.recalRef.trans (if_neg hnot)
  · rw [hturn.latched_eq, decide_eq_true hraise, Bool.or_true]
  · rw [hturn.live_eq]
    exact causeAfter_of_raise rfl hraise hend _
  · refine hturn.told ?_
    rw [hout, changeEmits_of_start hstarts]
    simp [event]
  · rw [hturn.ksu]
    exact hchange.retake.trans (if_neg hnot)

/-- A change of suppression that is no start leaves the keys and the chords. -/
theorem changeSuppression_keys {now : Word32} {cause : Nat} {before : Bool} {p : Pad}
    (h : ¬ (before = false ∧ p.ksu.suppressed = true)) :
    (changeSuppression now t0 cause before p).ksu.keys = p.ksu.keys ∧
      (changeSuppression now t0 cause before p).ksu.chords = p.ksu.chords := by
  rw [changeSuppression, if_neg h]
  split <;> exact ⟨rfl, rfl⟩

/-- A round that ends suppression (R130). -/
theorem PadTurn.ended (hturn : PadTurn s u t (keypadRound c s.time.ms t0 t3 s.ksu)) (hsize : s.ksu.keys.length = 20)
    (ht0 : t.zoneTemp .n0 = t0) (hends : s.ksu.suppressed = true ∧ wetAfter c t0 t3 s = false) :
    SuppressionEnded (BitVec.ofNat 8 (waterCause c t0 t3 s.ksu)) s t ∧
      t.ksu.keys = s.ksu.keys ∧ t.ksu.chords = s.ksu.chords := by
  have hno : ¬ (s.ksu.suppressed = false ∧ wetAfter c t0 t3 s = false) := by simp [hends.1]
  have hchange := keypadRound_changed hsize hno
  have hout : (keypadRound c s.time.ms t0 t3 s.ksu).out =
      changeEmits s.time.ms (waterCause c t0 t3 s.ksu) s.ksu.suppressed (s.ksu.withWater c t0 t3) := hchange.out
  obtain ⟨hend, hraise⟩ := (changeEmits_cause (now := s.time.ms) (cause := waterCause c t0 t3 s.ksu)
    (u := s.ksu.withWater c t0 t3)).2 hends
  rw [← hout] at hend hraise
  refine ⟨⟨?_, ?_, ?_, ?_⟩, ?_⟩
  · rw [hturn.live_eq]
    exact causeAfter_of_end hend hraise _
  · refine hturn.told ?_
    rw [hout, changeEmits_of_end hends]
    simp [event]
  · rw [hturn.ksu]
    exact hchange.retake.trans (if_pos hends)
  · rw [hturn.ksu, ht0]
    refine hchange.recalRef.trans ((if_pos hends).trans ?_)
    cases t0 <;> rfl
  · rw [hturn.ksu, keypadRound_eq_after, if_neg hno]
    exact changeSuppression_keys (p := ⟨s.ksu.withWater c t0 t3, []⟩) (by simp [hends.1])

/-- A round while suppression stays as it is hands nothing on: active, it judges the causes alone; inactive, it makes
the recalibration test (R119, R126). -/
theorem keypadRound_stays (h : s.ksu.suppressed = wetAfter c t0 t3 s) :
    keypadRound c s.time.ms t0 t3 s.ksu =
      ⟨if s.ksu.suppressed = true then s.ksu.withWater c t0 t3 else recalTest c t0 (s.ksu.withWater c t0 t3), []⟩ := by
  rw [keypadRound_eq_after, ← h]
  cases hs : s.ksu.suppressed with
  | true =>
    have hwet : (s.ksu.withWater c t0 t3).suppressed = true := h.symm.trans hs
    rw [if_neg (by simp), changeSuppression, if_neg (by simp), if_neg (by simp [hwet])]
    rfl
  | false => rfl

theorem PadTurn.stays (hturn : PadTurn s u t (keypadRound c s.time.ms t0 t3 s.ksu))
    (h : s.ksu.suppressed = wetAfter c t0 t3 s) :
    t.ksu = (if s.ksu.suppressed = true then s.ksu.withWater c t0 t3
        else recalTest c t0 (s.ksu.withWater c t0 t3)) ∧
      t.live .suppressed = s.live .suppressed ∧ t.latched .suppressed = s.latched .suppressed := by
  refine ⟨by rw [hturn.ksu, keypadRound_stays h], ?_, ?_⟩
  · rw [hturn.live_eq, keypadRound_stays h]
    rfl
  · rw [hturn.latched_eq, keypadRound_stays h]
    simp

end

/-- What the recalibration test makes of the reference and the re-take (R119). -/
theorem recalTest_cases (c : KeypadSettings) (t0 : Option Int) (u : Ksu) :
    match t0, u.recalRef with
    | none, _ => (recalTest c t0 u).recalRef = u.recalRef ∧ (recalTest c t0 u).retake = u.retake
    | some glass, none => (recalTest c t0 u).recalRef = some glass ∧ (recalTest c t0 u).retake = u.retake
    | some glass, some ref =>
      if glass - ref ≤ c.recalStep ∧ ref - glass ≤ c.recalStep then
        (recalTest c t0 u).recalRef = some ref ∧ (recalTest c t0 u).retake = u.retake
      else
        (recalTest c t0 u).recalRef = some glass ∧
          (recalTest c t0 u).retake = (if u.retake = .allKeys then .allKeys else .idleKeys) := by
  unfold recalTest
  cases t0 with
  | none => exact ⟨rfl, rfl⟩
  | some glass =>
    cases hr : u.recalRef with
    | none => exact ⟨rfl, rfl⟩
    | some ref =>
      dsimp only
      by_cases hstep : glass - ref ≤ c.recalStep ∧ ref - glass ≤ c.recalStep
      · have hno : ¬ (c.recalStep : Int) < |glass - ref| := by
          rw [lt_abs]; omega
        rw [if_pos hstep, if_neg hno]
        exact ⟨hr, rfl⟩
      · have hyes : (c.recalStep : Int) < |glass - ref| := by
          rw [lt_abs]; omega
        rw [if_neg hstep, if_pos hyes]
        exact ⟨rfl, rfl⟩

/-- The cause told of a start, and of an end, as its number (R128, R130). -/
theorem waterCause_dry {c : KeypadSettings} {t0 t3 : Option Int} {u : Ksu} (h : u.suppressed = false) :
    BitVec.ofNat 8 (waterCause c t0 t3 u) = if condensationNow c t0 t3 then 0 else 1 := by
  rw [waterCause, h]
  cases condensationNow c t0 t3 <;> rfl

theorem waterCause_wet {c : KeypadSettings} {t0 t3 : Option Int} {u : Ksu} (h : u.suppressed = true) :
    BitVec.ofNat 8 (waterCause c t0 t3 u) = if u.condensation then 0 else 1 := by
  rw [waterCause, h]
  cases u.condensation <;> rfl

theorem condensationNow_eq (c : KeypadSettings) (t0 t3 : Option Int) : condensationNow c t0 t3 =
    (match t0, t3 with
     | some glass, some air => decide (0 < c.condMargin ∧ glass < air - c.condMargin)
     | _, _ => false) := by
  cases t0 with
  | none => rfl
  | some glass =>
    cases t3 with
    | none => rfl
    | some air => exact (Bool.decide_and _ _).symm

end Sys2Proof.Machine

namespace Sys2Proof.Proofs
open Sys2Proof.Machine Sys2Proof.Safety

/-- Settles O54, by the keypad's turn among the round's tasks: suppression starts, ends, or stays. -/
theorem roundJudgesSuppression : Obligations.RoundJudgesSuppression := by
  intro raw supply order s horder hhold hpad hkeq
  have hsize : s.ksu.keys.length = 20 := hpad.size
  obtain ⟨u, hturn⟩ := takeRound_turn horder raw supply s
  refine ⟨takeRound raw supply order s, execSampleRound_eq horder hhold, ?_⟩
  generalize takeRound raw supply order s = t at hturn ⊢
  generalize ht0 : t.zoneTemp .n0 = t0 at hturn
  generalize ht3 : t.zoneTemp .n3 = t3 at hturn
  obtain ⟨-, hcond, hfrost, hcover, hfall⟩ := keypadRound_pad hsize s.settings.keypad s.time.ms t0 t3
  have hafter := keypadRound_suppressed hsize s.settings.keypad s.time.ms t0 t3
  rw [← hturn.ksu] at hcond hfrost hcover hfall hafter
  dsimp only
  refine ⟨hcond.trans (condensationNow_eq _ _ _), hfrost, hcover, hfall, fun hdry hwet => ?_, fun hwet hdry => ?_,
    fun hsame => ?_⟩
  · have hstarted := hturn.started hsize hkeq ⟨hdry, hafter.symm.trans hwet⟩
    rwa [waterCause_dry hdry, ← hcond] at hstarted
  · have hended := hturn.ended hsize ht0 ⟨hwet, hafter.symm.trans hdry⟩
    rwa [waterCause_wet hwet] at hended
  · obtain ⟨hksu, hlive, hlatched⟩ := hturn.stays (hsame.trans hafter)
    cases hs : s.ksu.suppressed with
    | true =>
      rw [hs, if_pos rfl] at hksu
      rw [← hsame, hs, hksu]
      exact ⟨rfl, rfl, hlive, hlatched, fun _ => ⟨rfl, rfl⟩, fun h => by cases h⟩
    | false =>
      rw [hs, if_neg (by simp)] at hksu
      rw [← hsame, hs, hksu]
      have hkept := recalTest_eq s.settings.keypad t0 (s.ksu.withWater s.settings.keypad t0 t3)
      refine ⟨by rw [hkept]; rfl, by rw [hkept]; rfl, hlive, hlatched, fun h => (by cases h), fun _ => ?_⟩
      exact recalTest_cases s.settings.keypad t0 (s.ksu.withWater s.settings.keypad t0 t3)

end Sys2Proof.Proofs
